-- ==== Sys2Proof/Word.lean ====
section
/-!
DEFINITION. Word: the words of the KB-816 and their plainest arithmetic (spec/00_scope.md, section 4).
Bytes, time counts and sequence numbers are words the part adds, wraps and sends, so they are bit
vectors. Counters, timers, depths and fills are counts, so they are natural numbers.
-/

namespace Sys2Proof

/-- One byte. -/
abbrev Byte := BitVec 8

/-- A value of the 32-bit time count, or of a field that carries one (R110). -/
abbrev Time := BitVec 32

/-- A 16-bit sequence number; it wraps (spec/00_scope.md 4.1). -/
abbrev Seq := BitVec 16

/-- A 48-bit Ethernet address. -/
abbrev Address := BitVec 48

/-- The largest value of a 32-bit saturating counter (spec/00_scope.md 4.1). -/
def countMax : Nat := 4294967295

/-- A 32-bit saturating counter incremented once. -/
def bump (n : Nat) : Nat := if n < countMax then n + 1 else n

/-- A 32-bit saturating counter incremented `k` times. -/
def bumpBy (n k : Nat) : Nat := if n + k ≤ countMax then n + k else max n countMax

/-- Two like things, kept side by side: the two network ports, the two control ports or the two
paths of a bundle. -/
structure Two (α : Type) where
  one : α
  two : α
deriving DecidableEq, Repr

/-- Both of two like things changed the same way. -/
def Two.map {α β : Type} (f : α → β) (x : Two α) : Two β := ⟨f x.one, f x.two⟩

end Sys2Proof
end

