-- ==== Sys2Proof/Syntax.lean ====
section
/-!
DEFINITION. Syntax: the names and values that commands carry, and the commands themselves, one
constructor of `Instr` per row of spec/opcode_table.json. A value that a rule may refuse or clamp is
carried raw (a number as received); a value that no rule can refuse is carried typed.
-/

namespace Sys2Proof

/-! ## Names -/

/-- The two control ports. Neither takes precedence (spec/09, opening). -/
inductive CtrlPort where
  | cp1 | cp2
deriving DecidableEq, Repr

/-- The two network ports. -/
inductive NetPort where
  | east | west
deriving DecidableEq, Repr

/-- The two paths of a bundle. -/
inductive Path where
  | p1 | p2
deriving DecidableEq, Repr

/-- Bundles B0 to B63. -/
abbrev BundleId := Fin 64

/-- Tributary ports T0 to T7. -/
abbrev TribId := Fin 8

/-- Capture slots C0 to C3. -/
abbrev CaptureId := Fin 4

/-- Clock candidates: the station reference and the receive timing of T0 to T7 (spec/08 8.1). -/
inductive Candidate where
  | station
  | trib (t : TribId)
deriving DecidableEq, Repr

/-! ## Tributary configuration (Table 5) -/

/-- Kind of a tributary port (Table 5). -/
inductive TribKind where
  | disabled | framed | unframed
deriving DecidableEq, Repr

/-- Transmit clock of a tributary port (Table 5). -/
inductive TxClock where
  | system | loop
  | steered (b : BundleId)
deriving DecidableEq, Repr

/-- Alert bit of a tributary port: NONE or one of bits 4 to 8 of the non-alignment word (Table 5). -/
inductive AlertBit where
  | off | bit4 | bit5 | bit6 | bit7 | bit8
deriving DecidableEq, Repr

/-- The configuration of one tributary port (Table 5). -/
structure TribConfig where
  kind : TribKind
  clock : TxClock
  idle : Byte
  alert : AlertBit
  aisWhenDown : Bool
  kp : Nat
  ki : Nat
deriving DecidableEq, Repr

/-- The six fields of a TRIB_CONFIG request as received: codes are numbers, a code outside its set
is refused by R1. -/
structure RawTribConfig where
  kind : Nat
  clock : Nat
  clockArg : Nat
  idle : Byte
  alert : Nat
  aisWhenDown : Bool
  kp : Nat
  ki : Nat
deriving DecidableEq, Repr

/-! ## Bundle records (Table 10) -/

/-- Path mode (Table 10). -/
inductive PathMode where
  | merged | selected | single
deriving DecidableEq, Repr

/-- Port map (Table 10). -/
inductive PortMap where
  | path1East | path1West
deriving DecidableEq, Repr

/-- Class of a bundle's packets (Table 10). -/
inductive PacketClass where
  | protection | priority | routine
deriving DecidableEq, Repr

/-- Delay mode (Table 10). -/
inductive DelayMode where
  | fixed | equalised
deriving DecidableEq, Repr

/-- Equalise apply (Table 10). -/
inductive EqualiseApply where
  | auto | held
deriving DecidableEq, Repr

/-- Substitution (Table 10). -/
inductive Substitution where
  | repeatLast | fill
deriving DecidableEq, Repr

/-- Switch authority (Table 10). -/
inductive Authority where
  | main | follower
deriving DecidableEq, Repr

/-- A slot set: ALL (slots 0 to 31) or a list of slots (Table 10). -/
inductive SlotSet where
  | all
  | list (slots : List Nat)
deriving DecidableEq, Repr

/-- A tag: its priority and its id (Table 10). -/
structure Tag where
  priority : Nat
  id : Nat
deriving DecidableEq, Repr

/-- A bundle record with every field in its set (Table 10). -/
structure Record where
  port : TribId
  slots : SlotSet
  fpp : Nat
  txLabel : Nat
  rxLabel : Nat
  pathMode : PathMode
  portMap : PortMap
  maxDepth : Nat
  farStation : Address
  tag : Option Tag
  pclass : PacketClass
  delayMode : DelayMode
  targetDepth : Nat
  targetDelay : Nat
  initialDepth : Nat
  eqApply : EqualiseApply
  deadband : Nat
  pace : Nat
  substitution : Substitution
  fillByte : Byte
  shiftK : Nat
  stepThreshold : Nat
  stepCount : Nat
  alertHold : Nat
  lossTime : Nat
  holdOff : Nat
  waitRestore : Nat
  primary : Path
  revertive : Bool
  authority : Authority
  autoStart : Bool
deriving DecidableEq, Repr

/-- A bundle record as a WRITE_PENDING or the stored image carries it: codes and numbers as received
(R20, R21). -/
structure RawRecord where
  port : Nat
  slots : SlotSet
  fpp : Nat
  txLabel : Nat
  rxLabel : Nat
  pathMode : Nat
  portMap : Nat
  maxDepth : Nat
  farStation : Address
  tag : Option Tag
  pclass : Nat
  delayMode : Nat
  targetDepth : Nat
  targetDelay : Nat
  initialDepth : Nat
  eqApply : Nat
  deadband : Nat
  pace : Nat
  substitution : Nat
  fillByte : Byte
  shiftK : Nat
  stepThreshold : Nat
  stepCount : Nat
  alertHold : Nat
  lossTime : Nat
  holdOff : Nat
  waitRestore : Nat
  primary : Nat
  revertive : Bool
  authority : Nat
  autoStart : Bool
deriving DecidableEq, Repr

/-- Which copy of a bundle record READ_BUNDLE names (R41). -/
inductive RecordCopy where
  | active | pending
deriving DecidableEq, Repr

/-! ## Acceptance list entries, sections, settings -/

/-- An acceptance list entry as received (Table 27, R71). -/
structure RawEntry where
  label : Nat
  mask : Nat
  action : Nat
  actionArg : Nat
  capture : Option Nat
  enabled : Bool
deriving DecidableEq, Repr

/-- A claimable section as OPEN_EDIT and CLOSE_EDIT name it: its class in the order of spec/09 9.4
(0 bundle, 1 tributary, 2 list, 3 timing, 4 settings) and its number (R171). -/
structure RawSection where
  cls : Nat
  num : Nat
deriving DecidableEq, Repr

/-- The four fields of WRITE_SETTINGS as received (Table 65). -/
structure RawSettings where
  east : Address
  west : Address
  bundleType : Nat
  idleLimit : Nat
deriving DecidableEq, Repr

/-- The priority and qualify time of one candidate as received (R156). -/
structure RawPriority where
  priority : Nat
  qualify : Nat
deriving DecidableEq, Repr

/-- A corruption of one stored payload byte in a bundle's ring: the byte at payload position `pos`
(from 0) of the packet of sequence `seq` is changed by the exclusive or with `mask` (R106). -/
structure Upset where
  bundle : BundleId
  seq : Seq
  pos : Nat
  mask : Byte
deriving DecidableEq, Repr

/-! ## Commands -/

/-- The ports that release a receive frame at one instant: one port, and the others under local frame
timing that release theirs at the same system frame start (R12, R51). -/
structure Release where
  port : TribId
  others : List TribId
deriving DecidableEq, Repr

/-- A piece of a response read: `bytes` bytes are clocked out, and select is released after them where
`ends` (R167, log entry 67). -/
structure ReadPiece where
  bytes : Nat
  ends : Bool
deriving DecidableEq, Repr

/-- The commands of the KB-816, one constructor per row of spec/opcode_table.json, in its order.
A request's first operand is the control port whose request it is. -/
inductive Instr where
  /-- REQUEST_WRITE: the bytes after direction byte 0x5A until select is released (R165, R166). -/
  | requestWrite (cp : CtrlPort) (bytes : List Byte)
  /-- RESPONSE_READ: a piece of a transfer with direction byte 0xA5, the next of a read in progress if there
  is one (R167, log entry 67). -/
  | responseRead (cp : CtrlPort) (piece : ReadPiece)
  /-- TRANSFER_IGNORED: a transfer with another direction byte, `n` bytes long after it (R165). -/
  | transferIgnored (cp : CtrlPort) (dir : Byte) (n : Nat)
  | readIdentity (cp : CtrlPort)
  | readSettings (cp : CtrlPort)
  | writeSettings (cp : CtrlPort) (raw : RawSettings)
  | openEdit (cp : CtrlPort) (sec : RawSection)
  | closeEdit (cp : CtrlPort) (sec : RawSection)
  | readBundle (cp : CtrlPort) (b : Nat) (copy : RecordCopy)
  | writePending (cp : CtrlPort) (b : Nat) (raw : RawRecord)
  | activate (cp : CtrlPort) (b : Nat)
  | start (cp : CtrlPort) (b : Nat)
  | stop (cp : CtrlPort) (b : Nat)
  | free (cp : CtrlPort) (b : Nat)
  | readPlayout (cp : CtrlPort) (b : Nat)
  | readDelay (cp : CtrlPort) (b : Nat) (p : Nat)
  | clearDelayExtremes (cp : CtrlPort) (b : Nat) (p : Nat)
  | applyEqualisation (cp : CtrlPort) (b : Nat)
  | readPath (cp : CtrlPort) (b : Nat)
  /-- PATH_COMMAND: `req` 0 CLEAR, 1 LOCKOUT, 2 FORCED, 3 MANUAL, with its path `q` (R148). -/
  | pathCommand (cp : CtrlPort) (b : Nat) (req : Nat) (q : Nat)
  /-- LIST_INSERT: `port` 0 East, 1 West; position `pos` (R71, R72). -/
  | listInsert (cp : CtrlPort) (port : Nat) (pos : Nat) (entry : RawEntry)
  | listRemove (cp : CtrlPort) (port : Nat) (pos : Nat)
  | listReplace (cp : CtrlPort) (port : Nat) (pos : Nat) (entry : RawEntry)
  | listRead (cp : CtrlPort) (port : Nat)
  | captureArm (cp : CtrlPort) (slot : Nat)
  | captureRead (cp : CtrlPort) (slot : Nat)
  | tribConfig (cp : CtrlPort) (port : Nat) (raw : RawTribConfig)
  | tribStatus (cp : CtrlPort) (port : Nat)
  | portStatus (cp : CtrlPort) (port : Nat)
  /-- TIMING_CONFIG: a priority and a qualify time for STATION and T0 to T7, in that order (R156). -/
  | timingConfig (cp : CtrlPort) (raw : Vector RawPriority 9)
  /-- TIMING_COMMAND: `mode` 0 AUTO, 1 FORCED, 2 FREE; `c` 0 STATION, 1 to 8 T0 to T7 (R157). -/
  | timingCommand (cp : CtrlPort) (mode : Nat) (c : Nat)
  | timingStatus (cp : CtrlPort)
  | readEvents (cp : CtrlPort)
  | readFaults (cp : CtrlPort)
  | clearFaults (cp : CtrlPort)
  | saveImage (cp : CtrlPort)
  | warmReset (cp : CtrlPort)
  | fullReset
  /-- IMAGE_LOAD: the bytes the serial memory delivers, from its offset 0 (R176). -/
  | imageLoad (bytes : List Byte)
  | memoryReadyTimeout
  /-- SAVE_READ_BACK: the bytes the serial memory gives back (R175). -/
  | saveReadBack (bytes : List Byte)
  | saveTimeout
  | lossOfSignal (t : TribId)
  | receiveClockTimeout (t : TribId)
  /-- RECOVERY_BLOCK_COMPLETE: the 512 received bits of the recovery block (R5). -/
  | recoveryBlockComplete (t : TribId) (block : BitVec 512)
  /-- AIS_BLOCK_COMPLETE: the 512 received bits of the block just completed (R6). -/
  | aisBlockComplete (t : TribId) (block : BitVec 512)
  /-- ALIGNMENT_FOUND: the 519 bits received from a candidate's first bit to the last bit of the
  second pattern; bit `i` of the vector is the `i`-th received (R7). -/
  | alignmentFound (t : TribId) (window : BitVec 519)
  /-- ALIGNMENT_WORD: bits 2 to 8 of slot 0 of an alignment frame; bit `i` of the vector is the
  `i`-th received (R8). -/
  | alignmentWord (t : TribId) (bits : BitVec 7)
  /-- NON_ALIGNMENT_WORD: bit 3 of slot 0 of a non-alignment frame (R10). -/
  | nonAlignmentWord (t : TribId) (bit3 : Bool)
  /-- RECEIVE_FRAME: the ports that release a frame, and the 32 slot bytes of the first one's, unused
  under local frame timing (R12, R13, R51). -/
  | receiveFrame (t : Release) (bytes : Vector Byte 32)
  /-- TRANSMIT_FRAME_START, with the corruptions that have befallen stored payload since the last
  one (R14, R106). -/
  | transmitFrameStart (t : TribId) (upsets : List Upset)
  | activationTakesEffect (b : BundleId)
  | playoutStart (b : BundleId)
  | adjustStep (b : BundleId)
  | steeringIntervalEnd (t : TribId)
  | linkIndicationAppears (n : NetPort)
  /-- LINK_INDICATION_LOST: `cutOff` a frame was in reception (R64); `back` the indication is already
  present again when the loss is taken (R63). -/
  | linkIndicationLost (n : NetPort) (cutOff : Bool) (back : Bool)
  | linkQualificationExpiry (n : NetPort)
  /-- FRAME_TAKEN: the frame check sequence, with whose last byte the frame is taken, whether the
  physical-layer device marked a byte as received in error, and the bytes from the destination address up
  to the check sequence (R64, R66). -/
  | frameTaken (n : NetPort) (fcs : Vector Byte 4) (rxError : Bool) (bytes : List Byte)
  | frameSent (n : NetPort)
  | interFrameGapEnd (n : NetPort)
  | estimateWaitExpiry (b : BundleId)
  | alertTimerExpiry (b : BundleId)
  | lossTimerExpiry (b : BundleId) (p : Path)
  | startWaitExpiry (b : BundleId)
  | holdOffExpiry (b : BundleId)
  | waitToRestoreExpiry (b : BundleId)
  | mismatchTimerExpiry (b : BundleId)
  /-- RECORD_PATROL, with the active records that now read otherwise than as written (R40). -/
  | recordPatrol (reads : List (BundleId × Record))
  | stationActivityLoss
  /-- MEASUREMENT_WINDOW_END: the station reference's offset over the window, none where it had no
  edges or a gap of 2 µs, and each receive clock's offset, in units of 1/1024 ppm (R151). -/
  | measurementWindowEnd (station : Option Int) (lines : Vector Int 8)
  | qualifyTimerExpiry (c : Candidate)
  | idleTimerExpiry (cp : CtrlPort)
  | recoveryBlockBegins (t : TribId)
  | responsePrepared (cp : CtrlPort)
deriving DecidableEq, Repr

end Sys2Proof
end

