-- ==== Sys2Proof/Decode.lean ====
section
/-!
DEFINITION. Decode: the command that a word of the opcode table spells. The table gives no bits to any
of its rows: commands reach the part as transfers, frames, pin events and timer expiries, never as
words of an instruction memory. Requests in frames are read by `requestOf` (Machine/Layout.lean).
-/

namespace Sys2Proof

/-- The command that the low `nbits` bits `w` spell: none, since no row of the table gives bits. -/
def decodeTableWord (nbits w : Nat) : Option Instr :=
  match nbits, w with
  | _, _ => none

end Sys2Proof
end

