-- ==== Sys2Proof/Config.lean ====
section
/-!
DEFINITION. Config: what the manual fixes once for the part, and the values it leaves open. A value
left open is an opaque constant: it has no body, so nothing can be proved of its value.
-/

namespace Sys2Proof.Config

/-! ## Durations, in ticks of the 125 MHz device clock (R110) -/

/-- One millisecond. -/
def msTicks : Nat := 125000

/-- One second. -/
def secTicks : Nat := 125000000

/-- Link qualification, 50 ms (R63). -/
def linkQualifyMs : Nat := 50

/-- The longest echo dwell and the longest plausible round trip, 1 s (R58, R114). -/
def maxDwell : Nat := 125000000

/-- The time a save may take, 3 s (R175). -/
def saveSeconds : Nat := 3

/-- The time the serial memory has to report itself ready, 100 ms (R176). -/
def memoryReadyTicks : Nat := 12500000

/-- A measurement window, 1.024 s (R151). -/
def windowTicks : Nat := 128000000

/-- The preamble and start delimiter of a frame: eight bytes, one tick each at 1000 Mbit/s (R58, log
entry 23). -/
def preambleTicks : Nat := 8

/-- The fixed latency of the part in µs (R122). -/
def lfix : Int := 60

/-! ## Capacities -/

/-- The packet slots of the playout pool (spec/05 5.1). -/
def poolSlots : Nat := 4096

/-- The entries of one transmit queue (R50). -/
def queueEntries : Nat := 64

/-- The entries of one acceptance list (R69). -/
def listEntries : Nat := 48

/-- The records of one event queue (spec/09 9.5). -/
def eventRecords : Nat := 32

/-- The most bytes of a stored image (spec/09 9.7). -/
def imageBytes : Nat := 8192

/-! ## Values the manual leaves open (free values) -/

/-- The vendor code READ_IDENTITY gives; R178 states no value. FREE VALUE, log entry 6. -/
opaque vendorCode : BitVec 16

/-- The part code READ_IDENTITY gives; R178 states no value. FREE VALUE, log entry 6. -/
opaque partCode : BitVec 16

/-- The check word of a bundle record; R29 and R40 state no algorithm. FREE VALUE, log entry 7. -/
opaque checkWord : Record → BitVec 32

/-- Byte `i` of the content of a refused response of request kind `kind`; R181 gives the length and
no rule gives the bytes. FREE VALUE, log entry 8. -/
opaque refusedByte : (kind i : Nat) → Byte

/-- How many bytes a refused response carries for a kind whose content varies in length; no rule
states it. FREE VALUE, log entry 8. -/
opaque refusedLength : (kind : Nat) → Nat

/-- The frequency of a clock candidate at a tick of the device clock, as an offset from 2048 kHz in
units of 1/1024 ppm: a matter of the line, which the part follows (R155). FREE VALUE, log entry 9. -/
opaque lineFrequency : Candidate → (tick : Nat) → Int

end Sys2Proof.Config

namespace Sys2Proof

/-! ## Full reset values the manual tabulates -/

/-- The pending record of a FREE bundle: the defaults of Table 10. -/
def Record.default : Record where
  port := 0
  slots := .list [1]
  fpp := 8
  txLabel := 0
  rxLabel := 0
  pathMode := .merged
  portMap := .path1East
  maxDepth := 256
  farStation := 0
  tag := none
  pclass := .routine
  delayMode := .fixed
  targetDepth := 32
  targetDelay := 5000
  initialDepth := 32
  eqApply := .auto
  deadband := 2
  pace := 6
  substitution := .fill
  fillByte := 0xFF
  shiftK := 4
  stepThreshold := 200
  stepCount := 3
  alertHold := 10
  lossTime := 20
  holdOff := 0
  waitRestore := 300
  primary := .p1
  revertive := true
  authority := .main
  autoStart := false

/-- Table 5's full reset values. -/
def TribConfig.default : TribConfig := ⟨.disabled, .system, 0xD5, .off, false, 11, 14⟩

end Sys2Proof
end

