-- ==== Sys2Proof/Machine/State.lean ====
section
/-!
DEFINITION. State: every piece of state the manual gives the KB-816, as plain data, grouped by the
block that owns it, and `State.reset`, the part right after a full reset.
-/

namespace Sys2Proof.Machine

/-! ## Timers -/

/-- A timer: stopped, or running with the tick of its expiry. The time left is the expiry less the
tick count (log entry 2). -/
abbrev Timer := Option Nat

/-! ## Events and faults (chapter 9) -/

/-- Event kinds, in the order of Table 67, which gives their codes (spec/10 10.3). -/
inductive EventKind where
  | tribState | tribRemoteAlarm | linkState | bundleState | bundleActivated | playoutUnderrun
  | playoutResync | depthSlip | depthAdjust | equaliseShort | equaliseLong | equalisePending
  | routeStep | pathState | pathSwitch | pathMismatch | candidateState | timingState | captureFull
  | claimExpired | fault | imageLoaded | imageAbsent | imageRejected | saveDone | saveFailed
  | warmResetDone | eventsLost
deriving DecidableEq, Repr

/-- The subject of an event: its class and number (spec/10 10.3). -/
inductive Subject where
  | none
  | bundle (b : BundleId)
  | bundlePath (b : BundleId) (p : Path)
  | trib (t : TribId)
  | net (n : NetPort)
  | capture (c : CaptureId)
  | candidate (c : Candidate)
  | selector
  | ctrl (cp : CtrlPort)
deriving DecidableEq, Repr

/-- An event record (Table 66). -/
structure Event where
  kind : EventKind
  subject : Subject
  time : Nat
  detail : BitVec 32
deriving DecidableEq, Repr

/-- Fault kinds (Table 68). -/
inductive FaultKind where
  | storeParity | recordCheck | imageFault
deriving DecidableEq, Repr

/-- A fault record (Table 68, R174). -/
structure FaultRecord where
  kind : FaultKind
  subject : Option BundleId
  time : Nat
  detail : Nat
deriving DecidableEq, Repr

/-- The First Fault and Latest Fault records and the Fault Count (R174). -/
structure Faults where
  first : Option FaultRecord
  latest : Option FaultRecord
  count : Nat
deriving DecidableEq, Repr

/-! ## Responses and transfers (chapter 9) -/

/-- Response statuses, in the order of Table 63, which gives their codes (R180). -/
inductive Status where
  | ok | clamped | busy | notHeld | heldElsewhere | conflict | noSpace | badValue | badState
  | badFrame | unknownKind | loading
deriving DecidableEq, Repr

/-- The outcome of a request: the kind it answers, its status and its content. -/
structure Response where
  kind : Nat
  status : Status
  content : List Byte
deriving DecidableEq, Repr

/-- The request a port is working on: the kind as received, and the command it hands to the owning
block; none where the kind is not one of Table 64 (R165, R166). -/
structure Job where
  kind : Nat
  command : Option Instr
deriving DecidableEq, Repr

/-- The transfer state of a control port (R165). `ready` holds the response and its Overrun
indication. -/
inductive Transfer where
  | idle
  | working (job : Job)
  | ready (response : Response) (overrun : Bool)
deriving DecidableEq, Repr

/-- A response read in progress: its select is not yet released (R167). -/
structure ReadTransfer where
  /-- The bytes clocked out so far, the prefix among them. -/
  sent : Nat
  /-- Ready was sent as 1, and the check byte of the response has still to come. -/
  delivering : Bool
  /-- The other port's WARM_RESET was carried out during the read (R177). -/
  cut : Bool
deriving DecidableEq, Repr

/-- One control port (spec/09, opening). -/
structure Ctrl where
  transfer : Transfer
  overrun : Bool
  /-- The outcome the owning block has decided and the port has not yet prepared (R165). -/
  outcome : Option Response
  /-- The requests handed to their blocks, not yet taken there, and abandoned by warm resets that the other
  port sent, oldest first (R177, log entry 15). -/
  abandoned : List Instr
  idleTimer : Timer
  queue : List Event
  lost : Bool
  lostCount : Nat
  taken : Nat
  overruns : Nat
  badFrames : Nat
  unknownKinds : Nat
  /-- The response read in progress (R167, R177, log entry 67). -/
  reading : Option ReadTransfer
  /-- The bytes the port has driven on data-out in its present or last response read or ignored transfer. -/
  dataOut : List Byte
deriving DecidableEq, Repr

/-- The claim table: for each claimable section, the control port that holds it (spec/09 9.4). -/
structure Claims where
  bundles : Vector (Option CtrlPort) 64
  tribs : Vector (Option CtrlPort) 8
  lists : Two (Option CtrlPort)
  timing : Option CtrlPort
  settings : Option CtrlPort
deriving DecidableEq, Repr

/-- A claimable section (spec/09 9.4). -/
inductive Section where
  | bundle (b : BundleId)
  | trib (t : TribId)
  | list (n : NetPort)
  | timing
  | settings
deriving DecidableEq, Repr

/-- The device settings (Table 65). -/
structure Settings where
  east : Address
  west : Address
  bundleType : Nat
  idleLimit : Nat
deriving DecidableEq, Repr

/-- Why an image was not applied, or a save failed (R175, R176, Table 73a). -/
inductive ImageCause where
  | crc | version | length | saveTimeout | saveVerify
deriving DecidableEq, Repr

/-- The image load: running, or its outcome (R176). -/
inductive Load where
  | loading
  | loaded (records refused : Nat)
  | absentNoAnswer
  | absentNoMarker
  | rejected (cause : ImageCause)
deriving DecidableEq, Repr

/-- A save in progress: the image of its snapshot, the bundle records saved and left out, and its
3 s limit (R175). -/
structure Save where
  image : List Byte
  saved : Nat
  leftOut : Nat
  limit : Timer
deriving DecidableEq, Repr

/-- The outcome of the last save (R175). -/
inductive SaveOutcome where
  | none | done | failed
deriving DecidableEq, Repr

/-! ## Tributary ports (chapters 1 and 8) -/

/-- Receive states, in the order of Table 6 (R4 to R9). -/
inductive RxState where
  | off | noSignal | ais | search | aligned | present
deriving DecidableEq, Repr

/-- Steering state of a tributary port (Table 61); its status is `steeringStatus`. -/
structure Steering where
  integrator : Int
  offset : Int
  sum : Int
  samples : Nat
  lastSum : Int
  completed : Nat
  abandoned : Nat
  clamps : Nat
deriving DecidableEq, Repr

/-- The source a port's transmit timing runs from (R158). -/
inductive TxSource where
  | system | line | steered
deriving DecidableEq, Repr

/-- One tributary port: configuration, receive side, transmit side, steering. -/
structure Trib where
  cfg : TribConfig
  rx : RxState
  /-- A recovery block is running (R5). -/
  recovery : Bool
  /-- Blocks completed since the recovery block, itself included (R5). -/
  blocks : Nat
  /-- The run of blocks meeting the AIS test (R6). -/
  aisRun : Nat
  /-- The run of errored alignment words (R8). -/
  errorRun : Nat
  /-- In ALIGNED, the next slot 0 received is that of an alignment frame (R7). -/
  alignNext : Bool
  onesRun : Nat
  zerosRun : Nat
  remoteAlarm : Bool
  signalLosses : Nat
  aisEntries : Nat
  alignLosses : Nat
  erroredWords : Nat
  /-- The transmit parity of the next frame: true is odd (R15). -/
  odd : Bool
  /-- The 32 bytes of the last transmit frame built (R14). -/
  txFrame : List Byte
  /-- The last transmit frame was sent as all ones under R16. -/
  txAllOnes : Bool
  txSource : TxSource
  /-- The steering offset that governs the transmit rate, read at the last frame start (R161). -/
  txOffset : Int
  steer : Steering
deriving DecidableEq, Repr

/-! ## Bundles: the bundle table (chapter 2) -/

/-- Bundle states, in the order of Table 14. -/
inductive BState where
  | free | stopped | filling | playing | down
deriving DecidableEq, Repr

/-- Causes of bundle state changes, in the order of Table 15. -/
inductive StateCause where
  | activated | restart | start | stop | freed | playoutStart | underrun | resync | pathDown
  | pathRecovered | recordFault | loadRefused
deriving DecidableEq, Repr

/-- Classes of change at activation, in the order of Table 12. -/
inductive ChangeClass where
  | new | restart | rebuilt | inPlace
deriving DecidableEq, Repr

/-! ## Bundles: the packet assembler (chapter 3) -/

/-- A completed packet with at least one copy still queued (R48). -/
structure HeldTx where
  seq : Seq
  payload : List Byte
  originFault : Bool
  east : Bool
  west : Bool
deriving DecidableEq, Repr

/-- The assembly state of a bundle (Table 17) and its transmit counters (Table 20). -/
structure Assembly where
  buffer : List Byte
  frames : Nat
  faultMark : Bool
  seq : Seq
  held : List HeldTx
  completed : Nat
  originFaults : Nat
  queued : Nat
  notOffered : Nat
  superseded : Nat
deriving DecidableEq, Repr

/-! ## Bundles: the playout store (chapter 5) -/

/-- A filled packet slot: payload with one parity per payload word of four bytes (R85, R106). -/
structure RingSlot where
  seq : Seq
  path : Path
  originFault : Bool
  payload : List Byte
  parity : List Bool
  arrival : Time
deriving DecidableEq, Repr

/-- Whether a packet period is in progress and what it plays (Table 35). -/
inductive Period where
  | none | packet | missing
deriving DecidableEq, Repr

/-- Filling phases (Table 38). -/
inductive Phase where
  | waitPacket | waitEstimate | countdown
deriving DecidableEq, Repr

/-- The direction of a depth adjustment's step (R104). -/
inductive Direction where
  | insert | skip
deriving DecidableEq, Repr

/-- A running depth adjustment (Table 35, R103). -/
structure Adjust where
  target : Nat
  pace : Nat
  lastStep : Option Direction
deriving DecidableEq, Repr

/-- What PLAYOUT_START or ADJUST_STEP has already done for the frame start in hand (the model's own,
log entry 4). -/
inductive AtStart where
  | none | started | inserted | skipped | ended | underran
deriving DecidableEq, Repr

/-- The playout counters of a bundle (Table 39). -/
structure PlayCounters where
  stored : Nat
  late : Nat
  mergeCopy : Nat
  duplicate : Nat
  early : Nat
  standby : Nat
  resyncs : Nat
  slipped : Nat
  played : Nat
  playedPath1 : Nat
  playedPath2 : Nat
  originFaultPlayed : Nat
  missing : Nat
  underruns : Nat
  inserted : Nat
  skipped : Nat
  parityFrames : Nat
deriving DecidableEq, Repr

/-- The playout state of a bundle (Table 35). -/
structure Playout where
  ring : List (Option RingSlot)
  head : Option Seq
  period : Period
  played : Nat
  phase : Phase
  startCount : Nat
  estimateWait : Timer
  earlyRun : Nat
  adjust : Option Adjust
  /-- One entry per slot of the slot set; an entry beyond the list is none (R100). -/
  lastByte : List (Option Byte)
  /-- The fill sampled at the last transmit frame start (R90). -/
  sample : Nat
  atStart : AtStart
  /-- The frame of bytes given at the last transmit frame start (R97). -/
  out : List Byte
  counters : PlayCounters
  /-- The smallest and largest residence in ticks; none reads as 0 (R107). -/
  residence : Option (Nat × Nat)
deriving DecidableEq, Repr

/-! ## Bundles: the delay unit (chapter 6) -/

/-- The echo state of one path (Table 43). -/
structure Echo where
  origin : Time
  arrival : Time
  valid : Bool
deriving DecidableEq, Repr

/-- The delay record of one path (Table 44) and its counters (Table 48). `tracking` is the state:
TRACKING or NO_SAMPLE. -/
structure DelayRecord where
  tracking : Bool
  lastRtt : Nat
  baseline : Nat
  difference : Int
  minimum : Nat
  maximum : Nat
  stepRun : Nat
  samples : Nat
  implausible : Nat
  unechoed : Nat
  routeSteps : Nat
  echoExpiries : Nat
deriving DecidableEq, Repr

/-- The delay unit's state for one bundle (spec/06, opening). -/
structure Delay where
  echo : Two Echo
  record : Two DelayRecord
  target : Nat
  proposed : Option Nat
  short : Bool
  long : Bool
  /-- The raw depth of the last computation, 0 where it formed none (R131). -/
  rawDepth : Int
  alertTimer : Timer
deriving DecidableEq, Repr

/-! ## Bundles: the path supervisor (chapter 7) -/

/-- Path record states, in the order of Table 50. -/
inductive PathState where
  | unknown | up | lost
deriving DecidableEq, Repr

/-- The path record of one path (Table 50). -/
structure PathRecord where
  state : PathState
  lossTimer : Timer
  farFlag : Bool
  ups : Nat
  losses : Nat
  onsets : Nat
deriving DecidableEq, Repr

/-- A Playing Path value (Table 20a). -/
inductive PlayingPath where
  | none | path1 | path2 | both
deriving DecidableEq, Repr

/-- The local request of a selector (Table 52). -/
inductive LocalRequest where
  | none | lockout
  | forced (q : Path)
  | manual (q : Path)
deriving DecidableEq, Repr

/-- Causes of a path switch, in the order of R147. -/
inductive SwitchCause where
  | lockout | forced | signalFail | manual | waitToRestore | follow
deriving DecidableEq, Repr

/-- The selector of one bundle (Table 52). -/
structure Selector where
  active : Path
  request : LocalRequest
  holdOff : Timer
  restore : Timer
  /-- The far-end announcement; none is 'none held' (R145). -/
  announcement : Option PlayingPath
  mismatchTimer : Timer
  mismatch : Bool
  switches : Nat
  mismatches : Nat
deriving DecidableEq, Repr

/-- The path supervisor's state for one bundle (spec/07, opening). -/
structure Supervisor where
  path : Two PathRecord
  startWait : Timer
  selector : Selector
deriving DecidableEq, Repr

/-- The delivery counters of a bundle (Table 31). -/
structure Delivery where
  accepted : Nat
  inactive : Nat
  misrouted : Nat
  wrongSize : Nat
deriving DecidableEq, Repr

/-- One bundle: its entry of the bundle table and what each block holds for it. -/
structure Bundle where
  active : Option Record
  pending : Record
  state : BState
  /-- The ring size of the armed record, present while an activation is armed; the armed record is
  the pending record, which is then frozen (R28). -/
  armed : Option Nat
  check : BitVec 32
  recordFault : Bool
  /-- R of the active record, 0 while there is none (R26). -/
  ringSize : Nat
  assembly : Assembly
  playout : Playout
  delay : Delay
  supervisor : Supervisor
  delivery : Delivery
deriving DecidableEq, Repr

/-! ## Network ports (chapters 3 and 4) -/

/-- Action of an acceptance list entry (Table 27). -/
inductive Action where
  | deliverFixed (b : BundleId)
  | deliverByLabel
  | discard
deriving DecidableEq, Repr

/-- An acceptance list entry with every field in its set (Table 27). -/
structure Entry where
  label : Nat
  mask : Nat
  action : Action
  capture : Option CaptureId
  enabled : Bool
deriving DecidableEq, Repr

/-- An entry of a list with its hit count (R69). -/
structure ListEntry where
  entry : Entry
  hits : Nat
deriving DecidableEq, Repr

/-- A queued copy: bundle, sequence and path (R50). -/
structure QueueEntry where
  bundle : BundleId
  seq : Seq
  path : Path
deriving DecidableEq, Repr

/-- A port's transmitter: IDLE, SENDING a frame, or SENDING through the gap after one (R55, R60). -/
inductive Transmitter where
  | idle
  | sending (frame : List Byte)
  | gap
deriving DecidableEq, Repr

/-- The receive counters of a network port (Table 30). -/
structure RxCounters where
  whileDown : Nat
  fcsError : Nat
  notMine : Nat
  otherType : Nat
  malformed : Nat
  unmatched : Nat
  listDiscard : Nat
  delivered : Nat
deriving DecidableEq, Repr

/-- The transmit counters of a network port (Table 21). -/
structure TxCounters where
  joined : Nat
  evicted : Nat
  dropped : Nat
  withdrawn : Nat
  flushed : Nat
  sent : Nat
  aborted : Nat
deriving DecidableEq, Repr

/-- One network port. -/
structure Net where
  up : Bool
  /-- The link indication pin. -/
  indication : Bool
  qualification : Timer
  list : List ListEntry
  protection : List QueueEntry
  priority : List QueueEntry
  routine : List QueueEntry
  transmitter : Transmitter
  rx : RxCounters
  tx : TxCounters
deriving DecidableEq, Repr

/-- What became of a captured packet (Table 28). -/
inductive PacketOutcome where
  | accepted | inactive | misrouted | wrongSize | unmatched | listDiscard
deriving DecidableEq, Repr

/-- The content of a full capture slot (Tables 28 and 74). -/
structure Captured where
  port : NetPort
  position : Nat
  action : Action
  outcome : PacketOutcome
  chosen : Option BundleId
  arrival : Time
  source : Address
  tag : Option (BitVec 16)
  header : List Byte
  payload : List Byte
deriving DecidableEq, Repr

/-- A capture slot's state: EMPTY, ARMED, or FULL with its content (R74). -/
inductive CaptureState where
  | empty | armed
  | full (content : Captured)
deriving DecidableEq, Repr

/-- A capture slot (R74). -/
structure Capture where
  state : CaptureState
  missed : Bool
deriving DecidableEq, Repr

/-! ## The timing unit (chapter 8) -/

/-- Candidate states (Table 57). -/
inductive CandidateState where
  | unavailable | qualifying | available
deriving DecidableEq, Repr

/-- One clock candidate (Table 57). -/
structure CandidateRecord where
  priority : Nat
  qualify : Nat
  valid : Bool
  state : CandidateState
  timer : Timer
  frequency : Option Int
  losses : Nat
  /-- Valid at every instant of the measurement window so far (R151). -/
  whole : Bool
deriving DecidableEq, Repr

/-- Mode of the timing selector (Table 58). -/
inductive TimingMode where
  | auto
  | forced (c : Candidate)
  | free
deriving DecidableEq, Repr

/-- State of the timing selector (Table 58). -/
inductive TimingState where
  | freeRun
  | locked (c : Candidate)
  | holdover
deriving DecidableEq, Repr

/-- The timing unit. Candidate 0 is STATION, candidates 1 to 8 are T0 to T7. -/
structure Timing where
  candidates : Vector CandidateRecord 9
  mode : TimingMode
  state : TimingState
  everLocked : Bool
  holdover : Int
  holdoverEntries : Nat
  /-- The tick at which the measurement window in progress ends (R151). -/
  windowEnd : Nat
  /-- The selector has not changed state in the measurement window so far (R154). -/
  lockWhole : Bool
  /-- The station reference had a gap in the measurement window so far (R151). -/
  stationGap : Bool
deriving DecidableEq, Repr

/-! ## The whole part -/

/-- The state of the KB-816, and the queue of commands that wait for it. -/
structure State where
  /-- Ticks of the device clock since the end of the last full reset; the time count and the event
  time are read from it (R110, spec/09 9.5). -/
  now : Nat
  bundles : Vector Bundle 64
  tribs : Vector Trib 8
  nets : Two Net
  captures : Vector Capture 4
  timing : Timing
  ctrls : Two Ctrl
  claims : Claims
  settings : Settings
  faults : Faults
  load : Load
  save : Option Save
  lastSave : SaveOutcome
  /-- The commands waiting, first in, first out. -/
  pending : List Instr
deriving DecidableEq, Repr

/-! ## Ways a step can stop -/

/-- Faults: none. The manual gives every command an effect in every state, so no command of this
model stops the part; what the manual calls a fault is a record in `Faults` and an event. -/
inductive Fault where
deriving DecidableEq, Repr

/-- Refusals. -/
inductive Refusal where
  /-- Raised by `exec` alone, for a command that has no meaning yet. Safe: nothing is claimed of it. -/
  | notModelled (mnemonic : String)
deriving DecidableEq, Repr

/-! ## Full reset values -/

/-- Both of two like things the same. -/
def both {α : Type} (x : α) : Two α := ⟨x, x⟩

/-- The start values of Table 17. -/
def Assembly.start : Assembly := ⟨[], 0, false, 0, [], 0, 0, 0, 0, 0⟩

/-- Playout counters at zero. -/
def PlayCounters.zero : PlayCounters := ⟨0, 0, 0, 0, 0, 0, 0, 0, 0, 0, 0, 0, 0, 0, 0, 0, 0⟩

/-- The playout state of a bundle with an empty ring of `size` slots and nothing counted (R109). -/
def Playout.fresh (size : Nat) : Playout where
  ring := List.replicate size none
  head := none
  period := .none
  played := 0
  phase := .waitPacket
  startCount := 0
  estimateWait := none
  earlyRun := 0
  adjust := none
  lastByte := []
  sample := 0
  atStart := .none
  out := []
  counters := .zero
  residence := none

/-- A cleared echo state (Table 43). -/
def Echo.cleared : Echo := ⟨0, 0, false⟩

/-- A cleared delay record with counters at zero (Table 44, R132). -/
def DelayRecord.zero : DelayRecord := ⟨false, 0, 0, 0, 0, 0, 0, 0, 0, 0, 0, 0⟩

/-- The delay unit's state for a FREE bundle (R133). DESIGN CHOICE: READ_DELAY gives the raw depth 0 of it,
which R131 does not state (log entry 51). -/
def Delay.zero : Delay := ⟨both .cleared, both .zero, 0, none, false, false, 0, none⟩

/-- A reset path record with counters at zero (R150). -/
def PathRecord.zero : PathRecord := ⟨.unknown, none, false, 0, 0, 0⟩

/-- A reset selector on primary path `p` with counters at zero (R150). -/
def Selector.zero (p : Path) : Selector := ⟨p, .none, none, none, none, none, false, 0, 0⟩

/-- The path supervisor's state for a bundle none of whose timers run (R149, R150). -/
def Supervisor.zero (p : Path) : Supervisor := ⟨both .zero, none, .zero p⟩

/-- Delivery counters at zero. -/
def Delivery.zero : Delivery := ⟨0, 0, 0, 0⟩

/-- A FREE bundle that keeps its delivery counters (R38, R80). DESIGN CHOICE: READ_PLAYOUT gives the filling
phase WAIT_PACKET of it and ring size 0, which R108 does not state (log entries 49 and 57). -/
def Bundle.freed (d : Delivery) : Bundle where
  active := none
  pending := Record.default
  state := .free
  armed := none
  check := 0
  recordFault := false
  ringSize := 0
  assembly := .start
  playout := .fresh 0
  delay := .zero
  supervisor := .zero .p1
  delivery := d

/-- Table 61's full reset values. -/
def Steering.zero : Steering := ⟨0, 0, 0, 0, 0, 0, 0, 0⟩

/-- A tributary port after a full reset (R18); its transmit data is held at 1. -/
def Trib.default : Trib where
  cfg := TribConfig.default
  rx := .off
  recovery := false
  blocks := 0
  aisRun := 0
  errorRun := 0
  alignNext := false
  onesRun := 0
  zerosRun := 0
  remoteAlarm := false
  signalLosses := 0
  aisEntries := 0
  alignLosses := 0
  erroredWords := 0
  odd := false
  txFrame := List.replicate 32 0xFF
  txAllOnes := false
  txSource := .system
  txOffset := 0
  steer := .zero

/-- Receive counters at zero. -/
def RxCounters.zero : RxCounters := ⟨0, 0, 0, 0, 0, 0, 0, 0⟩

/-- Transmit counters at zero. -/
def TxCounters.zero : TxCounters := ⟨0, 0, 0, 0, 0, 0, 0⟩

/-- A network port after a full reset (R62, R81). -/
def Net.default : Net := ⟨false, false, none, [], [], [], [], .idle, .zero, .zero⟩

/-- A candidate after a full reset (Table 57). -/
def CandidateRecord.default : CandidateRecord := ⟨0, 10, false, .unavailable, none, none, 0, false⟩

/-- The timing unit after a full reset (R164). -/
def Timing.default : Timing where
  candidates := Vector.replicate 9 .default
  mode := .auto
  state := .freeRun
  everLocked := false
  holdover := 0
  holdoverEntries := 0
  windowEnd := Config.windowTicks
  lockWhole := true
  stationGap := false

/-- A control port after a full reset (R168, R172, R173). -/
def Ctrl.default : Ctrl where
  transfer := .idle
  overrun := false
  outcome := none
  abandoned := []
  idleTimer := none
  queue := []
  lost := false
  lostCount := 0
  taken := 0
  overruns := 0
  badFrames := 0
  unknownKinds := 0
  reading := none
  dataOut := []

/-- No claim held (R172). -/
def Claims.none : Claims :=
  ⟨Vector.replicate 64 .none, Vector.replicate 8 .none, both .none, .none, .none⟩

/-- Table 65's full reset values. -/
def Settings.default : Settings := ⟨0x020000000001, 0x020000000002, 0x88B6, 4⟩

/-- No fault recorded (R174). -/
def Faults.none : Faults := ⟨.none, .none, 0⟩

/-- The part at the end of a full reset, the image load just begun (R18, R42, R62, R81, R109, R133,
R164, R168, R170, R172, R173, R174, R175, R176). -/
def State.reset : State where
  now := 0
  bundles := Vector.replicate 64 (.freed .zero)
  tribs := Vector.replicate 8 .default
  nets := both .default
  captures := Vector.replicate 4 ⟨.empty, false⟩
  timing := .default
  ctrls := both .default
  claims := .none
  settings := .default
  faults := .none
  load := .loading
  save := .none
  lastSave := .none
  pending := []

end Sys2Proof.Machine
end

