-- ==== Sys2Proof/Machine/Bytes.lean ====
section
/-!
DEFINITION. Bytes: byte order, the packing of fields into bytes, the check byte, the frame check
sequence and the CRC-16 of the stored image (spec/00_scope.md 4.4, spec/10).
-/

namespace Sys2Proof.Machine

/-- The `n` low bytes of `v`, most significant first (spec/00_scope.md 4.4). -/
def bytesOf : (n v : Nat) → List Byte
  | 0, _ => []
  | n + 1, v => BitVec.ofNat 8 (v / 256 ^ n) :: bytesOf n v

/-- The number a run of bytes holds, most significant first. -/
def natOf (bs : List Byte) : Nat := bs.foldl (fun acc b => acc * 256 + b.toNat) 0

/-- A signed value in two's complement in `n` bytes (R181). -/
def signedBytes (n : Nat) (v : Int) : List Byte := bytesOf n (v % (256 ^ n : Nat)).toNat

/-- A flag, 1 when set. -/
def flagByte (b : Bool) : Byte := if b then 1 else 0

/-- A field whose table lists its values as "yes, no" or as "set, clear", coded by its position in that
list (R181, log entry 11). -/
def yesNoByte (b : Bool) : Byte := if b then 0 else 1

/-- A 'yes, no' field as received: bit 0 of its byte, the bits above its range being ignored
(R181, log entry 11). -/
def yesNoOf (b : Byte) : Bool := !b.getLsbD 0

/-- A field that may be absent: its presence byte and then its bytes, sent 0 when absent (R181). -/
def optBytes (n : Nat) (v : Option Nat) : List Byte :=
  flagByte v.isSome :: bytesOf n (v.getD 0)

/-- Byte `i` of a run, 0 beyond its end. -/
def byteAt (bs : List Byte) (i : Nat) : Byte := bs.getD i 0

/-- The number in bytes `i` to `i + n - 1` of a run. -/
def fieldAt (bs : List Byte) (i n : Nat) : Nat := natOf ((bs.drop i).take n)

/-- The exclusive or of a run of bytes (R180). -/
def checkOf (bs : List Byte) : Byte := bs.foldl (· ^^^ ·) 0

/-- One byte into the CRC-16, most significant bit first, polynomial x^16 + x^12 + x^5 + 1
(spec/09 9.7). -/
def crc16Byte (crc : BitVec 16) (b : Byte) : BitVec 16 :=
  (List.range 8).foldl
    (fun c _ => if c.getLsbD 15 then (c <<< 1) ^^^ 0x1021 else c <<< 1)
    (crc ^^^ (b.setWidth 16 <<< 8))

/-- The CRC-16 of the stored image: initial value 0xFFFF, no final inversion (R182). -/
def crc16 (bs : List Byte) : BitVec 16 := bs.foldl crc16Byte 0xFFFF

/-- One byte into the frame check sequence of Ethernet, least significant bit first
(PRESUMED from IEEE 802.3, log entry 10). -/
def crc32Byte (crc : BitVec 32) (b : Byte) : BitVec 32 :=
  (List.range 8).foldl
    (fun c _ => if c.getLsbD 0 then (c >>> 1) ^^^ 0xEDB88320 else c >>> 1)
    (crc ^^^ b.setWidth 32)

/-- The four bytes of the frame check sequence in the order they are sent (PRESUMED from
IEEE 802.3, log entry 10). -/
def fcsOf (bs : List Byte) : List Byte :=
  (bytesOf 4 (~~~ (bs.foldl crc32Byte 0xFFFFFFFF)).toNat).reverse

/-- A station address as six bytes. -/
def addressBytes (a : Address) : List Byte := bytesOf 6 a.toNat

/-- The bits of a word that are 0. -/
def zeroBits {w : Nat} (x : BitVec w) : Nat :=
  ((List.range w).filter fun i => !x.getLsbD i).length

/-- The mask of a set of slots: bit `n` for slot `n` (R181). -/
def slotMask (xs : List Nat) : Nat := xs.foldl (fun m n => m ||| 2 ^ n) 0

/-- The slots of a mask, ascending (R181). -/
def maskSlots (m : Nat) : List Nat := (List.range 32).filter fun n => m.testBit n

end Sys2Proof.Machine

namespace Sys2Proof

open Machine

/-- A slot set as its 32-bit mask; ALL is all 32 bits (R181). -/
def SlotSet.mask : SlotSet → Nat
  | .all => 4294967295
  | .list xs => slotMask xs % 4294967296

/-- The slot set a 32-bit mask carries (R181). -/
def SlotSet.ofMask (m : Nat) : SlotSet :=
  if m = 4294967295 then .all else .list (maskSlots m)

/-- The slots of a slot set, ascending: 0 to 31 for ALL (Table 10). -/
def SlotSet.toList : SlotSet → List Nat
  | .all => List.range 32
  | .list xs => xs

/-- The slot count (Table 10). -/
def SlotSet.count (x : SlotSet) : Nat := x.toList.length

/-- The two bytes of a tag: priority in bits 15 to 13, bit 12 sent 0, id in bits 11 to 0
(spec/10 10.1). -/
def Tag.word (t : Tag) : Nat := t.priority % 8 * 8192 + t.id % 4096

/-- The tag in two bytes, bit 12 not read (spec/10 10.1, R181). -/
def Tag.ofWord (w : Nat) : Tag := ⟨w / 8192 % 8, w % 4096⟩

end Sys2Proof
end

