-- ==== Sys2Proof/Machine/Codes.lean ====
section
/-!
DEFINITION. Codes: the numbers that named values, event kinds, subjects and statuses are sent as
(spec/10). A named value is coded by its position in the list or table that names it (R181).
-/

namespace Sys2Proof

/-! ## Ports, paths, candidates -/

/-- Subject number of a network port (spec/10 10.3). -/
def NetPort.code : NetPort → Nat
  | .east => 0
  | .west => 1

/-- Subject number of a control port (spec/10 10.3). -/
def CtrlPort.code : CtrlPort → Nat
  | .cp1 => 1
  | .cp2 => 2

/-- A path is sent as 1 or 2 (R181). -/
def Path.code : Path → Nat
  | .p1 => 1
  | .p2 => 2

/-- Subject number of a candidate: 0 STATION, 1 to 8 T0 to T7 (spec/10 10.3). -/
def Candidate.code : Candidate → Nat
  | .station => 0
  | .trib t => t.val + 1

/-! ## Fields of configurations and records (Tables 5 and 10) -/

def TribKind.code : TribKind → Nat
  | .disabled => 0
  | .framed => 1
  | .unframed => 2

def TribKind.ofCode : Nat → Option TribKind
  | 0 => some .disabled
  | 1 => some .framed
  | 2 => some .unframed
  | _ => none

/-- Transmit clock: its position byte and its parameter byte (R181). -/
def TxClock.codes : TxClock → Nat × Nat
  | .system => (0, 0)
  | .loop => (1, 0)
  | .steered b => (2, b.val)

def AlertBit.code : AlertBit → Nat
  | .off => 0
  | .bit4 => 1
  | .bit5 => 2
  | .bit6 => 3
  | .bit7 => 4
  | .bit8 => 5

def AlertBit.ofCode : Nat → Option AlertBit
  | 0 => some .off
  | 1 => some .bit4
  | 2 => some .bit5
  | 3 => some .bit6
  | 4 => some .bit7
  | 5 => some .bit8
  | _ => none

def PathMode.code : PathMode → Nat
  | .merged => 0
  | .selected => 1
  | .single => 2

def PathMode.ofCode : Nat → Option PathMode
  | 0 => some .merged
  | 1 => some .selected
  | 2 => some .single
  | _ => none

def PortMap.code : PortMap → Nat
  | .path1East => 0
  | .path1West => 1

def PortMap.ofCode : Nat → Option PortMap
  | 0 => some .path1East
  | 1 => some .path1West
  | _ => none

def PacketClass.code : PacketClass → Nat
  | .protection => 0
  | .priority => 1
  | .routine => 2

def PacketClass.ofCode : Nat → Option PacketClass
  | 0 => some .protection
  | 1 => some .priority
  | 2 => some .routine
  | _ => none

def DelayMode.code : DelayMode → Nat
  | .fixed => 0
  | .equalised => 1

def DelayMode.ofCode : Nat → Option DelayMode
  | 0 => some .fixed
  | 1 => some .equalised
  | _ => none

def EqualiseApply.code : EqualiseApply → Nat
  | .auto => 0
  | .held => 1

def EqualiseApply.ofCode : Nat → Option EqualiseApply
  | 0 => some .auto
  | 1 => some .held
  | _ => none

def Substitution.code : Substitution → Nat
  | .repeatLast => 0
  | .fill => 1

def Substitution.ofCode : Nat → Option Substitution
  | 0 => some .repeatLast
  | 1 => some .fill
  | _ => none

def Authority.code : Authority → Nat
  | .main => 0
  | .follower => 1

def Authority.ofCode : Nat → Option Authority
  | 0 => some .main
  | 1 => some .follower
  | _ => none

/-- The copy READ_BUNDLE names, by bit 0 of its byte (R41, R181). -/
def RecordCopy.code : RecordCopy → Nat
  | .active => 0
  | .pending => 1

end Sys2Proof

namespace Sys2Proof.Machine

/-! ## States -/

/-- Receive state (Table 73a). -/
def RxState.code : RxState → Nat
  | .off => 0
  | .noSignal => 1
  | .ais => 2
  | .search => 3
  | .aligned => 4
  | .present => 5

/-- Bundle state (Table 73a). -/
def BState.code : BState → Nat
  | .free => 0
  | .stopped => 1
  | .filling => 2
  | .playing => 3
  | .down => 4

/-- Cause of a bundle state change, in the order of Table 15 from 0 (Table 73a). -/
def StateCause.code : StateCause → Nat
  | .activated => 0
  | .restart => 1
  | .start => 2
  | .stop => 3
  | .freed => 4
  | .playoutStart => 5
  | .underrun => 6
  | .resync => 7
  | .pathDown => 8
  | .pathRecovered => 9
  | .recordFault => 10
  | .loadRefused => 11

/-- Class of change (Table 73a). -/
def ChangeClass.code : ChangeClass → Nat
  | .new => 0
  | .restart => 1
  | .rebuilt => 2
  | .inPlace => 3

/-- Path record state (Table 73a). -/
def PathState.code : PathState → Nat
  | .unknown => 0
  | .up => 1
  | .lost => 2

/-- Playing Path code (Table 70). -/
def PlayingPath.code : PlayingPath → Nat
  | .none => 0
  | .path1 => 1
  | .path2 => 2
  | .both => 3

def PlayingPath.ofCode : Nat → Option PlayingPath
  | 0 => some .none
  | 1 => some .path1
  | 2 => some .path2
  | 3 => some .both
  | _ => Option.none

/-- The far-end announcement in PATH_MISMATCH: 255 none held (Table 73a). -/
def announcementCode : Option PlayingPath → Nat
  | none => 255
  | some a => a.code

/-- Cause of a path switch (Table 73a). -/
def SwitchCause.code : SwitchCause → Nat
  | .lockout => 0
  | .forced => 1
  | .signalFail => 2
  | .manual => 3
  | .waitToRestore => 4
  | .follow => 5

/-- Local request: its position byte and its parameter byte (Table 52, R181). -/
def LocalRequest.codes : LocalRequest → Nat × Nat
  | .none => (0, 0)
  | .lockout => (1, 0)
  | .forced q => (2, q.code)
  | .manual q => (3, q.code)

/-- Candidate state (Table 73a). -/
def CandidateState.code : CandidateState → Nat
  | .unavailable => 0
  | .qualifying => 1
  | .available => 2

/-- Timing selector state (Table 73a). -/
def TimingState.code : TimingState → Nat
  | .freeRun => 0
  | .locked _ => 1
  | .holdover => 2

/-- The candidate of a LOCKED state, 0 otherwise (Table 73a). -/
def TimingState.param : TimingState → Nat
  | .locked c => c.code
  | _ => 0

/-- Timing selector mode: its position byte and its parameter byte (Table 58, R181). -/
def TimingMode.codes : TimingMode → Nat × Nat
  | .auto => (0, 0)
  | .forced c => (1, c.code)
  | .free => (2, 0)

def Period.code : Period → Nat
  | .none => 0
  | .packet => 1
  | .missing => 2

def Phase.code : Phase → Nat
  | .waitPacket => 0
  | .waitEstimate => 1
  | .countdown => 2

/-- The direction of an adjustment's last step, which no table lists. DESIGN CHOICE: insert 0, skip 1, in the
order of R104 (log entry 52). -/
def Direction.code : Direction → Nat
  | .insert => 0
  | .skip => 1

/-- Action of an entry: its position byte and its parameter byte (Tables 27 and 74). -/
def Action.codes : Action → Nat × Nat
  | .deliverFixed b => (0, b.val)
  | .deliverByLabel => (1, 0)
  | .discard => (2, 0)

/-- Outcome of a captured packet, in the order of Table 28 from 0 (Table 74). -/
def PacketOutcome.code : PacketOutcome → Nat
  | .accepted => 0
  | .inactive => 1
  | .misrouted => 2
  | .wrongSize => 3
  | .unmatched => 4
  | .listDiscard => 5

/-! ## Events, faults, statuses -/

/-- Event kind codes, in the order of Table 67 from 1 (spec/10 10.3). -/
def EventKind.code : EventKind → Nat
  | .tribState => 1
  | .tribRemoteAlarm => 2
  | .linkState => 3
  | .bundleState => 4
  | .bundleActivated => 5
  | .playoutUnderrun => 6
  | .playoutResync => 7
  | .depthSlip => 8
  | .depthAdjust => 9
  | .equaliseShort => 10
  | .equaliseLong => 11
  | .equalisePending => 12
  | .routeStep => 13
  | .pathState => 14
  | .pathSwitch => 15
  | .pathMismatch => 16
  | .candidateState => 17
  | .timingState => 18
  | .captureFull => 19
  | .claimExpired => 20
  | .fault => 21
  | .imageLoaded => 22
  | .imageAbsent => 23
  | .imageRejected => 24
  | .saveDone => 25
  | .saveFailed => 26
  | .warmResetDone => 27
  | .eventsLost => 28

/-- Subject: class in bits 15 to 12, number in bits 11 to 0 (spec/10 10.3). -/
def Subject.code : Subject → Nat
  | .none => 0
  | .bundle b => 1 * 4096 + b.val
  | .bundlePath b .p1 => 2 * 4096 + b.val
  | .bundlePath b .p2 => 3 * 4096 + b.val
  | .trib t => 4 * 4096 + t.val
  | .net n => 5 * 4096 + n.code
  | .capture c => 6 * 4096 + c.val
  | .candidate c => 7 * 4096 + c.code
  | .selector => 8 * 4096
  | .ctrl cp => 9 * 4096 + cp.code

/-- Fault kind (Table 73a). -/
def FaultKind.code : FaultKind → Nat
  | .storeParity => 0
  | .recordCheck => 1
  | .imageFault => 2

/-- Cause of IMAGE_REJECTED, SAVE_FAILED and IMAGE_FAULT (Table 73a). -/
def ImageCause.code : ImageCause → Nat
  | .crc => 0
  | .version => 1
  | .length => 2
  | .saveTimeout => 3
  | .saveVerify => 4

/-- Status codes, in the order of Table 63 from 0 (R180). -/
def Status.code : Status → Nat
  | .ok => 0
  | .clamped => 1
  | .busy => 2
  | .notHeld => 3
  | .heldElsewhere => 4
  | .conflict => 5
  | .noSpace => 6
  | .badValue => 7
  | .badState => 8
  | .badFrame => 9
  | .unknownKind => 10
  | .loading => 11

/-- Outcome of the last save (R175). -/
def SaveOutcome.code : SaveOutcome → Nat
  | .none => 0
  | .done => 1
  | .failed => 2

/-- The holder of a claim: none, CP1 or CP2 (spec/09 9.4). -/
def holderCode : Option CtrlPort → Nat
  | none => 0
  | some .cp1 => 1
  | some .cp2 => 2

end Sys2Proof.Machine
end

