-- ==== Sys2Proof/Machine/Ops.lean ====
section
/-!
DEFINITION. Ops: the named operations over the state that every block uses: reading and writing one
bundle, port or candidate, posting an event, recording a fault, the claim table, deciding the outcome
of a request, and abandoning a steering interval.
-/

namespace Sys2Proof

/-! ## Two like things by name -/

/-- The item of path `p`. -/
def Two.atPath {α : Type} (x : Two α) : Path → α
  | .p1 => x.one
  | .p2 => x.two

/-- The item of path `p` replaced. -/
def Two.setPath {α : Type} (x : Two α) (p : Path) (v : α) : Two α :=
  match p with
  | .p1 => ⟨v, x.two⟩
  | .p2 => ⟨x.one, v⟩

/-- The item of network port `n`. -/
def Two.atNet {α : Type} (x : Two α) : NetPort → α
  | .east => x.one
  | .west => x.two

/-- The item of network port `n` replaced. -/
def Two.setNet {α : Type} (x : Two α) (n : NetPort) (v : α) : Two α :=
  match n with
  | .east => ⟨v, x.two⟩
  | .west => ⟨x.one, v⟩

/-- The item of control port `cp`. -/
def Two.atCp {α : Type} (x : Two α) : CtrlPort → α
  | .cp1 => x.one
  | .cp2 => x.two

/-- The item of control port `cp` replaced. -/
def Two.setCp {α : Type} (x : Two α) (cp : CtrlPort) (v : α) : Two α :=
  match cp with
  | .cp1 => ⟨v, x.two⟩
  | .cp2 => ⟨x.one, v⟩

/-- The other path. -/
def Path.other : Path → Path
  | .p1 => .p2
  | .p2 => .p1

/-- The other control port. -/
def CtrlPort.other : CtrlPort → CtrlPort
  | .cp1 => .cp2
  | .cp2 => .cp1

/-- The place of a candidate among the nine: STATION first, then T0 to T7 (Table 59). -/
def Candidate.index : Candidate → Fin 9
  | .station => 0
  | .trib t => t.succ

/-- The nine candidates in index order (Table 59). -/
def allCandidates : List Candidate := .station :: (List.finRange 8).map .trib

/-- The 64 bundles in ascending number. -/
def allBundles : List BundleId := List.finRange 64

/-- The eight tributary ports in ascending number. -/
def allTribs : List TribId := List.finRange 8

/-- The network port that carries path `p` under a port map (R47). -/
def PortMap.portOf : PortMap → Path → NetPort
  | .path1East, .p1 => .east
  | .path1East, .p2 => .west
  | .path1West, .p1 => .west
  | .path1West, .p2 => .east

/-- The path that a port map gives a network port (R77). -/
def PortMap.pathOf : PortMap → NetPort → Path
  | .path1East, .east => .p1
  | .path1East, .west => .p2
  | .path1West, .west => .p1
  | .path1West, .east => .p2

end Sys2Proof

namespace Sys2Proof.Machine

/-! ## Time -/

/-- The time count: 32 bits of 8 ns ticks, 0 at the end of a full reset (R110). -/
def State.timeCount (s : State) : Time := BitVec.ofNat 32 s.now

/-- The event time: milliseconds since the end of the last full reset, 32 bits (spec/09 9.5). -/
def State.eventTime (s : State) : Nat := s.now / Config.msTicks % 4294967296

/-- A timer started now to run for `ticks`. -/
def State.afterTicks (s : State) (ticks : Nat) : Timer := some (s.now + ticks)

/-- A timer started now to run for `ms` milliseconds. -/
def State.afterMs (s : State) (ms : Nat) : Timer := s.afterTicks (ms * Config.msTicks)

/-- A timer started now to run for `sec` seconds. -/
def State.afterSec (s : State) (sec : Nat) : Timer := s.afterTicks (sec * Config.secTicks)

/-- A timer runs and its expiry has come (log entry 13). -/
def State.due (s : State) (t : Timer) : Bool :=
  match t with
  | none => false
  | some expiry => decide (expiry ≤ s.now)

/-- The whole milliseconds a timer has left, none when it is stopped. -/
def State.msLeft (s : State) (t : Timer) : Option Nat :=
  t.map fun expiry => (expiry - s.now) / Config.msTicks

/-! ## Reading and writing one part of the state -/

/-- Bundle `b`. -/
def State.bun (s : State) (b : BundleId) : Bundle := s.bundles[b]

/-- Bundle `b` changed by `f`. -/
def State.modBun (s : State) (b : BundleId) (f : Bundle → Bundle) : State :=
  { s with bundles := s.bundles.set b (f (s.bun b)) }

/-- Tributary port `t`. -/
def State.trib (s : State) (t : TribId) : Trib := s.tribs[t]

/-- Tributary port `t` changed by `f`. -/
def State.modTrib (s : State) (t : TribId) (f : Trib → Trib) : State :=
  { s with tribs := s.tribs.set t (f (s.trib t)) }

/-- Network port `n`. -/
def State.net (s : State) (n : NetPort) : Net := s.nets.atNet n

/-- Network port `n` changed by `f`. -/
def State.modNet (s : State) (n : NetPort) (f : Net → Net) : State :=
  { s with nets := s.nets.setNet n (f (s.net n)) }

/-- Control port `cp`. -/
def State.ctrl (s : State) (cp : CtrlPort) : Ctrl := s.ctrls.atCp cp

/-- Control port `cp` changed by `f`. -/
def State.modCtrl (s : State) (cp : CtrlPort) (f : Ctrl → Ctrl) : State :=
  { s with ctrls := s.ctrls.setCp cp (f (s.ctrl cp)) }

/-- Candidate `c` of the timing unit. -/
def Timing.candidate (x : Timing) (c : Candidate) : CandidateRecord := x.candidates[c.index]

/-- Candidate `c` of the timing unit replaced. -/
def Timing.setCandidate (x : Timing) (c : Candidate) (r : CandidateRecord) : Timing :=
  { x with candidates := x.candidates.set c.index r }

/-- Everything the packet assembler holds for bundle `b` changed by `f`. -/
def State.modAssembly (s : State) (b : BundleId) (f : Assembly → Assembly) : State :=
  s.modBun b fun x => { x with assembly := f x.assembly }

/-- Everything the playout store holds for bundle `b` changed by `f`. -/
def State.modPlayout (s : State) (b : BundleId) (f : Playout → Playout) : State :=
  s.modBun b fun x => { x with playout := f x.playout }

/-- Everything the delay unit holds for bundle `b` changed by `f`. -/
def State.modDelay (s : State) (b : BundleId) (f : Delay → Delay) : State :=
  s.modBun b fun x => { x with delay := f x.delay }

/-- Everything the path supervisor holds for bundle `b` changed by `f`. -/
def State.modSupervisor (s : State) (b : BundleId) (f : Supervisor → Supervisor) : State :=
  s.modBun b fun x => { x with supervisor := f x.supervisor }

/-! ## Events (R173) -/

/-- One queue takes an event: appended while it holds fewer than 32 records, dropped and counted
otherwise (R173). -/
def Ctrl.offer (c : Ctrl) (e : Event) : Ctrl :=
  if c.queue.length < Config.eventRecords then { c with queue := c.queue ++ [e] }
  else { c with lost := true, lostCount := bump c.lostCount }

/-- An event is posted: both queues take it, stamped with the event time (R173). -/
def State.post (s : State) (kind : EventKind) (subject : Subject) (detail : Nat) : State :=
  { s with
    ctrls := s.ctrls.map fun c => c.offer ⟨kind, subject, s.eventTime, BitVec.ofNat 32 detail⟩ }

/-- The event is posted only where the condition holds. -/
def State.postIf (s : State) (cond : Bool) (kind : EventKind) (subject : Subject) (detail : Nat) :
    State :=
  if cond then s.post kind subject detail else s

/-- An old and a new state in an event's detail, with a cause (spec/10 10.3). -/
def changeDetail (old new cause : Nat) : Nat := cause * 65536 + old * 256 + new

/-! ## Faults (R174) -/

/-- The three fault records after one more fault (R174 items 1 to 3). -/
def Faults.add (f : Faults) (r : FaultRecord) : Faults where
  latest := some r
  first := some (f.first.getD r)
  count := if f.count < 255 then f.count + 1 else f.count

/-- The subject of a fault: a bundle or none (Table 68). -/
def faultSubject : Option BundleId → Subject
  | none => .none
  | some b => .bundle b

/-- A fault is recorded and posted (R174). -/
def State.recordFault (s : State) (kind : FaultKind) (subject : Option BundleId) (detail : Nat) :
    State :=
  let s := { s with faults := s.faults.add ⟨kind, subject, s.eventTime, detail⟩ }
  s.post .fault (faultSubject subject) (kind.code * 16777216 + s.faults.count * 65536)

/-! ## The claim table (spec/09 9.4) -/

/-- The holder of a section's claim. -/
def Claims.holder (c : Claims) : Section → Option CtrlPort
  | .bundle b => c.bundles[b]
  | .trib t => c.tribs[t]
  | .list n => c.lists.atNet n
  | .timing => c.timing
  | .settings => c.settings

/-- The claim table with one entry replaced. -/
def Claims.setHolder (c : Claims) (sec : Section) (h : Option CtrlPort) : Claims :=
  match sec with
  | .bundle b => { c with bundles := c.bundles.set b h }
  | .trib t => { c with tribs := c.tribs.set t h }
  | .list n => { c with lists := c.lists.setNet n h }
  | .timing => { c with timing := h }
  | .settings => { c with settings := h }

/-- The holder of a section's claim. -/
def State.holder (s : State) (sec : Section) : Option CtrlPort := s.claims.holder sec

/-- One entry of the claim table replaced. -/
def State.setHolder (s : State) (sec : Section) (h : Option CtrlPort) : State :=
  { s with claims := s.claims.setHolder sec h }

/-- The 76 claimable sections, in the order of spec/09 9.4. -/
def allSections : List Section :=
  allBundles.map .bundle ++ allTribs.map .trib ++ [.list .east, .list .west, .timing, .settings]

/-! ## The outcome of a request (R165, R181) -/

/-- The content length of a request kind's response; none where it holds a count followed by that
many items, or a state byte followed by its content (R181). -/
def contentLength : (kind : Nat) → Option Nat
  | 1 => some 52
  | 2 => some 97
  | 3 => some 15
  | 6 => some 62
  | 7 => some 49
  | 8 => some 49
  | 13 => some 79
  | 15 => some 2
  | 16 => some 62
  | 17 => some 1
  | 18 => some 1
  | 19 => some 1
  | 20 => some 1
  | 24 => some 8
  | 25 => some 30
  | 26 => some 75
  | 27 => some 27
  | 28 => some 2
  | 29 => some 395
  | 31 => some 21
  | 12 => none
  | 21 => none
  | 23 => none
  | 30 => none
  | _ => some 0

/-- The content of a refused response: as long as its kind's content, its bytes not stated by any
rule (log entry 8). -/
def refusedContent (kind : Nat) : List Byte :=
  (List.range ((contentLength kind).getD (Config.refusedLength kind))).map (Config.refusedByte kind)

/-- The owning block has decided the outcome of a request of port `cp` (R165). -/
def State.decide (s : State) (cp : CtrlPort) (kind : Nat) (status : Status) (content : List Byte) :
    State :=
  s.modCtrl cp fun c => { c with outcome := some ⟨kind, status, content⟩ }

/-- A request of port `cp` is refused: nothing changes but its outcome (spec/09 9.2). -/
def State.refuse (s : State) (cp : CtrlPort) (kind : Nat) (status : Status) : State :=
  s.decide cp kind status (refusedContent kind)

/-- The request a port has handed to its block, which has not yet taken it (R165). -/
def Ctrl.handed (c : Ctrl) : Option Instr :=
  match c.transfer, c.outcome with
  | .working job, none => job.command
  | _, _ => none

/-- Request `i` of port `cp` reaches the block that owns its state, which carries out `work`; one that a
warm reset has abandoned is not carried out, unless the port has handed the same request over anew (R165,
R177, log entry 15). -/
def State.handOver (s : State) (cp : CtrlPort) (i : Instr) (work : State → State) : State :=
  if (s.ctrl cp).abandoned.contains i && (s.ctrl cp).handed != some i then
    s.modCtrl cp fun c => { c with abandoned := c.abandoned.erase i }
  else work s

/-- The image load is running (R169). -/
def State.loading (s : State) : Bool := s.load == .loading

/-! ## Steering intervals (R162) -/

/-- An interval in progress is abandoned: the sum is discarded, the integrator and the offset keep
their values (R162). -/
def Steering.abandon (x : Steering) : Steering :=
  if x.samples = 0 then x
  else { x with sum := 0, samples := 0, abandoned := bump x.abandoned }

/-- Every port steered from bundle `b` abandons its interval in progress (R162). -/
def State.abandonSteering (s : State) (b : BundleId) : State :=
  { s with
    tribs := s.tribs.map fun x =>
      if x.cfg.clock = .steered b then { x with steer := x.steer.abandon } else x }

/-! ## Bundles on a port (spec/01 1.1) -/

/-- A bundle is on a port when its active record names the port. -/
def Bundle.isOn (x : Bundle) (t : TribId) : Bool :=
  match x.active with
  | some r => r.port == t
  | none => false

/-- The armed record: the pending record while an activation is armed (R28). -/
def Bundle.armedRecord (x : Bundle) : Option Record := x.armed.map fun _ => x.pending

/-- The running states: FILLING, PLAYING and DOWN (spec/02 2.4). -/
def BState.running : BState → Bool
  | .filling | .playing | .down => true
  | .free | .stopped => false

/-- A bundle's pool charge: the larger of its active and its armed ring size (R19). -/
def Bundle.poolCharge (x : Bundle) : Nat := max x.ringSize (x.armed.getD 0)

/-- The sum of all bundles' pool charges (R27, R41). -/
def State.poolSum (s : State) : Nat := (allBundles.map fun b => (s.bun b).poolCharge).sum

/-- The pool's free count: 4096 less the sum of the rings allocated (R82). -/
def State.poolFree (s : State) : Nat :=
  Config.poolSlots - (allBundles.map fun b => (s.bun b).playout.ring.length).sum

/-- A natural number clamped to a range (spec/00_scope.md 4.1). -/
def clampNat (lo hi v : Nat) : Nat := max lo (min v hi)

/-- An integer clamped to a range (spec/00_scope.md 4.1). -/
def clampInt (lo hi v : Int) : Int := max lo (min v hi)

end Sys2Proof.Machine
end

