-- ==== Sys2Proof/Machine/Operands.lean ====
section
/-!
DEFINITION. Operands: what each operand form of a request means. A raw value is read into its typed
form, clamped where its rule clamps it and refused (none) where its rule refuses it; and the raw form
of every typed value, which responses and the stored image carry.
-/

namespace Sys2Proof

open Machine

/-! ## Numbers that name something -/

/-- A bundle number, none above 63 (R20 step 2 and its like). -/
def bundleOf (n : Nat) : Option BundleId := if h : n < 64 then some ⟨n, h⟩ else none

/-- A tributary port number, none above 7 (R1 step 2). -/
def tribOf (n : Nat) : Option TribId := if h : n < 8 then some ⟨n, h⟩ else none

/-- A capture slot number, none above 3 (R74). -/
def captureOf (n : Nat) : Option CaptureId := if h : n < 4 then some ⟨n, h⟩ else none

/-- A network port, 0 East and 1 West (R71 step 2). -/
def netOf : Nat → Option NetPort
  | 0 => some .east
  | 1 => some .west
  | _ => none

/-- A path, 1 or 2 (R118). -/
def pathOf : Nat → Option Path
  | 1 => some .p1
  | 2 => some .p2
  | _ => none

/-- A candidate, 0 STATION and 1 to 8 T0 to T7 (R157, spec/10 10.3). -/
def candidateOf : Nat → Option Candidate
  | 0 => some .station
  | n + 1 => (tribOf n).map .trib

/-- A claimable section; none where it does not exist (R171). DESIGN CHOICE: the timing and settings sections
are one each and have no number, and their number byte is not looked at (R181, log entry 68). -/
def RawSection.typed (x : RawSection) : Option Machine.Section :=
  match x.cls with
  | 0 => (bundleOf x.num).map .bundle
  | 1 => (tribOf x.num).map .trib
  | 2 => (netOf x.num).map .list
  | 3 => some .timing
  | 4 => some .settings
  | _ => none

/-- A selector mode; none outside the three or where FORCED names no candidate (R157). -/
def timingModeOf (mode c : Nat) : Option TimingMode :=
  match mode with
  | 0 => some .auto
  | 1 => (candidateOf c).map .forced
  | 2 => some .free
  | _ => none

/-- The local request a PATH_COMMAND leaves, CLEAR leaving NONE; none outside the four kinds or for a
path other than 1 or 2 (R148 step 2). -/
def localRequestOf (req q : Nat) : Option LocalRequest :=
  match req with
  | 0 => some .none
  | 1 => some .lockout
  | 2 => (pathOf q).map .forced
  | 3 => (pathOf q).map .manual
  | _ => none

/-! ## Bundle records (R20, R21) -/

/-- A slot set in ascending order (R21). -/
def SlotSet.sorted : SlotSet → SlotSet
  | .all => .all
  | .list xs => .list ((List.range 32).filter fun n => xs.contains n)

/-- A slot list has no structural fault: not empty, no slot twice, none outside 1 to 31 (R20). -/
def SlotSet.sound : SlotSet → Bool
  | .all => true
  | .list xs => !xs.isEmpty && decide xs.Nodup && xs.all fun n => 1 ≤ n && n ≤ 31

/-- A tag has no structural fault: its id is neither 0 nor 4095 (R20). -/
def tagSound : Option Tag → Bool
  | none => true
  | some t => t.id != 0 && t.id != 4095

/-- Every numeric field outside its range in Table 10 moved to the nearer limit (R21). -/
def RawRecord.clamp (r : RawRecord) : RawRecord :=
  { r with
    fpp := clampNat 1 64 r.fpp
    txLabel := clampNat 0 16383 r.txLabel
    rxLabel := clampNat 0 16383 r.rxLabel
    maxDepth := clampNat 8 4096 r.maxDepth
    targetDepth := clampNat 1 4096 r.targetDepth
    targetDelay := clampNat 250 60000 r.targetDelay
    initialDepth := clampNat 1 4096 r.initialDepth
    deadband := clampNat 1 8 r.deadband
    pace := clampNat 3 10 r.pace
    shiftK := clampNat 2 10 r.shiftK
    stepThreshold := clampNat 10 10000 r.stepThreshold
    stepCount := clampNat 1 15 r.stepCount
    alertHold := clampNat 1 60 r.alertHold
    lossTime := clampNat 1 255 r.lossTime
    holdOff := clampNat 0 100 r.holdOff
    waitRestore := clampNat 0 720 r.waitRestore
    primary := clampNat 1 2 r.primary }

/-- A clamped record with every code in its set (R20 step 5). -/
def RawRecord.coded (r : RawRecord) : Option Record := do
  let port ← tribOf r.port
  let pathMode ← PathMode.ofCode r.pathMode
  let portMap ← PortMap.ofCode r.portMap
  let pclass ← PacketClass.ofCode r.pclass
  let delayMode ← DelayMode.ofCode r.delayMode
  let eqApply ← EqualiseApply.ofCode r.eqApply
  let substitution ← Substitution.ofCode r.substitution
  let authority ← Authority.ofCode r.authority
  let primary ← pathOf r.primary
  return {
    port, pathMode, portMap, pclass, delayMode, eqApply, substitution, authority, primary
    slots := r.slots.sorted
    fpp := r.fpp
    txLabel := r.txLabel
    rxLabel := r.rxLabel
    maxDepth := r.maxDepth
    farStation := r.farStation
    tag := r.tag
    targetDepth := r.targetDepth
    targetDelay := r.targetDelay
    initialDepth := r.initialDepth
    deadband := r.deadband
    pace := r.pace
    fillByte := r.fillByte
    shiftK := r.shiftK
    stepThreshold := r.stepThreshold
    stepCount := r.stepCount
    alertHold := r.alertHold
    lossTime := r.lossTime
    holdOff := r.holdOff
    waitRestore := r.waitRestore
    revertive := r.revertive
    autoStart := r.autoStart }

/-- The record a WRITE_PENDING stores, and whether a field was clamped; none where the record has a
structural fault (R20, R21). -/
def RawRecord.stored (r : RawRecord) : Option (Record × Bool) :=
  if r.slots.sound && tagSound r.tag then
    r.clamp.coded.map fun x => (x, decide (r.clamp ≠ r))
  else none

/-- A record in its raw form. -/
def Record.raw (r : Record) : RawRecord where
  port := r.port.val
  slots := r.slots
  fpp := r.fpp
  txLabel := r.txLabel
  rxLabel := r.rxLabel
  pathMode := r.pathMode.code
  portMap := r.portMap.code
  maxDepth := r.maxDepth
  farStation := r.farStation
  tag := r.tag
  pclass := r.pclass.code
  delayMode := r.delayMode.code
  targetDepth := r.targetDepth
  targetDelay := r.targetDelay
  initialDepth := r.initialDepth
  eqApply := r.eqApply.code
  deadband := r.deadband
  pace := r.pace
  substitution := r.substitution.code
  fillByte := r.fillByte
  shiftK := r.shiftK
  stepThreshold := r.stepThreshold
  stepCount := r.stepCount
  alertHold := r.alertHold
  lossTime := r.lossTime
  holdOff := r.holdOff
  waitRestore := r.waitRestore
  primary := r.primary.code
  revertive := r.revertive
  authority := r.authority.code
  autoStart := r.autoStart

/-! ## Tributary configurations (R1, R3) -/

/-- The transmit clock a request names; none for a code outside Table 5 or a bundle above 63. -/
def RawTribConfig.txClock (x : RawTribConfig) : Option TxClock :=
  match x.clock with
  | 0 => some .system
  | 1 => some .loop
  | 2 => (bundleOf x.clockArg).map .steered
  | _ => none

/-- The stored transmit clock at the image load, which is not tested against R3: SYSTEM where it
names none (R18, log entry 22). -/
def RawTribConfig.storedClock (x : RawTribConfig) : TxClock := x.txClock.getD .system

/-- Both shifts lie in their ranges (R1 step 6). -/
def RawTribConfig.shiftsInRange (x : RawTribConfig) : Bool :=
  6 ≤ x.kp && x.kp ≤ 18 && (8 ≤ x.ki && x.ki ≤ 20)

/-- The configuration a request gives, its shifts clamped, with transmit clock `clock`; none for a
Kind or Alert bit outside Table 5 (R1 steps 4 and 6). -/
def RawTribConfig.typed (x : RawTribConfig) (clock : TxClock) : Option TribConfig := do
  let kind ← TribKind.ofCode x.kind
  let alert ← AlertBit.ofCode x.alert
  return { kind, alert, clock, idle := x.idle, aisWhenDown := x.aisWhenDown
           kp := clampNat 6 18 x.kp, ki := clampNat 8 20 x.ki }

/-- A tributary configuration in its raw form. -/
def TribConfig.raw (x : TribConfig) : RawTribConfig where
  kind := x.kind.code
  clock := x.clock.codes.1
  clockArg := x.clock.codes.2
  idle := x.idle
  alert := x.alert.code
  aisWhenDown := x.aisWhenDown
  kp := x.kp
  ki := x.ki

/-! ## Acceptance list entries (R71) -/

/-- The action an entry names; none for a code outside Table 27 or a bundle above 63 (R71 step 5). -/
def RawEntry.typedAction (x : RawEntry) : Option Action :=
  match x.action with
  | 0 => (bundleOf x.actionArg).map .deliverFixed
  | 1 => some .deliverByLabel
  | 2 => some .discard
  | _ => none

/-- The capture slot an entry names, if any; none outside C0 to C3 (R71 step 5). -/
def captureFieldOf : Option Nat → Option (Option CaptureId)
  | none => some none
  | some n => (captureOf n).map some

/-- The entry a list edit carries; none where it has a fault of R71 step 5. -/
def RawEntry.typed (x : RawEntry) : Option Entry := do
  let action ← x.typedAction
  let capture ← captureFieldOf x.capture
  if x.label ≤ 16383 && x.mask ≤ 16383 then
    return { label := x.label, mask := x.mask, action, capture, enabled := x.enabled }
  else none

/-- An entry in its raw form. -/
def Machine.Entry.raw (x : Entry) : RawEntry where
  label := x.label
  mask := x.mask
  action := x.action.codes.1
  actionArg := x.action.codes.2
  capture := x.capture.map fun c => c.val
  enabled := x.enabled

/-! ## Settings and timing configuration (R156, R170) -/

/-- A bundle type value that R170 accepts (Table 65). -/
def bundleTypeValid (v : Nat) : Bool := 0x0600 ≤ v && v ≤ 0xFFFF && v != 0x8100

/-- A claim idle limit clamped to 1 to 60 s (R170). -/
def clampIdle (v : Nat) : Nat := clampNat 1 60 v

/-- A priority and a qualify time clamped to 7 and to 600 s (R156). -/
def RawPriority.clamp (x : RawPriority) : RawPriority :=
  ⟨clampNat 0 7 x.priority, clampNat 0 600 x.qualify⟩

end Sys2Proof
end

