-- ==== Sys2Proof/Machine/Layout.lean ====
section
/-!
DEFINITION. Layout: how requests and configurations are laid out in bytes (R180, R181, Table 71,
spec/10). Each raw form is written by a `…Bytes` and read by an `…Of`; `requestOf` reads the
parameters of every request kind, and `requestBytes` writes them.
-/

namespace Sys2Proof

open Machine

/-! ## A record (Table 10) -/

/-- A tag: its presence byte and two bytes (R181). -/
def optTagBytes : Option Tag → List Byte
  | none => 0 :: bytesOf 2 0
  | some t => 1 :: bytesOf 2 t.word

/-- The tag at byte `i` (R181). -/
def optTagOf (bs : List Byte) (i : Nat) : Option Tag :=
  if (byteAt bs i).getLsbD 0 then some (Tag.ofWord (fieldAt bs (i + 1) 2)) else none

/-- A record in the order of Table 10: 49 bytes. -/
def RawRecord.bytes (r : RawRecord) : List Byte :=
  bytesOf 1 r.port ++ bytesOf 4 r.slots.mask ++ bytesOf 1 r.fpp ++ bytesOf 2 r.txLabel
    ++ bytesOf 2 r.rxLabel ++ bytesOf 1 r.pathMode ++ bytesOf 1 r.portMap ++ bytesOf 2 r.maxDepth
    ++ addressBytes r.farStation ++ optTagBytes r.tag ++ bytesOf 1 r.pclass ++ bytesOf 1 r.delayMode
    ++ bytesOf 2 r.targetDepth ++ bytesOf 2 r.targetDelay ++ bytesOf 2 r.initialDepth
    ++ bytesOf 1 r.eqApply ++ bytesOf 1 r.deadband ++ bytesOf 1 r.pace ++ bytesOf 1 r.substitution
    ++ [r.fillByte] ++ bytesOf 1 r.shiftK ++ bytesOf 2 r.stepThreshold ++ bytesOf 1 r.stepCount
    ++ bytesOf 1 r.alertHold ++ bytesOf 1 r.lossTime ++ bytesOf 1 r.holdOff
    ++ bytesOf 2 r.waitRestore ++ bytesOf 1 r.primary ++ [yesNoByte r.revertive]
    ++ bytesOf 1 r.authority ++ [yesNoByte r.autoStart]

/-- The length of a record in bytes. -/
def recordLength : Nat := 49

/-- The record in 49 bytes. -/
def RawRecord.ofBytes (bs : List Byte) : RawRecord where
  port := fieldAt bs 0 1
  slots := SlotSet.ofMask (fieldAt bs 1 4)
  fpp := fieldAt bs 5 1
  txLabel := fieldAt bs 6 2
  rxLabel := fieldAt bs 8 2
  pathMode := fieldAt bs 10 1
  portMap := fieldAt bs 11 1
  maxDepth := fieldAt bs 12 2
  farStation := BitVec.ofNat 48 (fieldAt bs 14 6)
  tag := optTagOf bs 20
  pclass := fieldAt bs 23 1
  delayMode := fieldAt bs 24 1
  targetDepth := fieldAt bs 25 2
  targetDelay := fieldAt bs 27 2
  initialDepth := fieldAt bs 29 2
  eqApply := fieldAt bs 31 1
  deadband := fieldAt bs 32 1
  pace := fieldAt bs 33 1
  substitution := fieldAt bs 34 1
  fillByte := byteAt bs 35
  shiftK := fieldAt bs 36 1
  stepThreshold := fieldAt bs 37 2
  stepCount := fieldAt bs 39 1
  alertHold := fieldAt bs 40 1
  lossTime := fieldAt bs 41 1
  holdOff := fieldAt bs 42 1
  waitRestore := fieldAt bs 43 2
  primary := fieldAt bs 45 1
  revertive := yesNoOf (byteAt bs 46)
  authority := fieldAt bs 47 1
  autoStart := yesNoOf (byteAt bs 48)

/-! ## A tributary configuration (Table 5) -/

/-- The six fields of Table 5: 8 bytes. -/
def RawTribConfig.bytes (x : RawTribConfig) : List Byte :=
  bytesOf 1 x.kind ++ bytesOf 1 x.clock ++ bytesOf 1 x.clockArg ++ [x.idle] ++ bytesOf 1 x.alert
    ++ [yesNoByte x.aisWhenDown] ++ bytesOf 1 x.kp ++ bytesOf 1 x.ki

/-- The configuration in 8 bytes. -/
def RawTribConfig.ofBytes (bs : List Byte) : RawTribConfig where
  kind := fieldAt bs 0 1
  clock := fieldAt bs 1 1
  clockArg := fieldAt bs 2 1
  idle := byteAt bs 3
  alert := fieldAt bs 4 1
  aisWhenDown := yesNoOf (byteAt bs 5)
  kp := fieldAt bs 6 1
  ki := fieldAt bs 7 1

/-! ## An acceptance list entry (Table 27) -/

/-- The fields of Table 27: 9 bytes. -/
def RawEntry.bytes (x : RawEntry) : List Byte :=
  bytesOf 2 x.label ++ bytesOf 2 x.mask ++ bytesOf 1 x.action ++ bytesOf 1 x.actionArg
    ++ optBytes 1 x.capture ++ [yesNoByte x.enabled]

/-- The length of an entry in bytes. -/
def entryLength : Nat := 9

/-- The entry in 9 bytes. -/
def RawEntry.ofBytes (bs : List Byte) : RawEntry where
  label := fieldAt bs 0 2
  mask := fieldAt bs 2 2
  action := fieldAt bs 4 1
  actionArg := fieldAt bs 5 1
  capture := if (byteAt bs 6).getLsbD 0 then some (fieldAt bs 7 1) else none
  enabled := yesNoOf (byteAt bs 8)

/-! ## Settings, timing configuration, sections (Tables 57 and 65, R171) -/

/-- The four fields of Table 65: 15 bytes. -/
def RawSettings.bytes (x : RawSettings) : List Byte :=
  addressBytes x.east ++ addressBytes x.west ++ bytesOf 2 x.bundleType ++ bytesOf 1 x.idleLimit

/-- The settings in 15 bytes. -/
def RawSettings.ofBytes (bs : List Byte) : RawSettings where
  east := BitVec.ofNat 48 (fieldAt bs 0 6)
  west := BitVec.ofNat 48 (fieldAt bs 6 6)
  bundleType := fieldAt bs 12 2
  idleLimit := fieldAt bs 14 1

/-- The nine priorities and qualify times: 27 bytes (R156). -/
def timingBytes (x : Vector RawPriority 9) : List Byte :=
  x.toList.flatMap fun p => bytesOf 1 p.priority ++ bytesOf 2 p.qualify

/-- The nine priorities and qualify times in 27 bytes. -/
def timingOf (bs : List Byte) : Vector RawPriority 9 :=
  Vector.ofFn fun i => ⟨fieldAt bs (3 * i.val) 1, fieldAt bs (3 * i.val + 1) 2⟩

/-- A section: its class and its number (R171, log entry 12). -/
def RawSection.bytes (x : RawSection) : List Byte := bytesOf 1 x.cls ++ bytesOf 1 x.num

/-- The section in two bytes. -/
def RawSection.ofBytes (bs : List Byte) : RawSection := ⟨fieldAt bs 0 1, fieldAt bs 1 1⟩

/-! ## Requests (Tables 64 and 71) -/

/-- How many parameter bytes a request kind has; none for a kind that is not one of Table 64 (R180,
R181). -/
def paramLength : (kind : Nat) → Option Nat
  | 1 => some 0
  | 2 => some 0
  | 3 => some 15
  | 4 => some 2
  | 5 => some 2
  | 6 => some 2
  | 7 => some 50
  | 8 => some 1
  | 9 => some 1
  | 10 => some 1
  | 11 => some 1
  | 12 => some 1
  | 13 => some 2
  | 14 => some 2
  | 15 => some 1
  | 16 => some 1
  | 17 => some 3
  | 18 => some 11
  | 19 => some 2
  | 20 => some 11
  | 21 => some 1
  | 22 => some 1
  | 23 => some 1
  | 24 => some 9
  | 25 => some 1
  | 26 => some 1
  | 27 => some 27
  | 28 => some 2
  | 29 => some 0
  | 30 => some 0
  | 31 => some 0
  | 32 => some 0
  | 33 => some 0
  | 34 => some 0
  | _ => none

/-- The request that parameters `bs` of kind `kind` carry, sent on port `cp`; none for a kind that is
not one of Table 64 (R180, R181). -/
def requestOf (cp : CtrlPort) (kind : Nat) (bs : List Byte) : Option Instr :=
  match kind with
  | 1 => some (.readIdentity cp)
  | 2 => some (.readSettings cp)
  | 3 => some (.writeSettings cp (.ofBytes bs))
  | 4 => some (.openEdit cp (.ofBytes bs))
  | 5 => some (.closeEdit cp (.ofBytes bs))
  | 6 => some (.readBundle cp (fieldAt bs 0 1)
      (if (byteAt bs 1).getLsbD 0 then .pending else .active))
  | 7 => some (.writePending cp (fieldAt bs 0 1) (.ofBytes (bs.drop 1)))
  | 8 => some (.activate cp (fieldAt bs 0 1))
  | 9 => some (.start cp (fieldAt bs 0 1))
  | 10 => some (.stop cp (fieldAt bs 0 1))
  | 11 => some (.free cp (fieldAt bs 0 1))
  | 12 => some (.readPlayout cp (fieldAt bs 0 1))
  | 13 => some (.readDelay cp (fieldAt bs 0 1) (fieldAt bs 1 1))
  | 14 => some (.clearDelayExtremes cp (fieldAt bs 0 1) (fieldAt bs 1 1))
  | 15 => some (.applyEqualisation cp (fieldAt bs 0 1))
  | 16 => some (.readPath cp (fieldAt bs 0 1))
  | 17 => some (.pathCommand cp (fieldAt bs 0 1) (fieldAt bs 1 1) (fieldAt bs 2 1))
  | 18 => some (.listInsert cp (fieldAt bs 0 1) (fieldAt bs 1 1) (.ofBytes (bs.drop 2)))
  | 19 => some (.listRemove cp (fieldAt bs 0 1) (fieldAt bs 1 1))
  | 20 => some (.listReplace cp (fieldAt bs 0 1) (fieldAt bs 1 1) (.ofBytes (bs.drop 2)))
  | 21 => some (.listRead cp (fieldAt bs 0 1))
  | 22 => some (.captureArm cp (fieldAt bs 0 1))
  | 23 => some (.captureRead cp (fieldAt bs 0 1))
  | 24 => some (.tribConfig cp (fieldAt bs 0 1) (.ofBytes (bs.drop 1)))
  | 25 => some (.tribStatus cp (fieldAt bs 0 1))
  | 26 => some (.portStatus cp (fieldAt bs 0 1))
  | 27 => some (.timingConfig cp (timingOf bs))
  | 28 => some (.timingCommand cp (fieldAt bs 0 1) (fieldAt bs 1 1))
  | 29 => some (.timingStatus cp)
  | 30 => some (.readEvents cp)
  | 31 => some (.readFaults cp)
  | 32 => some (.clearFaults cp)
  | 33 => some (.saveImage cp)
  | 34 => some (.warmReset cp)
  | _ => none

/-- The port, the kind code and the parameters of a request; none for a command that no request frame
carries (R180, R181). -/
def requestBytes : Instr → Option (CtrlPort × Nat × List Byte)
  | .readIdentity cp => some (cp, 1, [])
  | .readSettings cp => some (cp, 2, [])
  | .writeSettings cp x => some (cp, 3, x.bytes)
  | .openEdit cp x => some (cp, 4, x.bytes)
  | .closeEdit cp x => some (cp, 5, x.bytes)
  | .readBundle cp b c => some (cp, 6, bytesOf 1 b ++ bytesOf 1 c.code)
  | .writePending cp b x => some (cp, 7, bytesOf 1 b ++ x.bytes)
  | .activate cp b => some (cp, 8, bytesOf 1 b)
  | .start cp b => some (cp, 9, bytesOf 1 b)
  | .stop cp b => some (cp, 10, bytesOf 1 b)
  | .free cp b => some (cp, 11, bytesOf 1 b)
  | .readPlayout cp b => some (cp, 12, bytesOf 1 b)
  | .readDelay cp b p => some (cp, 13, bytesOf 1 b ++ bytesOf 1 p)
  | .clearDelayExtremes cp b p => some (cp, 14, bytesOf 1 b ++ bytesOf 1 p)
  | .applyEqualisation cp b => some (cp, 15, bytesOf 1 b)
  | .readPath cp b => some (cp, 16, bytesOf 1 b)
  | .pathCommand cp b req q => some (cp, 17, bytesOf 1 b ++ bytesOf 1 req ++ bytesOf 1 q)
  | .listInsert cp n i x => some (cp, 18, bytesOf 1 n ++ bytesOf 1 i ++ x.bytes)
  | .listRemove cp n i => some (cp, 19, bytesOf 1 n ++ bytesOf 1 i)
  | .listReplace cp n i x => some (cp, 20, bytesOf 1 n ++ bytesOf 1 i ++ x.bytes)
  | .listRead cp n => some (cp, 21, bytesOf 1 n)
  | .captureArm cp c => some (cp, 22, bytesOf 1 c)
  | .captureRead cp c => some (cp, 23, bytesOf 1 c)
  | .tribConfig cp t x => some (cp, 24, bytesOf 1 t ++ x.bytes)
  | .tribStatus cp t => some (cp, 25, bytesOf 1 t)
  | .portStatus cp n => some (cp, 26, bytesOf 1 n)
  | .timingConfig cp x => some (cp, 27, timingBytes x)
  | .timingCommand cp m c => some (cp, 28, bytesOf 1 m ++ bytesOf 1 c)
  | .timingStatus cp => some (cp, 29, [])
  | .readEvents cp => some (cp, 30, [])
  | .readFaults cp => some (cp, 31, [])
  | .clearFaults cp => some (cp, 32, [])
  | .saveImage cp => some (cp, 33, [])
  | .warmReset cp => some (cp, 34, [])
  | .requestWrite _ _ => none
  | .responseRead _ _ => none
  | .transferIgnored _ _ _ => none
  | .fullReset => none
  | .imageLoad _ => none
  | .memoryReadyTimeout => none
  | .saveReadBack _ => none
  | .saveTimeout => none
  | .lossOfSignal _ => none
  | .receiveClockTimeout _ => none
  | .recoveryBlockComplete _ _ => none
  | .aisBlockComplete _ _ => none
  | .alignmentFound _ _ => none
  | .alignmentWord _ _ => none
  | .nonAlignmentWord _ _ => none
  | .receiveFrame _ _ => none
  | .transmitFrameStart _ _ => none
  | .activationTakesEffect _ => none
  | .playoutStart _ => none
  | .adjustStep _ => none
  | .steeringIntervalEnd _ => none
  | .linkIndicationAppears _ => none
  | .linkIndicationLost _ _ _ => none
  | .linkQualificationExpiry _ => none
  | .frameTaken _ _ _ _ => none
  | .frameSent _ => none
  | .interFrameGapEnd _ => none
  | .estimateWaitExpiry _ => none
  | .alertTimerExpiry _ => none
  | .lossTimerExpiry _ _ => none
  | .startWaitExpiry _ => none
  | .holdOffExpiry _ => none
  | .waitToRestoreExpiry _ => none
  | .mismatchTimerExpiry _ => none
  | .recordPatrol _ => none
  | .stationActivityLoss => none
  | .measurementWindowEnd _ _ => none
  | .qualifyTimerExpiry _ => none
  | .idleTimerExpiry _ => none
  | .recoveryBlockBegins _ => none
  | .responsePrepared _ => none

end Sys2Proof
end

