-- ==== Sys2Proof/Machine/Flags.lean ====
section
/-!
DEFINITION. Flags: every condition the manual computes from the state and holds nowhere: signal fail,
the down condition, the delay alert, the alarms, the Playing Path, the steering status and the
attention output.
-/

namespace Sys2Proof.Machine

/-! ## Tributary lines -/

/-- A block of 512 bits meets the AIS test: fewer than three bits of value 0 (spec/01 1.2). -/
def meetsAis (block : BitVec 512) : Bool := zeroBits block < 3

/-- The seven bits of the alignment pattern 0, 0, 1, 1, 0, 1, 1, bit `i` of the vector the `i`-th
received (R7). -/
def alignmentPattern : BitVec 7 := 0b1101100

/-- Both checks of a candidate pass: bit 256 after its first bit is 1 and the pattern stands at it
and 512 bits later (R7). -/
def candidatePasses (window : BitVec 519) : Bool :=
  window.extractLsb' 0 7 == alignmentPattern && window.getLsbD 256
    && window.extractLsb' 512 7 == alignmentPattern

/-- The receive state in which frames are taken from the line (R12). -/
def RxState.onLine : RxState → Bool
  | .aligned | .present => true
  | .off | .noSignal | .ais | .search => false

/-- Remote alarm out: the receive state is other than ALIGNED (R15). R15 defines it at a frame start of a
FRAMED port; DESIGN CHOICE: at any other instant, and on a port of another kind, TRIB_STATUS gives the
same condition of the state as it stands (log entry 42). -/
def Trib.remoteAlarmOut (x : Trib) : Bool := x.rx != .aligned

/-! ## Paths -/

/-- Signal fail of a path: its record is UNKNOWN or LOST, or its far-end flag is set (R137). -/
def PathRecord.signalFail (r : PathRecord) : Bool := r.state != .up || r.farFlag

/-- SF(p) of a bundle (R137). -/
def Supervisor.signalFail (x : Supervisor) (p : Path) : Bool := (x.path.atPath p).signalFail

/-- The down condition of a path mode (Table 51). -/
def Supervisor.downCondition (x : Supervisor) : PathMode → Bool
  | .merged => x.path.one.state != .up && x.path.two.state != .up
  | .single => x.path.one.state != .up
  | .selected => x.signalFail .p1 && x.signalFail .p2

/-- The path a far-end announcement names, if it is 1 or 2 (R145). -/
def announcedPath : Option PlayingPath → Option Path
  | some .path1 => some .p1
  | some .path2 => some .p2
  | _ => none

/-- The announcement is 1 or 2 and differs from the active path (R146). -/
def Selector.disagrees (x : Selector) : Bool :=
  match announcedPath x.announcement with
  | some q => q != x.active
  | none => false

/-- The Playing Path a copy starting now would send (Table 20a). -/
def playingPath (state : BState) (mode : PathMode) (active : Path) : PlayingPath :=
  match state, mode with
  | .playing, .merged => .both
  | .playing, .selected => if active = .p1 then .path1 else .path2
  | .playing, .single => .path1
  | _, _ => .none

/-! ## Delay alert -/

/-- The delay alert of a bundle: its alert timer runs, a depth adjustment runs, or its mismatch flag
is set (R129). -/
def Bundle.delayAlert (x : Bundle) : Bool :=
  x.delay.alertTimer.isSome || x.playout.adjust.isSome || x.supervisor.selector.mismatch

/-- The port delay alert: at least one bundle on the port has its delay alert active (R15). -/
def State.portDelayAlert (s : State) (t : TribId) : Bool :=
  allBundles.any fun b => (s.bun b).isOn t && (s.bun b).delayAlert

/-! ## Steering status (R159) -/

/-- Steering statuses, in the order of Table 61. -/
inductive SteeringStatus where
  | notSteered | frozen | waiting | running
deriving DecidableEq, Repr

/-- The steering status of a port (R159). -/
def State.steeringStatus (s : State) (t : TribId) : SteeringStatus :=
  match (s.trib t).cfg.clock with
  | .steered b =>
    let x := s.bun b
    if !x.isOn t then .frozen
    else if x.state == .playing && x.playout.adjust.isNone then .running
    else .waiting
  | _ => .notSteered

/-- The code of a steering status (Table 61, R181). -/
def SteeringStatus.code : SteeringStatus → Nat
  | .notSteered => 0
  | .frozen => 1
  | .waiting => 2
  | .running => 3

/-! ## Timing -/

/-- The system frequency in force, as an offset in units of 1/1024 ppm (R155). -/
def State.systemFrequency (s : State) : Int :=
  match s.timing.state with
  | .freeRun => 0
  | .holdover => s.timing.holdover
  | .locked c => Config.lineFrequency c s.now

/-! ## Attention -/

/-- The attention output of a control port: its event queue holds at least one record or it is
RESPONSE_READY (R168). -/
def Ctrl.attention (c : Ctrl) : Bool :=
  !c.queue.isEmpty ||
    match c.transfer with
    | .ready _ _ => true
    | _ => false

end Sys2Proof.Machine
end

