-- ==== Sys2Proof/Machine/Delay.lean ====
section
/-!
DEFINITION. Delay: the delay unit (chapter 6). Echo state, round-trip samples, the delay record and
its step test, the one-way estimate, the target computation and its adoption.
-/

namespace Sys2Proof.Machine

/-! ## The one-way estimate and the target depth -/

/-- The path whose baseline the estimate uses; none where there is no estimate (Table 47). With equal
baselines in MERGED mode path 1 is named (log entry 26). -/
def Delay.estimatePath (d : Delay) (mode : PathMode) (active : Path) : Option Path :=
  match mode with
  | .merged =>
    if d.record.one.tracking then
      if d.record.two.tracking && d.record.one.baseline < d.record.two.baseline then some .p2
      else some .p1
    else if d.record.two.tracking then some .p2
    else none
  | .selected => if (d.record.atPath active).tracking then some active else none
  | .single => if d.record.one.tracking then some .p1 else none

/-- The one-way estimate N in µs of a baseline in ticks (R120). -/
def oneWay (baseline : Nat) : Nat := baseline * 4 / 1000

/-- The one-way estimate of a bundle, if there is one (R120). -/
def Delay.estimate (d : Delay) (mode : PathMode) (active : Path) : Option Nat :=
  (d.estimatePath mode active).map fun p => oneWay (d.record.atPath p).baseline

/-- The effective max depth of a record with ring size `size` (R121). -/
def effectiveMax (r : Record) (size : Nat) : Nat := min r.maxDepth ((size - 2) * r.fpp)

/-- The outcome of a target computation: its target, its flags, its raw depth (0 where it formed
none) and whether it found an estimate (R121 to R123). -/
structure Computation where
  target : Nat
  short : Bool
  long : Bool
  raw : Int
  found : Bool
deriving DecidableEq, Repr

/-- D = T - N - Lfix in µs (R122 step 1). -/
def delayBudget (total estimate : Nat) : Int := (total : Int) - (estimate : Int) - Config.lfix

/-- The raw depth, floor((D + 62) / 125) (R122 step 2). -/
def rawDepthOf (total estimate : Nat) : Int := (delayBudget total estimate + 62) / 125

/-- A target computation from a record, its ring size and the estimate (R121, R122). DESIGN CHOICE: the raw
depth held is 0 where none is formed, as the events of R123 give it (log entry 51). -/
def computation (r : Record) (size : Nat) (estimate : Option Nat) : Computation :=
  let top := effectiveMax r size
  match r.delayMode, estimate with
  | .fixed, e => ⟨clampNat r.fpp top r.targetDepth, false, false, 0, e.isSome⟩
  | .equalised, none => ⟨clampNat r.fpp top r.initialDepth, false, false, 0, false⟩
  | .equalised, some n =>
    let raw := rawDepthOf r.targetDelay n
    if raw < (r.fpp : Int) then ⟨r.fpp, true, false, raw, true⟩
    else if (top : Int) < raw then ⟨top, false, true, raw, true⟩
    else ⟨raw.toNat, false, false, raw, true⟩

/-! ## Adoption (R103, R123 to R128) -/

/-- The detail of DEPTH_ADJUST: phase in bits 31 to 26, sampled fill in bits 25 to 13, target in bits
12 to 0 (Table 73a). -/
def adjustDetail (phase fill target : Nat) : Nat :=
  phase * 67108864 + fill % 8192 * 8192 + target % 8192

/-- The store takes an adopted target of a PLAYING bundle: a depth adjustment starts, or the running
one is retargeted; the START event gives the fill last sampled (R103, log entry 27). -/
def State.startAdjust (s : State) (b : BundleId) (target : Nat) : State :=
  let p := (s.bun b).playout
  match p.adjust with
  | none =>
    let s := s.modPlayout b fun p => { p with adjust := some ⟨target, 0, none⟩ }
    (s.abandonSteering b).post .depthAdjust (.bundle b) (adjustDetail 0 p.sample target)
  | some a =>
    let s := s.modPlayout b fun p => { p with adjust := some { a with target := target } }
    s.post .depthAdjust (.bundle b) (adjustDetail 1 0 target)

/-- A target becomes the target in force (R125). -/
def State.setTarget (s : State) (b : BundleId) (target : Nat) : State :=
  s.modDelay b fun d => { d with target := target }

/-- A target is adopted in PLAYING: it becomes the target in force and is handed to the store
(R126). -/
def State.adoptPlaying (s : State) (b : BundleId) (target : Nat) : State :=
  (s.setTarget b target).startAdjust b target

/-- The detail of EQUALISE_PENDING: the target in force and the proposed target (Table 73a). -/
def pendingDetail (inForce proposed : Nat) : Nat := inForce * 65536 + proposed

/-- The proposal becomes `proposed`, and EQUALISE_PENDING is posted with target `shown` (R127). -/
def State.propose (s : State) (b : BundleId) (proposed : Option Nat) (shown : Nat) : State :=
  let inForce := (s.bun b).delay.target
  (s.modDelay b fun d => { d with proposed := proposed }).post .equalisePending (.bundle b)
    (pendingDetail inForce shown)

/-- A standing proposal is dropped without an event (R119, R124). -/
def State.dropProposal (s : State) (b : BundleId) : State :=
  s.modDelay b fun d => { d with proposed := none }

/-- The distance between two depths. -/
def depthDistance (x y : Nat) : Nat := x - y + (y - x)

/-- A target computed in PLAYING is due (R126). -/
def targetDue (r : Record) (inForce target : Nat) : Bool :=
  match r.delayMode with
  | .equalised => r.deadband ≤ depthDistance target inForce
  | .fixed => target != inForce

/-- A target computed in PLAYING is adopted, proposed or let pass (R126, R127). -/
def State.settlePlaying (s : State) (b : BundleId) (r : Record) (target : Nat) : State :=
  let d := (s.bun b).delay
  if targetDue r d.target target then
    match r.eqApply with
    | .auto => s.adoptPlaying b target
    | .held => if d.proposed = some target then s else s.propose b (some target) target
  else
    match d.proposed with
    | some _ => s.propose b none d.target
    | none => s

/-- The detail of EQUALISE_SHORT and EQUALISE_LONG: the flag in bit 31 and the raw depth in bits 15
to 0 (Table 73a). -/
def flagDetail (flag : Bool) (raw : Int) : Nat := flag.toNat * 2147483648 + (raw % 65536).toNat

/-- A computation sets the two flags and the raw depth, and posts each change of a flag (R123). DESIGN
CHOICE: EQUALISE_SHORT joins the queues before EQUALISE_LONG, and both before the other events of the
computation (R173, log entry 41). -/
def State.setEqualiseFlags (s : State) (b : BundleId) (c : Computation) : State :=
  let d := (s.bun b).delay
  let s := s.modDelay b fun d => { d with short := c.short, long := c.long, rawDepth := c.raw }
  let s := s.postIf (d.short != c.short) .equaliseShort (.bundle b) (flagDetail c.short c.raw)
  s.postIf (d.long != c.long) .equaliseLong (.bundle b) (flagDetail c.long c.raw)

/-- A computation that finds an estimate ends WAIT_ESTIMATE: the store passes to COUNTDOWN (R93,
R122). -/
def State.endEstimateWait (s : State) (b : BundleId) (found : Bool) : State :=
  if found && (s.bun b).playout.phase == .waitEstimate then
    s.modPlayout b fun p => { p with phase := .countdown, estimateWait := none }
  else s

/-- The computation the delay unit would make for a bundle now (R120 to R122). -/
def Bundle.computation (x : Bundle) (r : Record) : Computation :=
  Machine.computation r x.ringSize
    (x.delay.estimate r.pathMode x.supervisor.selector.active)

/-- The delay unit makes a target computation for bundle `b` and settles its outcome by the bundle's
state (R124 to R127). A bundle without an active record has no target. -/
def State.computeTarget (s : State) (b : BundleId) : State :=
  let x := s.bun b
  match x.active with
  | none => s
  | some r =>
    let c := x.computation r
    let s := s.setEqualiseFlags b c
    let s := s.endEstimateWait b c.found
    match x.state with
    | .playing => s.settlePlaying b r c.target
    | .stopped | .filling | .down => s.setTarget b c.target
    | .free => s

/-! ## The alert timer and clearing (R119, R130) -/

/-- The delay alert timer is restarted for the alert hold of the record (R130). -/
def State.restartAlert (s : State) (b : BundleId) (r : Record) : State :=
  s.modDelay b fun d => { d with alertTimer := s.afterSec r.alertHold }

/-- A delay record cleared, its counters kept (Table 44, R119). -/
def DelayRecord.cleared (x : DelayRecord) : DelayRecord :=
  { x with tracking := false, lastRtt := 0, baseline := 0, difference := 0, minimum := 0
           maximum := 0, stepRun := 0 }

/-- The echo states and delay records of both paths are cleared, the alert timer stopped and any
proposal dropped; the counters of R132 are zeroed where `zero` says so (R119, R132). -/
def Delay.clear (d : Delay) (zero : Bool) : Delay :=
  { d with
    echo := both .cleared
    record := if zero then both .zero else d.record.map .cleared
    proposed := none
    alertTimer := none }

/-! ## Round-trip samples (R111 to R117) -/

/-- The round-trip sample of an accepted packet (R113). -/
def roundTrip (arrival echoOrigin echoDwell : Time) : Nat := (arrival - echoOrigin - echoDwell).toNat

/-- A sample is plausible: at most 1 s, and so below 2^31 (R114). -/
def plausible (rtt : Nat) : Bool := rtt ≤ Config.maxDwell

/-- The step threshold in ticks (R117). -/
def thresholdTicks (r : Record) : Nat := r.stepThreshold * 125

/-- The step run after a sample whose difference is `diff` (R117). -/
def nextStepRun (r : Record) (run : Nat) (diff : Int) : Nat :=
  if thresholdTicks r ≤ diff.natAbs then run + 1 else 0

/-- What a plausible sample does to a delay record, and whether it completes a route step (R115 to
R117). -/
def DelayRecord.sample (x : DelayRecord) (r : Record) (rtt : Nat) : DelayRecord × Bool :=
  if x.tracking then
    let diff : Int := (rtt : Int) - (x.baseline : Int)
    let run := nextStepRun r x.stepRun diff
    let y := { x with lastRtt := rtt, minimum := min x.minimum rtt, maximum := max x.maximum rtt
                      samples := bump x.samples, difference := diff }
    if r.stepCount ≤ run then
      ({ y with baseline := rtt, stepRun := 0, routeSteps := bump x.routeSteps }, true)
    else
      let moved := (x.baseline : Int) + diff / (2 ^ r.shiftK : Nat)
      ({ y with baseline := moved.toNat, stepRun := run }, false)
  else
    ({ x with tracking := true, lastRtt := rtt, baseline := rtt, difference := 0, minimum := rtt
              maximum := rtt, stepRun := 0, samples := bump x.samples }, false)

/-- The detail of ROUTE_STEP: old and new baselines in units of 16 µs (R117, spec/10 10.3). -/
def stepDetail (old new : Nat) : Nat := old / 2000 * 65536 + new / 2000

/-- The echo state of path `p` takes an accepted packet (R111). -/
def State.updateEcho (s : State) (b : BundleId) (p : Path) (origin arrival : Time) : State :=
  s.modDelay b fun d => { d with echo := d.echo.setPath p ⟨origin, arrival, true⟩ }

/-- A round-trip sample reaches the delay record of path `p` (R113 to R117, R124). -/
def State.takeSample (s : State) (b : BundleId) (r : Record) (p : Path) (rtt : Nat) : State :=
  let x := (s.bun b).delay.record.atPath p
  if plausible rtt then
    let (y, stepped) := x.sample r rtt
    let s := s.modDelay b fun d => { d with record := d.record.setPath p y }
    let s :=
      if stepped then
        (s.post .routeStep (.bundlePath b p) (stepDetail x.baseline rtt)).restartAlert b r
      else s
    s.computeTarget b
  else
    s.modDelay b fun d =>
      { d with record := d.record.setPath p { x with implausible := bump x.implausible } }

/-- A packet with Echo Valid 0 gives no sample (R113). -/
def State.countUnechoed (s : State) (b : BundleId) (p : Path) : State :=
  s.modDelay b fun d =>
    let x := d.record.atPath p
    { d with record := d.record.setPath p { x with unechoed := bump x.unechoed } }

/-! ## Commands of the delay unit -/

/-- The request kind codes of this file (R180). -/
def kindClearDelayExtremes : Nat := 14
def kindApplyEqualisation : Nat := 15

/-- Minimum and maximum set to the last RTT of a TRACKING record (R118). -/
def DelayRecord.clearExtremes (x : DelayRecord) : DelayRecord :=
  if x.tracking then { x with minimum := x.lastRtt, maximum := x.lastRtt } else x

/-- CLEAR_DELAY_EXTREMES (R118). -/
def clearDelayExtremes (cp : CtrlPort) (b p : Nat) (s : State) : State :=
  match bundleOf b, pathOf p with
  | some b, some p =>
    (s.modDelay b fun d =>
      { d with record := d.record.setPath p (d.record.atPath p).clearExtremes }).decide cp
        kindClearDelayExtremes .ok []
  | _, _ => s.refuse cp kindClearDelayExtremes .badValue

/-- APPLY_EQUALISATION (R128). -/
def applyEqualisation (cp : CtrlPort) (b : Nat) (s : State) : State :=
  if s.loading then s.refuse cp kindApplyEqualisation .loading
  else match bundleOf b with
    | none => s.refuse cp kindApplyEqualisation .badValue
    | some b =>
      match (s.bun b).delay.proposed with
      | none => s.refuse cp kindApplyEqualisation .badState
      | some target =>
        ((s.dropProposal b).adoptPlaying b target).decide cp kindApplyEqualisation .ok
          (bytesOf 2 target)

/-- ALERT_TIMER_EXPIRY: the running timer expires and stops; a restart puts its expiry off (R130). -/
def alertTimerExpiry (b : BundleId) (s : State) : State :=
  if s.due (s.bun b).delay.alertTimer then s.modDelay b fun d => { d with alertTimer := none }
  else s

end Sys2Proof.Machine
end

