-- ==== Sys2Proof/Machine/Ring.lean ====
section
/-!
DEFINITION. Ring: the playout ring of a bundle as data (chapter 5: slots, head, fill, slip forward,
emptying), and the changes of bundle state that the bundle table makes (R35, R39).
-/

namespace Sys2Proof.Machine

/-! ## Slots and fill -/

/-- The packet held for sequence `q`, if any: slot `q` mod R filled with `q` (R85). -/
def Playout.slotFor (p : Playout) (q : Seq) : Option RingSlot :=
  match p.ring[q.toNat % p.ring.length]? with
  | some (some x) => if x.seq = q then some x else none
  | _ => none

/-- Slot `q` mod R replaced. -/
def Playout.setSlot (p : Playout) (q : Seq) (x : Option RingSlot) : Playout :=
  { p with ring := p.ring.set (q.toNat % p.ring.length) x }

/-- The packets the ring holds, in slot order. -/
def Playout.heldSlots (p : Playout) : List RingSlot := p.ring.filterMap id

/-- The ring holds nothing. -/
def Playout.isEmpty (p : Playout) : Bool := p.ring.all Option.isNone

/-- The distance of a sequence from the head, modulo 65536 (R85). -/
def seqDistance (h q : Seq) : Nat := (q - h).toNat

/-- The greatest distance from head `h` of a held packet, if any is held (R90). -/
def Playout.newest (p : Playout) (h : Seq) : Option Nat :=
  (p.heldSlots.map fun x => seqDistance h x.seq).max?

/-- The fill in frames: (Nmax - H + 1) × FPP - Played; 0 when the ring holds nothing or H is
undefined (R90). -/
def Playout.fill (p : Playout) (fpp : Nat) : Nat :=
  match p.head with
  | none => 0
  | some h =>
    match p.newest h with
    | none => 0
    | some d => (d + 1) * fpp - p.played

/-! ## Advancing the head -/

/-- The head advances by one sequence as in a slip forward: a packet held at the old head is
discarded, a period in progress is abandoned. Answers the packets discarded (R91 step 1). -/
def Playout.advance (p : Playout) (h : Seq) : Playout × Nat :=
  let n := if (p.slotFor h).isSome then 1 else 0
  let q := if (p.slotFor h).isSome then p.setSlot h none else p
  ({ q with head := some (h + 1), period := .none, played := 0 }, n)

/-- The head advances until `stop` holds, at most `fuel` times. Answers the packets discarded. -/
def Playout.slipUntil (stop : Playout → Bool) : (fuel : Nat) → Playout → Playout × Nat
  | 0, p => (p, 0)
  | fuel + 1, p =>
    if stop p then (p, 0)
    else match p.head with
      | none => (p, 0)
      | some h =>
        let (q, n) := p.advance h
        let (r, m) := q.slipUntil stop fuel
        (r, n + m)

/-- The slipped counter takes `n` more packets (Table 39). -/
def Playout.countSlipped (p : Playout) (n : Nat) : Playout :=
  { p with counters := { p.counters with slipped := bumpBy p.counters.slipped n } }

/-- Slip forward after storing sequence `stored`: until the fill is no greater than the effective max
depth or the head is the packet just stored (R91). -/
def Playout.slipForward (p : Playout) (fpp top : Nat) (stored : Seq) : Playout × Nat :=
  p.slipUntil (fun q => decide (q.fill fpp ≤ top) || q.head == some stored) p.ring.length

/-- Start trim: until the fill is less than the target depth plus FPP (R95). -/
def Playout.trim (p : Playout) (fpp target : Nat) : Playout × Nat :=
  p.slipUntil (fun q => decide (q.fill fpp < target + fpp)) p.ring.length

/-- The detail of DEPTH_SLIP: the packets discarded and the new head (Table 73a). -/
def slipDetail (discarded : Nat) (head : Option Seq) : Nat :=
  discarded * 65536 + (head.getD 0).toNat

/-! ## Emptying -/

/-- The ring emptied, its size kept (R83). -/
def Playout.emptied (p : Playout) : Playout :=
  { p with
    ring := List.replicate p.ring.length none
    head := none
    period := .none
    played := 0
    earlyRun := 0
    startCount := 0
    estimateWait := none
    phase := .waitPacket
    adjust := none
    atStart := .none }

/-- A running depth adjustment ends without reaching its target: DEPTH_ADJUST with phase ABANDONED
(R105). -/
def State.postAbandoned (s : State) (b : BundleId) : State :=
  s.postIf (s.bun b).playout.adjust.isSome .depthAdjust (.bundle b) (adjustDetail 3 0 0)

/-- The ring of bundle `b` is emptied; a running depth adjustment is abandoned (R83, R105). -/
def State.emptyRing (s : State) (b : BundleId) : State :=
  (s.postAbandoned b).modPlayout b Playout.emptied

/-! ## Changes of bundle state -/

/-- BUNDLE_STATE is posted (R35, Table 73a); `refusal` is the status of a LOAD_REFUSED. -/
def State.postBundleState (s : State) (b : BundleId) (old new : BState) (cause : StateCause)
    (refusal : Nat := 0) : State :=
  s.post .bundleState (.bundle b)
    (refusal * 16777216 + changeDetail old.code new.code cause.code)

/-- The bundle state becomes `new`, with BUNDLE_STATE posted; a port steered from a bundle that leaves
PLAYING abandons its interval (R35, R162). -/
def State.changeState (s : State) (b : BundleId) (new : BState) (cause : StateCause) : State :=
  let old := (s.bun b).state
  let s := s.modBun b fun x => { x with state := new }
  let s := if old = .playing && new != .playing then s.abandonSteering b else s
  s.postBundleState b old new cause

/-- A bundle leaves PLAYING, or FILLING, for FILLING or DOWN: a standing proposal of a PLAYING bundle
is dropped and its target is computed in the new state (R39, R124 item 5). -/
def State.fallBack (s : State) (b : BundleId) (new : BState) (cause : StateCause) : State :=
  let old := (s.bun b).state
  let s := s.changeState b new cause
  if old = .playing then (s.dropProposal b).computeTarget b else s

end Sys2Proof.Machine
end

