-- ==== Sys2Proof/Machine/Paths.lean ====
section
/-!
DEFINITION. Paths: the path supervisor (chapter 7). Path records, the down condition, the selector
and its levels, the mismatch flag, PATH_COMMAND and the timers of this block.
-/

namespace Sys2Proof.Machine

/-! ## The down condition (R138) -/

/-- Path down is reported: a bundle in FILLING or PLAYING enters DOWN with its ring emptied (R39, R96,
R138). -/
def State.reportDown (s : State) (b : BundleId) : State :=
  let x := s.bun b
  if x.state = .filling || x.state = .playing then
    (s.emptyRing b).fallBack b .down .pathDown
  else s

/-! ## The selector (R140 to R147) -/

/-- Which timer's expiry an evaluation follows, if any (R140). -/
inductive Expired where
  | none | holdOff | restore
deriving DecidableEq, Repr

/-- The decision of one evaluation (Table 53): nothing to do, the hold-off runs, the wait to restore
runs, or a switch. -/
inductive Decision where
  | stay
  | holdOff
  | restore
  | switch (p : Path) (cause : SwitchCause)
deriving DecidableEq, Repr

/-- Stay on path `q`, or switch to it. -/
def stayOn (active q : Path) (cause : SwitchCause) : Decision :=
  if active = q then .stay else .switch q cause

/-- A FOLLOWER that hears 1 or 2 does not run its own wait to restore (R144). -/
def Supervisor.mayRestore (x : Supervisor) (r : Record) : Bool :=
  r.revertive && x.selector.active != r.primary && x.selector.request == .none
    && !x.signalFail r.primary
    && (r.authority == .main || (announcedPath x.selector.announcement).isNone)

/-- Level 6 (R145): the path a FOLLOWER follows, if it applies. -/
def Supervisor.follows (x : Supervisor) (r : Record) : Option Path :=
  match announcedPath x.selector.announcement with
  | none => none
  | some q =>
    if r.authority = .follower && q != x.selector.active && !x.signalFail q then some q else none

/-- Levels 5 and 6 of Table 53 (R144, R145). A running wait to restore keeps its expiry, though an IN_PLACE
activation has set the field to 0: the field is first used at the timer's next start (R33, Table 13, log
entry 43). -/
def Supervisor.decideLow (x : Supervisor) (r : Record) (e : Expired) : Decision :=
  if x.mayRestore r then
    if (r.waitRestore = 0 && x.selector.restore.isNone) || e = .restore then
      .switch r.primary .waitToRestore
    else .restore
  else match x.follows r with
    | some q => .switch q .follow
    | none => .stay

/-- Levels 3 to 6 of Table 53 (R142 to R145). A running hold-off keeps its expiry, though an IN_PLACE
activation has set the field to 0 (R33, Table 13, log entry 43). -/
def Supervisor.decideOpen (x : Supervisor) (r : Record) (e : Expired) : Decision :=
  let a := x.selector.active
  if x.signalFail a && !x.signalFail a.other then
    if (r.holdOff = 0 && x.selector.holdOff.isNone) || e = .holdOff then
      .switch a.other .signalFail
    else .holdOff
  else match x.selector.request with
    | .manual q => if x.signalFail q then x.decideLow r e else stayOn a q .manual
    | _ => x.decideLow r e

/-- The first level of Table 53 whose condition holds decides (R140, R141). -/
def Supervisor.decision (x : Supervisor) (r : Record) (e : Expired) : Decision :=
  match x.selector.request with
  | .lockout => stayOn x.selector.active r.primary .lockout
  | .forced q => stayOn x.selector.active q .forced
  | _ => x.decideOpen r e

/-- The selector of bundle `b` changed by `f`. -/
def State.modSelector (s : State) (b : BundleId) (f : Selector → Selector) : State :=
  s.modSupervisor b fun x => { x with selector := f x.selector }

/-- A MANUAL request whose path is no longer active is cleared (R147). -/
def LocalRequest.afterSwitch (q : LocalRequest) (active : Path) : LocalRequest :=
  match q with
  | .manual p => if p = active then q else .none
  | _ => q

/-- The detail of PATH_SWITCH (Table 73a). -/
def switchDetail (old new : Path) (cause : SwitchCause) : Nat :=
  changeDetail old.code new.code cause.code

/-- A path switch: timers stopped, the switch counted and posted, the alert timer restarted and a
target computed (R147). -/
def State.pathSwitch (s : State) (b : BundleId) (r : Record) (p : Path) (cause : SwitchCause) :
    State :=
  let old := (s.bun b).supervisor.selector.active
  let s := s.modSelector b fun x =>
    { x with active := p, holdOff := none, restore := none, switches := bump x.switches
             request := x.request.afterSwitch p }
  let s := s.post .pathSwitch (.bundle b) (switchDetail old p cause)
  (s.restartAlert b r).computeTarget b

/-- One examination of the levels and what it decides: a timer that its level does not call for
stops, one that it calls for starts unless it runs (R140, R142, R144). -/
def State.examine (s : State) (b : BundleId) (r : Record) (e : Expired) : State :=
  match (s.bun b).supervisor.decision r e with
  | .stay => s.modSelector b fun x => { x with holdOff := none, restore := none }
  | .holdOff =>
    s.modSelector b fun x =>
      { x with restore := none
               holdOff := some (x.holdOff.getD (s.now + r.holdOff * 100 * Config.msTicks)) }
  | .restore =>
    s.modSelector b fun x =>
      { x with holdOff := none
               restore := some (x.restore.getD (s.now + r.waitRestore * Config.secTicks)) }
  | .switch p cause => s.pathSwitch b r p cause

/-- The mismatch flag and the mismatch timer after an evaluation (R146). -/
def Selector.mismatchNext (x : Selector) (r : Record) (now : Nat) : Bool × Timer :=
  match r.authority with
  | .follower => (x.disagrees, none)
  | .main =>
    if x.disagrees then
      (x.mismatch,
        if x.mismatch then none
        else some (x.mismatchTimer.getD (now + r.lossTime * Config.msTicks)))
    else (false, none)

/-- The detail of PATH_MISMATCH (Table 73a). -/
def mismatchDetail (flag : Bool) (x : Selector) : Nat :=
  flag.toNat * 2147483648 + x.active.code * 256 + announcementCode x.announcement

/-- The mismatch flag becomes `flag`; a change posts PATH_MISMATCH and a setting is counted (R146). -/
def State.setMismatch (s : State) (b : BundleId) (flag : Bool) : State :=
  let x := (s.bun b).supervisor.selector
  if x.mismatch = flag then s
  else
    let s := s.modSelector b fun x =>
      { x with mismatch := flag, mismatches := if flag then bump x.mismatches else x.mismatches }
    s.post .pathMismatch (.bundle b) (mismatchDetail flag x)

/-- The mismatch flag is brought up to date (R146). -/
def State.updateMismatch (s : State) (b : BundleId) (r : Record) : State :=
  let (flag, timer) := (s.bun b).supervisor.selector.mismatchNext r s.now
  (s.modSelector b fun x => { x with mismatchTimer := timer }).setMismatch b flag

/-- An evaluation of the selector: the levels are examined, once more after a switch, and the mismatch
flag is brought up to date (R140). -/
def State.evaluateWith (s : State) (b : BundleId) (r : Record) (e : Expired) : State :=
  let before := (s.bun b).supervisor.selector.active
  let s := s.examine b r e
  let s := if (s.bun b).supervisor.selector.active = before then s else s.examine b r .none
  s.updateMismatch b r

/-- The selector of bundle `b` is evaluated if it is a running SELECTED bundle (R140). DESIGN CHOICE: any
other bundle keeps its active path, also where an IN_PLACE activation changes its primary path (R33, R150,
spec/07 7.3, log entry 44). -/
def State.evaluateSelector (s : State) (b : BundleId) (e : Expired) : State :=
  let x := s.bun b
  match x.active with
  | none => s
  | some r =>
    if r.pathMode = .selected && x.state.running then s.evaluateWith b r e else s

/-- The mismatch flag takes a change of the announcement of a running SELECTED bundle, before the
evaluation that follows it; a FOLLOWER that now differs is left to level 6 first (R145, R146). -/
def State.hearAnnouncement (s : State) (b : BundleId) : State :=
  let x := s.bun b
  match x.active with
  | none => s
  | some r =>
    if r.pathMode = .selected && x.state.running
        && !(x.supervisor.selector.disagrees && r.authority == .follower) then
      s.updateMismatch b r
    else s

/-! ## Changes of the path records -/

/-- The supervisor's record of bundle `b` becomes `new`: a down condition that this makes true is
reported once the start wait has expired, and the selector is evaluated where a record state, a
far-end flag or the announcement has changed (R137, R138, R140, R146). DESIGN CHOICE: the changes of SF and of
the announcement that one packet makes are all in place before the one evaluation they call for (log entry
53). -/
def State.supervise (s : State) (b : BundleId) (r : Record) (new : Supervisor) : State :=
  let old := (s.bun b).supervisor
  let s := s.modBun b fun x => { x with supervisor := new }
  let s :=
    if new.startWait.isNone && !old.downCondition r.pathMode && new.downCondition r.pathMode then
      s.reportDown b
    else s
  let changed := old.path.one.state != new.path.one.state || old.path.two.state != new.path.two.state
    || old.path.one.farFlag != new.path.one.farFlag || old.path.two.farFlag != new.path.two.farFlag
    || old.selector.announcement != new.selector.announcement
  let s := if old.selector.announcement != new.selector.announcement then s.hearAnnouncement b else s
  if changed then s.evaluateSelector b .none else s

/-- The detail of PATH_STATE (Table 73a). -/
def pathStateDetail (old new : PathState) : Nat := changeDetail old.code new.code 0

/-- The path record of an accepted packet's path (R134, R136). -/
def PathRecord.accept (x : PathRecord) (timer : Timer) (fault : Bool) : PathRecord :=
  { x with
    state := .up
    lossTimer := timer
    ups := if x.state = .up then x.ups else bump x.ups
    farFlag := fault
    onsets := if fault && !x.farFlag then bump x.onsets else x.onsets }

/-- The path supervisor takes an accepted packet on path `p`: a bundle in DOWN returns to FILLING, and
the path's record, far-end flag and the announcement are set (R134, R136, R139, R145). -/
def State.acceptOnPath (s : State) (b : BundleId) (r : Record) (p : Path) (fault : Bool)
    (playing : PlayingPath) : State :=
  let s := if (s.bun b).state = .down then s.changeState b .filling .pathRecovered else s
  let x := (s.bun b).supervisor
  let rec0 := x.path.atPath p
  let new : Supervisor :=
    { x with
      path := x.path.setPath p (rec0.accept (s.afterMs r.lossTime) fault)
      selector := { x.selector with announcement := some playing } }
  let s := s.postIf (rec0.state != .up) .pathState (.bundlePath b p) (pathStateDetail rec0.state .up)
  s.supervise b r new

/-- The path record whose loss timer has expired (R135). -/
def PathRecord.expire (x : PathRecord) : PathRecord :=
  { x with
    state := .lost
    lossTimer := none
    losses := if x.state = .lost then x.losses else bump x.losses
    farFlag := false }

/-- The supervisor after the loss timer of path `p` has expired: with neither path UP the announcement
is cleared (R135, R145). -/
def Supervisor.expirePath (x : Supervisor) (p : Path) : Supervisor :=
  let path := x.path.setPath p (x.path.atPath p).expire
  let none_up := path.one.state != .up && path.two.state != .up
  { x with
    path := path
    selector := { x.selector with
      announcement := if none_up then none else x.selector.announcement } }

/-- LOSS_TIMER_EXPIRY: the running loss timer of path `p` expires (R135). -/
def lossTimerExpiry (b : BundleId) (p : Path) (s : State) : State :=
  let x := s.bun b
  match x.active with
  | none => s
  | some r =>
    if s.due (x.supervisor.path.atPath p).lossTimer then
      let old := (x.supervisor.path.atPath p).state
      let s := s.postIf (old != .lost) .pathState (.bundlePath b p) (pathStateDetail old .lost)
      s.supervise b r (x.supervisor.expirePath p)
    else s

/-- START_WAIT_EXPIRY: the start wait expires, and a true down condition is reported (R138). -/
def startWaitExpiry (b : BundleId) (s : State) : State :=
  let x := s.bun b
  match x.active with
  | none => s
  | some r =>
    if s.due x.supervisor.startWait then
      let s := s.modSupervisor b fun x => { x with startWait := none }
      if x.supervisor.downCondition r.pathMode then s.reportDown b else s
    else s

/-- HOLD_OFF_EXPIRY: the hold-off timer stops and the selector is evaluated (R142). -/
def holdOffExpiry (b : BundleId) (s : State) : State :=
  if s.due (s.bun b).supervisor.selector.holdOff then
    (s.modSelector b fun x => { x with holdOff := none }).evaluateSelector b .holdOff
  else s

/-- WAIT_TO_RESTORE_EXPIRY: the wait-to-restore timer stops and the selector is evaluated (R144). -/
def waitToRestoreExpiry (b : BundleId) (s : State) : State :=
  if s.due (s.bun b).supervisor.selector.restore then
    (s.modSelector b fun x => { x with restore := none }).evaluateSelector b .restore
  else s

/-- MISMATCH_TIMER_EXPIRY: a running mismatch timer expires and the flag is set (R146). -/
def mismatchTimerExpiry (b : BundleId) (s : State) : State :=
  if s.due (s.bun b).supervisor.selector.mismatchTimer then
    (s.modSelector b fun x => { x with mismatchTimer := none }).setMismatch b true
  else s

/-! ## PATH_COMMAND (R148) -/

/-- The request kind code of PATH_COMMAND (R180). -/
def kindPathCommand : Nat := 17

/-- The precedence of a request: LOCKOUT, then FORCED, then MANUAL (R148 step 4). -/
def LocalRequest.precedence : LocalRequest → Nat
  | .none => 0
  | .manual _ => 1
  | .forced _ => 2
  | .lockout => 3

/-- A command is refused by the standing request or by the paths (R148 steps 4 and 5). -/
def Supervisor.refuses (x : Supervisor) : LocalRequest → Bool
  | .none => false
  | .manual q => 1 < x.selector.request.precedence || x.signalFail q
  | q => q.precedence < x.selector.request.precedence

/-- The command is taken: the request replaces the standing one and the selector is evaluated
(R148 step 6). -/
def State.commandPath (s : State) (b : BundleId) (q : LocalRequest) : State :=
  (s.modSelector b fun x => { x with request := q }).evaluateSelector b .none

/-- PATH_COMMAND (R148). -/
def pathCommand (cp : CtrlPort) (b req q : Nat) (s : State) : State :=
  if s.loading then s.refuse cp kindPathCommand .loading
  else match bundleOf b, localRequestOf req q with
    | some b, some request =>
      let x := s.bun b
      if !(x.state.running && (x.active.map fun r => r.pathMode) == some .selected) then
        s.refuse cp kindPathCommand .badState
      else if x.supervisor.refuses request then s.refuse cp kindPathCommand .badState
      else
        let s := s.commandPath b request
        s.decide cp kindPathCommand .ok (bytesOf 1 (s.bun b).supervisor.selector.active.code)
    | _, _ => s.refuse cp kindPathCommand .badValue

/-! ## Bundle events (R150) -/

/-- Path records and selector reset, counters zeroed, on the primary path of the record (R149,
R150). -/
def Supervisor.restart (r : Record) : Supervisor := .zero r.primary

/-- The same with the loss timers of both paths and the start wait running (R150). -/
def Supervisor.started (r : Record) (timer : Timer) : Supervisor :=
  { Supervisor.zero r.primary with
    path := both { PathRecord.zero with lossTimer := timer }
    startWait := timer }

/-- A path record whose loss timer is stopped. -/
def PathRecord.stopped (x : PathRecord) : PathRecord := { x with lossTimer := none }

/-- Every timer of the path supervisor stopped (R37, R150). -/
def Supervisor.stopTimers (x : Supervisor) : Supervisor :=
  { x with
    path := x.path.map PathRecord.stopped
    startWait := none
    selector := { x.selector with holdOff := none, restore := none, mismatchTimer := none } }

/-- A bundle stops: its path timers stop and its mismatch flag clears, posting PATH_MISMATCH where it
was set (R150). -/
def State.stopPaths (s : State) (b : BundleId) : State :=
  (s.modSupervisor b Supervisor.stopTimers).setMismatch b false

end Sys2Proof.Machine
end

