-- ==== Sys2Proof/Machine/Packet.lean ====
section
/-!
DEFINITION. Packet: the bundle header as it is sent and read (Table 70, R57, R67, R179), and the
payload words of a stored packet with their parity (R106).
-/

namespace Sys2Proof.Machine

/-! ## The bundle header -/

/-- The fields of a bundle header (Table 70). -/
structure Header where
  playing : PlayingPath
  path : Path
  label : Nat
  seq : Seq
  originFault : Bool
  echoValid : Bool
  rxFault : Bool
  length : Nat
  origin : Time
  echoOrigin : Time
  echoDwell : Time
deriving DecidableEq, Repr

/-- The bytes of a bundle header, its unused bits sent 0 (Table 70, R179). -/
def Header.bytes (h : Header) : List Byte :=
  bytesOf 1 (16 + h.playing.code)
    ++ bytesOf 2 (h.path.code * 16384 + h.label)
    ++ bytesOf 2 h.seq.toNat
    ++ bytesOf 2 (h.originFault.toNat * 32768 + h.echoValid.toNat * 16384
        + h.rxFault.toNat * 8192 + h.length)
    ++ bytesOf 4 h.origin.toNat
    ++ bytesOf 4 h.echoOrigin.toNat
    ++ bytesOf 4 h.echoDwell.toNat
    ++ [0]

/-- The header that 20 bytes hold; none where check 5 fails: a Version other than 1, a Path other than
1 and 2, a Payload length of 0 or above 512, or a Playing Path code above 3. Unused bits are not read
(R67, R179). -/
def Header.ofBytes (bs : List Byte) : Option Header := do
  let flags := fieldAt bs 5 2
  let length := flags % 1024
  let playing ← PlayingPath.ofCode (fieldAt bs 0 1 % 16)
  let path ← pathOf (fieldAt bs 1 2 / 16384)
  if bs.length = 20 ∧ fieldAt bs 0 1 / 16 = 1 ∧ 1 ≤ length ∧ length ≤ 512 then
    return {
      playing, path, length
      label := fieldAt bs 1 2 % 16384
      seq := BitVec.ofNat 16 (fieldAt bs 3 2)
      originFault := flags.testBit 15
      echoValid := flags.testBit 14
      rxFault := flags.testBit 13
      origin := BitVec.ofNat 32 (fieldAt bs 7 4)
      echoOrigin := BitVec.ofNat 32 (fieldAt bs 11 4)
      echoDwell := BitVec.ofNat 32 (fieldAt bs 15 4) }
  else none

/-- A classified packet (Table 26): its header as decoded and as received, its arrival and its
payload. -/
structure Packet where
  port : NetPort
  arrival : Time
  source : Address
  tag : Option (BitVec 16)
  raw : List Byte
  header : Header
  payload : List Byte
deriving DecidableEq, Repr

/-! ## Payload words (R106) -/

/-- The parity of a run of bytes: true when it holds an odd number of ones. -/
def parityOf (bs : List Byte) : Bool :=
  (List.range 8).foldl (fun acc i => acc ^^ (checkOf bs).getLsbD i) false

/-- Payload word `w`: four bytes, the last word of a payload completed with bytes that are not played,
taken as zeros (log entry 21). -/
def payloadWord (payload : List Byte) (w : Nat) : List Byte := (payload.drop (4 * w)).take 4

/-- The parity written for each payload word when a packet is stored. -/
def parities (payload : List Byte) : List Bool :=
  (List.range ((payload.length + 3) / 4)).map fun w => parityOf (payloadWord payload w)

/-- Payload word `w` of a stored packet passes its check. -/
def RingSlot.wordSound (x : RingSlot) (w : Nat) : Bool :=
  x.parity.getD w false == parityOf (payloadWord x.payload w)

/-- Every word that holds a byte of frame `i` (from 0) of a packet of `n` slots passes its check. -/
def RingSlot.frameSound (x : RingSlot) (n i : Nat) : Bool :=
  (List.range x.parity.length).all fun w =>
    (w < i * n / 4 || (i * n + n - 1) / 4 < w) || x.wordSound w

/-- The bytes of frame `i` (from 0) of a payload of `n` slots: positions i × n + 1 to (i + 1) × n
(R44, R98). -/
def frameBytes (payload : List Byte) (n i : Nat) : List Byte := (payload.drop (i * n)).take n

/-- A corruption of one stored payload byte: its parity stays as it was written (R106). -/
def RingSlot.upset (x : RingSlot) (pos : Nat) (mask : Byte) : RingSlot :=
  { x with payload := x.payload.set pos (byteAt x.payload pos ^^^ mask) }

end Sys2Proof.Machine
end

