-- ==== Sys2Proof/Machine/Playout.lean ====
section
/-!
DEFINITION. Playout: the playout store (chapter 5). Placing an accepted packet, filling and the start
of playout, playing a frame, substitution, underrun, and the depth adjustment's steps.
-/

namespace Sys2Proof.Machine

/-! ## Counters -/

/-- The playout counters of bundle `b` changed by `f`. -/
def State.modPlay (s : State) (b : BundleId) (f : PlayCounters → PlayCounters) : State :=
  s.modPlayout b fun p => { p with counters := f p.counters }

/-! ## Placing a packet (R84 to R88) -/

/-- What becomes of a packet that reaches the ring (Table 37). -/
inductive Placement where
  | late | mergeCopy | duplicate | early | stored
deriving DecidableEq, Repr

/-- The placement of sequence `q` from path `path` by its distance from the head (R85, Table 37). -/
def Playout.placement (p : Playout) (path : Path) (q : Seq) : Placement :=
  match p.head with
  | none => .stored
  | some h =>
    let d := (q - h).toInt
    if d < 0 ∨ (d = 0 ∧ 1 ≤ p.played) then .late
    else if (p.ring.length : Int) ≤ d then .early
    else match p.slotFor q with
      | none => .stored
      | some x => if x.path = path then .duplicate else .mergeCopy

/-- An accepted packet as a ring slot holds it (R85, R106). -/
def Packet.slot (k : Packet) : RingSlot where
  seq := k.header.seq
  path := k.header.path
  originFault := k.header.originFault
  payload := k.payload
  parity := parities k.payload
  arrival := k.arrival

/-- A packet stored: its slot filled, the head set where it was undefined, the early run cleared
(R85). -/
def Playout.put (p : Playout) (k : Packet) : Playout :=
  { (p.setSlot k.header.seq (some k.slot)) with
    head := some (p.head.getD k.header.seq)
    earlyRun := 0
    counters := { p.counters with stored := bump p.counters.stored } }

/-- The end of WAIT_PACKET: E is 0, and the phase is COUNTDOWN for a FIXED bundle or where an estimate
is held, WAIT_ESTIMATE otherwise, with its 1 s timer (R92, R93). -/
def State.endPacketWait (s : State) (b : BundleId) (r : Record) : State :=
  let x := s.bun b
  let held := (x.delay.estimate r.pathMode x.supervisor.selector.active).isSome
  if r.delayMode = .fixed || held then
    s.modPlayout b fun p => { p with startCount := 0, phase := .countdown }
  else
    s.modPlayout b fun p =>
      { p with startCount := 0, phase := .waitEstimate, estimateWait := s.afterSec 1 }

/-- The overflow test after storing sequence `q`, and the slip forward it calls for (R91). -/
def State.overflowTest (s : State) (b : BundleId) (r : Record) (q : Seq) : State :=
  let x := s.bun b
  let top := effectiveMax r x.ringSize
  if x.playout.fill r.fpp ≤ top then s
  else
    let (p, n) := x.playout.slipForward r.fpp top q
    (s.modPlayout b fun _ => p.countSlipped n).post .depthSlip (.bundle b) (slipDetail n p.head)

/-- A packet is stored in the ring of bundle `b` (R85, R91, R92). -/
def State.store (s : State) (b : BundleId) (r : Record) (k : Packet) : State :=
  let s := s.modPlayout b fun p => p.put k
  let x := s.bun b
  let s :=
    if (x.state = .filling || x.state = .down) && x.playout.phase = .waitPacket then
      s.endPacketWait b r
    else s
  s.overflowTest b r k.header.seq

/-- The bundle resynchronises at EARLY sequence `q` (R88). -/
def State.resync (s : State) (b : BundleId) (q : Seq) : State :=
  let head := ((s.bun b).playout.head.getD 0).toNat
  let s := s.emptyRing b
  let s := s.modPlay b fun c => { c with resyncs := bump c.resyncs }
  let s := s.post .playoutResync (.bundle b) (head * 65536 + q.toNat)
  if (s.bun b).state = .playing then s.fallBack b .filling .resync else s

/-- An EARLY packet; the eighth in a row resynchronises the bundle (R88). -/
def State.early (s : State) (b : BundleId) (q : Seq) : State :=
  let s := s.modPlay b fun c => { c with early := bump c.early }
  let run := (s.bun b).playout.earlyRun + 1
  if 8 ≤ run then s.resync b q else s.modPlayout b fun p => { p with earlyRun := run }

/-- An accepted packet of bundle `b` reaches the playout store (R84 to R88). -/
def State.place (s : State) (b : BundleId) (r : Record) (k : Packet) : State :=
  let x := s.bun b
  if r.pathMode = .selected && k.header.path != x.supervisor.selector.active then
    s.modPlay b fun c => { c with standby := bump c.standby }
  else match x.playout.placement k.header.path k.header.seq with
    | .late => s.modPlay b fun c => { c with late := bump c.late }
    | .mergeCopy => s.modPlay b fun c => { c with mergeCopy := bump c.mergeCopy }
    | .duplicate => s.modPlay b fun c => { c with duplicate := bump c.duplicate }
    | .early => s.early b k.header.seq
    | .stored => s.store b r k

/-! ## Substitution (R100) -/

/-- The fill byte in every slot position of a record. -/
def fillBytes (r : Record) : List Byte := List.replicate r.slots.count r.fillByte

/-- One frame of substitution (R100). -/
def Playout.substitution (p : Playout) (r : Record) : List Byte :=
  match r.substitution with
  | .fill => fillBytes r
  | .repeatLast =>
    (List.range r.slots.count).map fun i => (p.lastByte.getD i none).getD r.fillByte

/-! ## Packet periods (R97 to R102) -/

/-- Taking the head: the kind of period that begins, or none where the ring holds nothing (R97
step 1). -/
def Playout.nextPeriod (p : Playout) : Option Period :=
  if p.isEmpty then none
  else match p.head.bind p.slotFor with
    | some _ => some .packet
    | none => some .missing

/-- A period begins at the head; its kind is counted (R99, R102). -/
def Playout.beginPeriod (p : Playout) (kind : Period) : Playout :=
  let faulty := ((p.head.bind p.slotFor).map RingSlot.originFault).getD false
  let c := p.counters
  let c :=
    match kind with
    | .packet => if faulty then { c with originFaultPlayed := bump c.originFaultPlayed } else c
    | .missing => { c with missing := bump c.missing }
    | .none => c
  { p with period := kind, counters := c }

/-- The played counters take one PACKET period of a packet that came on `path` (R98). -/
def PlayCounters.countPlayed (c : PlayCounters) (path : Path) : PlayCounters :=
  let c := { c with played := bump c.played }
  match path with
  | .p1 => { c with playedPath1 := bump c.playedPath1 }
  | .p2 => { c with playedPath2 := bump c.playedPath2 }

/-- The period of the head ends: its slot is emptied, the head advances (R97 step 3, R98). -/
def Playout.endPeriod (p : Playout) : Playout :=
  match p.head with
  | none => p
  | some h =>
    let c :=
      match p.period, p.slotFor h with
      | .packet, some x => p.counters.countPlayed x.path
      | _, _ => p.counters
    let q := if (p.slotFor h).isSome then p.setSlot h none else p
    { q with head := some (h + 1), played := 0, period := .none, counters := c }

/-- One frame of the period has been played or skipped; the period ends after FPP frames (R97 steps 2
and 3). -/
def Playout.passFrame (p : Playout) (fpp : Nat) : Playout :=
  let q := { p with played := p.played + 1 }
  if fpp ≤ q.played then q.endPeriod else q

/-- The residence extremes widened to include `ticks` (R98). -/
def widen (x : Option (Nat × Nat)) (ticks : Nat) : Option (Nat × Nat) :=
  match x with
  | none => some (ticks, ticks)
  | some (lo, hi) => some (min lo ticks, max hi ticks)

/-- The bytes given at this frame start become `bs` (R97). -/
def State.give (s : State) (b : BundleId) (bs : List Byte) : State :=
  s.modPlayout b fun p => { p with out := bs }

/-- A frame of substitution is given (R100). -/
def State.substitute (s : State) (b : BundleId) (r : Record) : State :=
  s.give b ((s.bun b).playout.substitution r)

/-- A frame read from the payload is given, and the last-byte register takes it (R98). -/
def State.givePayload (s : State) (b : BundleId) (bs : List Byte) : State :=
  s.modPlayout b fun p => { p with out := bs, lastByte := bs.map some }

/-- A parity frame: substitution, a STORE_PARITY fault and its counter (R106). -/
def State.giveParityFrame (s : State) (b : BundleId) (r : Record) (seq : Seq) : State :=
  let s := s.substitute b r
  let s := s.recordFault .storeParity (some b) seq.toNat
  s.modPlay b fun c => { c with parityFrames := bump c.parityFrames }

/-- The frame of the period in progress is given (R98, R99, R106). -/
def State.giveFrame (s : State) (b : BundleId) (r : Record) : State :=
  let p := (s.bun b).playout
  match p.period, p.head.bind p.slotFor with
  | .packet, some x =>
    let s :=
      if p.played = 0 then
        s.modPlayout b fun p =>
          { p with residence := widen p.residence (s.timeCount - x.arrival).toNat }
      else s
    if x.frameSound r.slots.count p.played then
      s.givePayload b (frameBytes x.payload r.slots.count p.played)
    else s.giveParityFrame b r x.seq
  | _, _ => s.substitute b r

/-- An underrun: the head is kept, a running adjustment is abandoned, the bundle falls back to FILLING
in WAIT_PACKET (R101). -/
def State.underrun (s : State) (b : BundleId) (r : Record) : State :=
  let head := ((s.bun b).playout.head.getD 0).toNat
  let s := s.modPlay b fun c => { c with underruns := bump c.underruns }
  let s := s.post .playoutUnderrun (.bundle b) head
  let s := s.postAbandoned b
  let s := s.modPlayout b fun p => { p with adjust := none, phase := .waitPacket, startCount := 0 }
  let s := s.fallBack b .filling .underrun
  s.give b (fillBytes r)

/-- A PLAYING bundle gives one frame by R97. -/
def State.playFrame (s : State) (b : BundleId) (r : Record) : State :=
  let p := (s.bun b).playout
  if p.period = .none then
    match p.nextPeriod with
    | none => s.underrun b r
    | some kind =>
      let s := s.modPlayout b fun p => p.beginPeriod kind
      (s.giveFrame b r).modPlayout b fun p => p.passFrame r.fpp
  else (s.giveFrame b r).modPlayout b fun p => p.passFrame r.fpp

/-! ## Depth adjustment (R104, R105) -/

/-- A step of the depth adjustment is due at this frame start (R104). -/
def Playout.stepDue (p : Playout) (r : Record) : Bool :=
  match p.adjust with
  | none => false
  | some a => 2 ^ r.pace ≤ a.pace + 1

/-- The tolerance of R104. -/
def tolerance (r : Record) : Nat := r.fpp / 2 + 1

/-- What a step has done is noted for the frame start in hand (log entry 4). -/
def State.setAtStart (s : State) (b : BundleId) (x : AtStart) : State :=
  s.modPlayout b fun p => { p with atStart := x }

/-- The adjustment's pace count and last step become these. -/
def State.setPace (s : State) (b : BundleId) (pace : Nat) (step : Option Direction) : State :=
  s.modPlayout b fun p =>
    { p with adjust := p.adjust.map fun a =>
        { a with pace := pace, lastStep := step.orElse fun _ => a.lastStep } }

/-- A skip step drops one frame of the ring; no residence is measured for it (R104, log entry 33). -/
def State.skipStep (s : State) (b : BundleId) (r : Record) : State :=
  let p := (s.bun b).playout
  let begun : Option State :=
    if p.period = .none then
      p.nextPeriod.map fun kind => s.modPlayout b fun p => p.beginPeriod kind
    else some s
  match begun with
  | none => (s.underrun b r).setAtStart b .underran
  | some s =>
    let s := s.modPlayout b fun p => p.passFrame r.fpp
    let s := s.modPlay b fun c => { c with skipped := bump c.skipped }
    (s.setPace b 0 (some .skip)).setAtStart b .skipped

/-- A step that is due: the adjustment ends, a frame is inserted or a frame is skipped, by the fill
sampled at this start (R104, R105). -/
def State.adjustStep (s : State) (b : BundleId) (r : Record) (a : Adjust) : State :=
  let fill := (s.bun b).playout.sample
  if depthDistance fill a.target < tolerance r then
    let s := s.post .depthAdjust (.bundle b) (adjustDetail 2 fill a.target)
    s.modPlayout b fun p => { p with adjust := none, atStart := .ended }
  else if fill < a.target then
    let s := s.modPlay b fun c => { c with inserted := bump c.inserted }
    (s.setPace b 0 (some .insert)).setAtStart b .inserted
  else s.skipStep b r

/-- A running adjustment acts at a frame start: a step where one is due, its pace count otherwise
(R104). -/
def State.adjustTick (s : State) (b : BundleId) (r : Record) : State :=
  let p := (s.bun b).playout
  match p.adjust with
  | none => s
  | some a => if p.stepDue r then s.adjustStep b r a else s.setPace b (a.pace + 1) none

/-! ## Filling (R92 to R96) -/

/-- The start value C (R94). -/
def startValue (target fpp : Nat) : Nat := target - fpp

/-- Playout is to start at this frame start (R94, R96). -/
def Bundle.startDue (x : Bundle) (r : Record) : Bool :=
  x.state == .filling && x.playout.phase == .countdown
    && startValue x.delay.target r.fpp ≤ x.playout.startCount

/-- The start trim (R95). -/
def State.startTrim (s : State) (b : BundleId) (r : Record) : State :=
  let x := s.bun b
  if x.delay.target + r.fpp ≤ x.playout.sample then
    let (p, n) := x.playout.trim r.fpp x.delay.target
    (s.modPlayout b fun _ => p.countSlipped n).post .depthSlip (.bundle b) (slipDetail n p.head)
  else s

/-- Playout starts: the start trim, and FILLING to PLAYING (R94, R95); the phase and the start count
go back to their first values (log entry 40). -/
def State.startPlayout (s : State) (b : BundleId) (r : Record) : State :=
  let s := s.startTrim b r
  let s := s.modPlayout b fun p => { p with phase := .waitPacket, startCount := 0 }
  (s.changeState b .playing .playoutStart).setAtStart b .started

/-- The start count counts one frame start; it stops at 65535 (R94). -/
def State.countStart (s : State) (b : BundleId) : State :=
  s.modPlayout b fun p => { p with startCount := min (p.startCount + 1) 65535 }

/-- A FILLING or DOWN bundle at a frame start that does not start its playout: the fill byte is given
and the start count runs (R92, R94, R96, log entry 37). -/
def State.fillFrame (s : State) (b : BundleId) (r : Record) : State :=
  let s := s.give b (fillBytes r)
  if (s.bun b).playout.phase = .waitPacket then s else s.countStart b

/-! ## One frame start of one bundle -/

/-- The fill sampled at this frame start (R90). -/
def State.sampleFill (s : State) (b : BundleId) (r : Record) : State :=
  s.modPlayout b fun p => { p with sample := p.fill r.fpp }

/-- The playout start or the adjustment's step of this frame start, where no command has made it
already (R94, R104, log entry 4). -/
def State.beginStart (s : State) (b : BundleId) (r : Record) : State :=
  let x := s.bun b
  if x.playout.atStart != .none then s
  else if x.startDue r then s.startPlayout b r
  else if x.state = .playing then s.adjustTick b r
  else s

/-- The frame given once the start or the step is settled (R97, R104). -/
def State.finishStart (s : State) (b : BundleId) (r : Record) : State :=
  let x := s.bun b
  match x.playout.atStart, x.state with
  | .inserted, .playing => s.substitute b r
  | .underran, _ => s.give b (fillBytes r)
  | _, .playing => s.playFrame b r
  | _, _ => s.fillFrame b r

/-- A running bundle gives its frame of bytes at a transmit frame start of its port (R92 to R104). -/
def State.playBundle (s : State) (b : BundleId) : State :=
  let x := s.bun b
  match x.active with
  | none => s
  | some r =>
    if x.state.running then ((s.beginStart b r).finishStart b r).setAtStart b .none else s

/-! ## Commands -/

/-- PLAYOUT_START: a bundle whose start count has reached its start value enters PLAYING for the frame
start in hand (R94, R95). -/
def playoutStart (b : BundleId) (s : State) : State :=
  let x := s.bun b
  match x.active with
  | none => s
  | some r =>
    if x.playout.atStart = .none && x.startDue r then (s.sampleFill b r).startPlayout b r else s

/-- ADJUST_STEP: a step that is due is made for the frame start in hand (R104). -/
def adjustStep (b : BundleId) (s : State) : State :=
  let x := s.bun b
  match x.active, x.playout.adjust with
  | some r, some a =>
    if x.state = .playing && x.playout.atStart = .none && x.playout.stepDue r then
      (s.sampleFill b r).adjustStep b r a
    else s
  | _, _ => s

/-- ESTIMATE_WAIT_EXPIRY: the running estimate wait expires and the store passes to COUNTDOWN (R93). -/
def estimateWaitExpiry (b : BundleId) (s : State) : State :=
  let p := (s.bun b).playout
  if s.due p.estimateWait && p.phase = .waitEstimate then
    s.modPlayout b fun p => { p with phase := .countdown, estimateWait := none }
  else s

/-! ## Bundle events -/

/-- The playout state of a bundle given an empty ring of `size` slots, its counters zeroed where
`zero` says so (R82, R107, log entry 36). -/
def Playout.allocate (p : Playout) (size : Nat) (zero : Bool) : Playout :=
  if zero then .fresh size
  else { Playout.fresh size with counters := p.counters, residence := p.residence }

end Sys2Proof.Machine
end

