-- ==== Sys2Proof/Machine/Transmit.lean ====
section
/-!
DEFINITION. Transmit: the packet assembler, the transmit queues and the arbiter (chapter 3).
-/

namespace Sys2Proof.Machine

/-! ## The two network ports and the three classes -/

/-- Both network ports. -/
def allNets : List NetPort := [.east, .west]

/-- The sub-queue of a class (R50). -/
def Net.queue (x : Net) : PacketClass → List QueueEntry
  | .protection => x.protection
  | .priority => x.priority
  | .routine => x.routine

/-- The sub-queue of a class replaced. -/
def Net.setQueue (x : Net) (c : PacketClass) (q : List QueueEntry) : Net :=
  match c with
  | .protection => { x with protection := q }
  | .priority => { x with priority := q }
  | .routine => { x with routine := q }

/-- The entries of a transmit queue, over its three sub-queues (R50). -/
def Net.queued (x : Net) : Nat := x.protection.length + x.priority.length + x.routine.length

/-- The transmit counters of a network port changed by `f`. -/
def State.modTx (s : State) (n : NetPort) (f : TxCounters → TxCounters) : State :=
  s.modNet n fun x => { x with tx := f x.tx }

/-! ## Held packets (R48) -/

/-- A held packet has a copy still queued at port `n`. -/
def HeldTx.queuedAt (x : HeldTx) : NetPort → Bool
  | .east => x.east
  | .west => x.west

/-- A held packet with or without a copy queued at port `n`. -/
def HeldTx.setQueued (x : HeldTx) (n : NetPort) (v : Bool) : HeldTx :=
  match n with
  | .east => { x with east := v }
  | .west => { x with west := v }

/-- A held packet loses its copy at port `n`; none when no copy is left (R48). -/
def HeldTx.lose (x : HeldTx) (n : NetPort) : Option HeldTx :=
  let y := x.setQueued n false
  if y.east || y.west then some y else none

/-- Bundle `b`'s held packet of sequence `q` loses its copy at port `n` (R48, R52, R55). -/
def State.loseCopy (s : State) (b : BundleId) (q : Seq) (n : NetPort) : State :=
  s.modAssembly b fun a =>
    { a with held := a.held.filterMap fun x => if x.seq = q then x.lose n else some x }

/-- Every held packet loses its copy at port `n` (R54). -/
def Assembly.losePort (a : Assembly) (n : NetPort) : Assembly :=
  { a with held := a.held.filterMap fun x => if x.queuedAt n then x.lose n else some x }

/-! ## Composing a frame (R55 to R59, R179) -/

/-- The station address of a network port (R65). -/
def Settings.station (x : Settings) : NetPort → Address
  | .east => x.east
  | .west => x.west

/-- The transmission start time of a frame whose transmission starts now, which is also its origin time:
the time count at the first byte after the preamble and start delimiter (R58). PRESUMED: those are eight
bytes, as in IEEE 802.3 (log entry 23). -/
def State.startTime (s : State) : Time := s.timeCount + BitVec.ofNat 32 Config.preambleTicks

/-- The echo dwell of a transmission start at `now`; none where the echo state is not valid or its
dwell exceeds 1 s (R58). -/
def Echo.dwell (e : Echo) (now : Time) : Option Time :=
  if e.valid && (now - e.arrival).toNat ≤ Config.maxDwell then some (now - e.arrival) else none

/-- A valid echo state whose dwell exceeds 1 s at a transmission start (R58, R112). -/
def Echo.expires (e : Echo) (now : Time) : Bool := e.valid && (e.dwell now).isNone

/-- The header of a copy whose transmission starts now (R57 to R59). -/
def State.headerFor (s : State) (x : Bundle) (r : Record) (e : QueueEntry) (h : HeldTx) : Header :=
  let echo := x.delay.echo.atPath e.path
  let dwell := echo.dwell s.startTime
  { playing := playingPath x.state r.pathMode x.supervisor.selector.active
    path := e.path
    label := r.txLabel
    seq := h.seq
    originFault := h.originFault
    echoValid := dwell.isSome
    rxFault := (x.supervisor.path.atPath e.path).state != .up
    length := h.payload.length
    origin := s.startTime
    echoOrigin := if dwell.isSome then echo.origin else 0
    echoDwell := dwell.getD 0 }

/-- The tag bytes of a frame, none where the record has no tag (R56). -/
def tagBytes : Option Tag → List Byte
  | none => []
  | some t => bytesOf 2 0x8100 ++ bytesOf 2 t.word

/-- Zero bytes that bring a frame to 60 bytes before its frame check sequence (R56). -/
def padded (bs : List Byte) : List Byte := bs ++ List.replicate (60 - bs.length) 0

/-- A frame with its frame check sequence (R56). -/
def sealFrame (bs : List Byte) : List Byte := padded bs ++ fcsOf (padded bs)

/-- The frame of a copy, from destination address to frame check sequence (R56, spec/10 10.1). -/
def State.frameFor (s : State) (n : NetPort) (r : Record) (header : Header) (h : HeldTx) :
    List Byte :=
  sealFrame (addressBytes r.farStation ++ addressBytes (s.settings.station n) ++ tagBytes r.tag
    ++ bytesOf 2 s.settings.bundleType ++ header.bytes ++ h.payload)

/-- An echo state found expired at a transmission start becomes not valid and is counted (R58,
R112). -/
def State.expireEcho (s : State) (b : BundleId) (p : Path) : State :=
  let e := (s.bun b).delay.echo.atPath p
  if e.expires s.startTime then
    s.modDelay b fun d =>
      let x := d.record.atPath p
      { d with echo := d.echo.setPath p { e with valid := false }
               record := d.record.setPath p { x with echoExpiries := bump x.echoExpiries } }
  else s

/-- The transmission of entry `e` starts at port `n`: its frame is composed whole, the held packet
loses the copy, the transmitter is SENDING; an entry without them sends nothing (R55, log entry 38). -/
def State.transmit (s : State) (n : NetPort) (e : QueueEntry) : State :=
  let x := s.bun e.bundle
  match x.active, x.assembly.held.find? fun h => h.seq == e.seq with
  | some r, some h =>
    let frame := s.frameFor n r (s.headerFor x r e h) h
    let s := s.modNet n fun y => { y with transmitter := .sending frame }
    (s.expireEcho e.bundle e.path).loseCopy e.bundle e.seq n
  | _, _ => s

/-! ## The arbiter (R55) -/

/-- The class whose head the arbiter takes, if any entry is queued (R55). -/
def Net.nextClass (x : Net) : Option PacketClass :=
  if !x.protection.isEmpty then some .protection
  else if !x.priority.isEmpty then some .priority
  else if !x.routine.isEmpty then some .routine
  else none

/-- The arbiter of port `n` takes the head of the highest class, with its transmitter IDLE and its link
UP (R55). -/
def State.arbitrate (s : State) (n : NetPort) : State :=
  let x := s.net n
  if x.transmitter = .idle && x.up then
    match x.nextClass with
    | none => s
    | some c =>
      match x.queue c with
      | [] => s
      | e :: rest => (s.modNet n fun y => y.setQueue c rest).transmit n e
  else s

/-! ## Offers (R51, R52) -/

/-- The entry that makes room for a copy of class `c` in a full queue, and the queue without it
(Table 18). -/
def Net.evict (x : Net) (c : PacketClass) : Option (QueueEntry × Net) :=
  match c, x.routine.getLast?, x.priority.getLast? with
  | .routine, _, _ => none
  | _, some e, _ => some (e, { x with routine := x.routine.dropLast })
  | .protection, none, some e => some (e, { x with priority := x.priority.dropLast })
  | _, none, _ => none

/-- A copy joins the tail of its class sub-queue (R51). -/
def State.join (s : State) (n : NetPort) (c : PacketClass) (e : QueueEntry) : State :=
  let s := s.modNet n fun x => x.setQueue c (x.queue c ++ [e])
  let s := s.modTx n fun t => { t with joined := bump t.joined }
  s.modAssembly e.bundle fun a => { a with queued := bump a.queued }

/-- A copy is offered to the queue of port `n`; answers whether it joined (R51, R52). -/
def State.offerCopy (s : State) (n : NetPort) (c : PacketClass) (e : QueueEntry) : State × Bool :=
  let x := s.net n
  if x.queued < Config.queueEntries then (s.join n c e, true)
  else match x.evict c with
    | some (old, y) =>
      let s := (s.modNet n fun _ => y).modTx n fun t => { t with evicted := bump t.evicted }
      ((s.loseCopy old.bundle old.seq n).join n c e, true)
    | none => (s.modTx n fun t => { t with dropped := bump t.dropped }, false)

/-! ## Completion (R46 to R48) -/

/-- The transmitting paths of a path mode (R47). -/
def transmittingPaths : PathMode → List Path
  | .single => [.p1]
  | .merged | .selected => [.p1, .p2]

/-- The entries of port `n` without those of bundle `b` that `drop` names. -/
def Net.without (x : Net) (drop : QueueEntry → Bool) : Net :=
  { x with
    protection := x.protection.filter fun e => !drop e
    priority := x.priority.filter fun e => !drop e
    routine := x.routine.filter fun e => !drop e }

/-- The oldest held packet of a bundle that holds four is superseded (R48). -/
def State.supersede (s : State) (b : BundleId) : State :=
  match (s.bun b).assembly.held with
  | h :: rest =>
    if 3 ≤ rest.length then
      let gone := h.east.toNat + h.west.toNat
      let s := { s with nets := s.nets.map (Net.without (drop := fun e =>
        e.bundle == b && e.seq == h.seq)) }
      s.modAssembly b fun a => { a with held := rest, superseded := bumpBy a.superseded gone }
    else s
  | [] => s

/-- A copy of a completed packet is offered for each path; answers the packet with the copies that
joined. -/
def State.offerPaths (s : State) (b : BundleId) (r : Record) (h : HeldTx) :
    (paths : List Path) → State × HeldTx
  | [] => (s, h)
  | p :: rest =>
    let n := r.portMap.portOf p
    let (s, joined) := s.offerCopy n r.pclass ⟨b, h.seq, p⟩
    s.offerPaths b r (h.setQueued n joined) rest

/-- A completed packet is offered on its transmitting paths whose links are UP, and held where a copy
joined (R47, R48). -/
def State.offerPacket (s : State) (b : BundleId) (r : Record) (h : HeldTx) : State :=
  let paths := transmittingPaths r.pathMode
  let open_ := paths.filter fun p => (s.net (r.portMap.portOf p)).up
  let s := s.modAssembly b fun a =>
    { a with notOffered := bumpBy a.notOffered (paths.length - open_.length) }
  let s := if open_.isEmpty then s else s.supersede b
  let (s, h) := s.offerPaths b r h open_
  if h.east || h.west then s.modAssembly b fun a => { a with held := a.held ++ [h] } else s

/-- A packet is complete: it takes the transmit sequence, the buffer empties, its copies are offered
and the arbiters look at their queues (R46, R51, R55). -/
def State.complete (s : State) (b : BundleId) (r : Record) : State :=
  let a := (s.bun b).assembly
  let h : HeldTx := ⟨a.seq, a.buffer, a.faultMark, false, false⟩
  let s := s.modAssembly b fun a =>
    { a with
      buffer := []
      frames := 0
      faultMark := false
      seq := a.seq + 1
      completed := bump a.completed
      originFaults := if h.originFault then bump a.originFaults else a.originFaults }
  ((s.offerPacket b r h).arbitrate .east).arbitrate .west

/-! ## Receive frames (R12, R13, R44, R45) -/

/-- A bundle appends the bytes handed to it for one frame, and completes a packet at FPP frames (R44 to
R46). -/
def State.append (s : State) (b : BundleId) (r : Record) (bytes : List Byte) (mark : Bool) : State :=
  let n := (s.bun b).assembly.frames + 1
  let s := s.modAssembly b fun a =>
    { a with buffer := a.buffer ++ bytes, frames := n, faultMark := a.faultMark || mark }
  if r.fpp ≤ n then s.complete b r else s

/-- The bytes and the fault mark a port hands over: the line's, or 0xFF under fault (R13). -/
def Trib.handed (x : Trib) (bytes : Vector Byte 32) : List Byte × Bool :=
  if x.rx.onLine then (bytes.toList, false) else (List.replicate 32 0xFF, true)

/-- A port is under local frame timing (R12). -/
def RxState.locallyTimed : RxState → Bool
  | .noSignal | .ais | .search => true
  | .off | .aligned | .present => false

/-- The frame of port `t`, released with the local frames of `others`, is one that port `p` releases:
port `t` unless it is OFF, and the others where all of them are under local frame timing (R12, R51). -/
def State.releases (s : State) (t : TribId) (others : List TribId) (p : TribId) : Bool :=
  if p = t then (s.trib t).rx != .off
  else (s.trib t).rx.locallyTimed && (s.trib p).rx.locallyTimed && others.contains p

/-- A running bundle takes its bytes of the frame its port releases (R13, R44). -/
def State.collect (t : TribId) (bytes : Vector Byte 32) (others : List TribId) (s : State)
    (b : BundleId) : State :=
  let x := s.bun b
  match x.active with
  | none => s
  | some r =>
    if s.releases t others r.port && x.state.running then
      let (frame, mark) := (s.trib r.port).handed bytes
      s.append b r (r.slots.toList.map (byteAt frame)) mark
    else s

/-- RECEIVE_FRAME: a whole receive frame is released to the bundles on the port, together with those of
other ports that release local frames at the same system frame start, in ascending bundle number (R12,
R13, R51). -/
def receiveFrame (t : TribId) (bytes : Vector Byte 32) (others : List TribId) (s : State) : State :=
  allBundles.foldl (State.collect t bytes others) s

/-! ## Withdrawal and flush (R53, R54) -/

/-- The entries of port `n` that belong to bundle `b`. -/
def Net.countOf (x : Net) (b : BundleId) : Nat :=
  ((x.protection ++ x.priority ++ x.routine).filter fun e => e.bundle == b).length

/-- Every entry of bundle `b` is withdrawn from a queue (R53). -/
def Net.withdraw (x : Net) (b : BundleId) : Net :=
  { (x.without fun e => e.bundle == b) with
    tx := { x.tx with withdrawn := bumpBy x.tx.withdrawn (x.countOf b) } }

/-- Every entry of bundle `b` is withdrawn from both queues, and no packet of it is held (R53, R49). -/
def State.withdraw (s : State) (b : BundleId) : State :=
  let s := { s with nets := s.nets.map (Net.withdraw (b := b)) }
  s.modAssembly b fun a => { a with held := [] }

/-- A frame in transmission is aborted; in the gap nothing is (R54, R60). -/
def Net.abort (x : Net) : Net :=
  match x.transmitter with
  | .sending _ => { x with transmitter := .idle, tx := { x.tx with aborted := bump x.tx.aborted } }
  | .gap => { x with transmitter := .idle }
  | .idle => x

/-- Every queued entry is flushed (R54). -/
def Net.flush (x : Net) : Net :=
  { x with
    protection := []
    priority := []
    routine := []
    tx := { x.tx with flushed := bumpBy x.tx.flushed x.queued } }

/-- Every packet a bundle holds loses its copy at port `n`. -/
def Bundle.losePort (x : Bundle) (n : NetPort) : Bundle :=
  { x with assembly := x.assembly.losePort n }

/-- The transmit queue of port `n` takes the loss of its link (R54). -/
def State.cutOff (s : State) (n : NetPort) : State :=
  let s := s.modNet n fun x => x.abort.flush
  { s with bundles := s.bundles.map (Bundle.losePort (n := n)) }

/-! ## The transmitter (R60) -/

/-- FRAME_SENT: the frame in transmission has been sent to its last byte, and the gap begins (R60). -/
def frameSent (n : NetPort) (s : State) : State :=
  match (s.net n).transmitter with
  | .sending _ =>
    s.modNet n fun x =>
      { x with transmitter := .gap, tx := { x.tx with sent := bump x.tx.sent } }
  | _ => s

/-- INTER_FRAME_GAP_END: the transmitter enters IDLE, and the arbiter looks at its queue (R60, R55). -/
def interFrameGapEnd (n : NetPort) (s : State) : State :=
  match (s.net n).transmitter with
  | .gap => (s.modNet n fun x => { x with transmitter := .idle }).arbitrate n
  | _ => s

/-! ## Bundle events (R49) -/

/-- The assembly state of a bundle that stops: the buffer and the held packets are discarded, its sequence
and counters kept for reading (R37, R49). DESIGN CHOICE: the frames collected are 0 and the packet fault
mark is clear, as of an empty buffer (log entry 48). -/
def Assembly.stopped (a : Assembly) : Assembly :=
  { a with buffer := [], frames := 0, faultMark := false, held := [] }

/-- A bundle's transmit side is set to its start values, its queued copies withdrawn (R49). -/
def State.restartAssembly (s : State) (b : BundleId) : State :=
  (s.withdraw b).modAssembly b fun _ => .start

/-- A bundle's transmit side stops: the buffer and the held packets are discarded (R37, R49). -/
def State.stopAssembly (s : State) (b : BundleId) : State :=
  (s.withdraw b).modAssembly b Assembly.stopped

end Sys2Proof.Machine
end

