-- ==== Sys2Proof/Machine/Timing.lean ====
section
/-!
DEFINITION. Timing: the timing unit (chapter 8). Candidates, the selector, the measurement windows,
the steering arithmetic, and the timing requests.
-/

namespace Sys2Proof.Machine

/-! ## The selector (R153) -/

/-- A candidate may be selected in AUTO: AVAILABLE, with a priority of 1 to 7. -/
def CandidateRecord.eligible (x : CandidateRecord) : Bool := x.state == .available && x.priority != 0

/-- Of the best so far and the next candidate in index order, the better: the lower priority number,
the lower index where they share it (Table 59). -/
def Timing.better (x : Timing) (best : Option Candidate) (c : Candidate) : Option Candidate :=
  if (x.candidate c).eligible then
    match best with
    | none => some c
    | some a => if (x.candidate c).priority < (x.candidate a).priority then some c else best
  else best

/-- The candidate AUTO selects, if any (Table 59). -/
def Timing.best (x : Timing) : Option Candidate := allCandidates.foldl x.better none

/-- The state decided where no candidate is (Table 59). -/
def Timing.fallback (x : Timing) : TimingState := if x.everLocked then .holdover else .freeRun

/-- The state an evaluation decides (Table 59). -/
def Timing.decided (x : Timing) : TimingState :=
  match x.mode with
  | .free => .freeRun
  | .forced c => if (x.candidate c).state = .available then .locked c else x.fallback
  | .auto =>
    match x.best with
    | some c => .locked c
    | none => x.fallback

/-- The selector enters state `y` (R153). -/
def Timing.enter (x : Timing) (y : TimingState) : Timing :=
  { x with
    state := y
    lockWhole := false
    everLocked := match y with
      | .locked _ => true
      | _ => x.everLocked
    holdoverEntries := match y with
      | .holdover => bump x.holdoverEntries
      | _ => x.holdoverEntries }

/-- The detail of TIMING_STATE (Table 73a). -/
def timingDetail (old new : TimingState) : Nat := changeDetail old.code new.code new.param

/-- The selector is evaluated (R153). -/
def State.evaluateTiming (s : State) : State :=
  let old := s.timing.state
  let new := s.timing.decided
  if new = old then s
  else { s with timing := s.timing.enter new }.post .timingState .selector (timingDetail old new)

/-! ## Candidates (R152) -/

/-- A candidate's state machine takes a change of its validity to `v` (R152). -/
def CandidateRecord.takeValidity (x : CandidateRecord) (v : Bool) (timer : Timer) : CandidateRecord :=
  match v, x.state with
  | true, .unavailable =>
    if x.qualify = 0 then { x with valid := true, state := .available }
    else { x with valid := true, state := .qualifying, timer := timer }
  | true, _ => { x with valid := true }
  | false, .unavailable => { x with valid := false, whole := false }
  | false, _ =>
    { x with valid := false, whole := false, state := .unavailable, timer := none
             losses := bump x.losses }

/-- Candidate `c` becomes `new`: a change of state is posted and the selector evaluated (R152, R153). -/
def State.setCandidate (s : State) (c : Candidate) (new : CandidateRecord) : State :=
  let old := (s.timing.candidate c).state
  let s := { s with timing := s.timing.setCandidate c new }
  if new.state = old then s
  else (s.post .candidateState (.candidate c) (changeDetail old.code new.state.code 0)).evaluateTiming

/-- The validity of candidate `c` is `v` from now on (R151, R152). -/
def State.setValidity (s : State) (c : Candidate) (v : Bool) : State :=
  let x := s.timing.candidate c
  if x.valid = v then s
  else s.setCandidate c (x.takeValidity v (s.afterSec x.qualify))

/-- QUALIFY_TIMER_EXPIRY: a QUALIFYING candidate's running timer expires and it is AVAILABLE (R152). -/
def qualifyTimerExpiry (c : Candidate) (s : State) : State :=
  let x := s.timing.candidate c
  if x.state = .qualifying && s.due x.timer then
    s.setCandidate c { x with state := .available, timer := none }
  else s

/-- STATION_ACTIVITY_LOSS: no edge of the reference for 2 µs; the window in progress gives no
measurement (R151). -/
def stationActivityLoss (s : State) : State :=
  { s with timing := { s.timing with stationGap := true } }.setValidity .station false

/-! ## Measurement windows (R151, R154) -/

/-- The measurement of a candidate over the window just ended, if the window gives one (R151). -/
def Timing.measured (x : Timing) (station : Option Int) (lines : Vector Int 8) :
    Candidate → Option Int
  | .station => if x.stationGap then none else station
  | .trib t => if (x.candidate (.trib t)).whole then some lines[t] else none

/-- A measurement stored as the last measured frequency (R151). -/
def Timing.storeMeasured (station : Option Int) (lines : Vector Int 8) (x : Timing) (c : Candidate) :
    Timing :=
  match x.measured station lines c with
  | none => x
  | some f => x.setCandidate c { x.candidate c with frequency := some f }

/-- The holdover register after a window: the frequency of `c` where the selector was LOCKED(c)
throughout and the window was whole for `c` (R154). -/
def Timing.nextHoldover (x : Timing) (station : Option Int) (lines : Vector Int 8) : Int :=
  match x.state with
  | .locked c =>
    if x.lockWhole && (x.candidate c).whole then (x.measured station lines c).getD x.holdover
    else x.holdover
  | _ => x.holdover

/-- An offset within ±50 ppm (R151). -/
def stationInRange (f : Int) : Bool := -51200 ≤ f && f ≤ 51200

/-- STATION's validity after its frequency test; a window without a measurement tests nothing
(R151). -/
def State.testStation (s : State) (f : Option Int) : State :=
  match f with
  | none => s
  | some f => s.setValidity .station (stationInRange f)

/-- The next window begins where the one before it ends: it is whole so far for the candidates valid at its
first tick (R151). -/
def Timing.openWindow (x : Timing) : Timing :=
  { x with
    candidates := x.candidates.map fun c => { c with whole := c.valid }
    windowEnd := x.windowEnd + Config.windowTicks
    lockWhole := true
    stationGap := false }

/-- The measurement window in progress ends (R151, R154). -/
def State.endWindow (s : State) (station : Option Int) (lines : Vector Int 8) : State :=
  let x := s.timing
  let y := allCandidates.foldl (Timing.storeMeasured station lines) x
  let s := { s with timing := { y with holdover := x.nextHoldover station lines } }
  let s := s.testStation (x.measured station lines .station)
  { s with timing := s.timing.openWindow }

/-- MEASUREMENT_WINDOW_END: a window ends no sooner than its last tick (R151, log entry 13). -/
def measurementWindowEnd (station : Option Int) (lines : Vector Int 8) (s : State) : State :=
  if s.timing.windowEnd ≤ s.now then s.endWindow station lines else s

/-! ## Steering (R160, R161) -/

/-- The end of a steering interval: the integrator and the offset are recomputed from the sum with
shifts `kp` and `ki`, both floored (R161). -/
def Steering.finish (x : Steering) (kp ki : Nat) : Steering :=
  let i := x.integrator + x.sum / (2 ^ ki : Nat)
  let integrator := clampInt (-65536) 65536 i
  let o := integrator + x.sum / (2 ^ kp : Nat)
  let offset := clampInt (-65536) 65536 o
  { x with
    integrator := integrator
    offset := offset
    lastSum := x.sum
    sum := 0
    samples := 0
    completed := bump x.completed
    clamps := if integrator != i || offset != o then bump x.clamps else x.clamps }

/-- The samples of one steering interval (R161). -/
def intervalSamples : Nat := 8192

/-- STEERING_INTERVAL_END: an interval that has its 8192 samples ends (R161). -/
def steeringIntervalEnd (t : TribId) (s : State) : State :=
  s.modTrib t fun x =>
    if intervalSamples ≤ x.steer.samples then { x with steer := x.steer.finish x.cfg.kp x.cfg.ki }
    else x

/-- One sample of the fill against the target in force (R160). -/
def Steering.take (x : Steering) (fill target : Nat) : Steering :=
  { x with sum := x.sum + ((fill : Int) - (target : Int)), samples := x.samples + 1 }

/-! ## Requests (R156, R157, R163) -/

/-- The request kind codes of this file (R180). -/
def kindTimingConfig : Nat := 27
def kindTimingCommand : Nat := 28
def kindTimingStatus : Nat := 29

/-- The priorities and qualify times in force (R156). -/
def Timing.raw (x : Timing) : Vector RawPriority 9 :=
  x.candidates.map fun c => ⟨c.priority, c.qualify⟩

/-- The nine priorities and qualify times written, clamped (R156). -/
def Timing.configure (x : Timing) (raw : Vector RawPriority 9) : Timing :=
  { x with candidates := x.candidates.zipWith (fun (c : CandidateRecord) (p : RawPriority) =>
      { c with priority := p.clamp.priority, qualify := p.clamp.qualify }) raw }

/-- TIMING_CONFIG (R156). DESIGN CHOICE: the OK response and the CLAMPED one both carry the nine priorities and
qualify times in force; R156 lists no content (Table 63, R181, log entry 65). -/
def timingConfig (cp : CtrlPort) (raw : Vector RawPriority 9) (s : State) : State :=
  if s.loading then s.refuse cp kindTimingConfig .loading
  else if s.holder .timing != some cp then s.refuse cp kindTimingConfig .notHeld
  else
    let clamped := raw.toList.any fun p => p.clamp != p
    let s := { s with timing := s.timing.configure raw }.evaluateTiming
    s.decide cp kindTimingConfig (if clamped then .clamped else .ok) (timingBytes s.timing.raw)

/-- TIMING_COMMAND (R157). -/
def timingCommand (cp : CtrlPort) (mode c : Nat) (s : State) : State :=
  if s.loading then s.refuse cp kindTimingCommand .loading
  else if s.holder .timing != some cp then s.refuse cp kindTimingCommand .notHeld
  else match timingModeOf mode c with
    | none => s.refuse cp kindTimingCommand .badValue
    | some m =>
      let s := { s with timing := { s.timing with mode := m } }.evaluateTiming
      s.decide cp kindTimingCommand .ok
        (bytesOf 1 s.timing.state.code ++ bytesOf 1 s.timing.state.param)

/-- A frequency that may be absent (R181, log entry 12). -/
def freqBytes : Option Int → List Byte
  | none => 0 :: bytesOf 4 0
  | some f => 1 :: signedBytes 4 f

/-- What TIMING_STATUS gives of one candidate (R163). -/
def State.candidateBytes (s : State) (c : Candidate) : List Byte :=
  let x := s.timing.candidate c
  bytesOf 1 x.priority ++ bytesOf 2 x.qualify ++ [yesNoByte x.valid] ++ bytesOf 1 x.state.code
    ++ optBytes 3 (s.msLeft x.timer) ++ freqBytes x.frequency ++ bytesOf 4 x.losses

/-- What TIMING_STATUS gives of the selector (R163). -/
def State.selectorBytes (s : State) : List Byte :=
  let x := s.timing
  bytesOf 1 x.mode.codes.1 ++ bytesOf 1 x.mode.codes.2
    ++ bytesOf 1 x.state.code ++ bytesOf 1 x.state.param ++ [yesNoByte x.everLocked]
    ++ signedBytes 4 x.holdover ++ signedBytes 4 s.systemFrequency ++ bytesOf 4 x.holdoverEntries

/-- What TIMING_STATUS gives of one tributary port (R163). -/
def State.steeringBytes (s : State) (t : TribId) : List Byte :=
  let x := s.trib t
  bytesOf 1 x.cfg.clock.codes.1 ++ bytesOf 1 x.cfg.clock.codes.2
    ++ bytesOf 1 (s.steeringStatus t).code
    ++ signedBytes 3 x.steer.integrator ++ signedBytes 3 x.steer.offset
    ++ bytesOf 2 x.steer.samples ++ signedBytes 4 x.steer.lastSum
    ++ bytesOf 4 x.steer.completed ++ bytesOf 4 x.steer.abandoned ++ bytesOf 4 x.steer.clamps

/-- TIMING_STATUS (R163). -/
def timingStatus (cp : CtrlPort) (s : State) : State :=
  s.decide cp kindTimingStatus .ok
    (allCandidates.flatMap s.candidateBytes ++ s.selectorBytes ++ allTribs.flatMap s.steeringBytes)

/-! ## Warm reset (R164) -/

/-- A candidate after a warm reset, its validity already brought up to date: one not valid is
UNAVAILABLE with its timer stopped; its counter is zeroed (R164). -/
def CandidateRecord.warm (x : CandidateRecord) : CandidateRecord :=
  if x.valid then { x with losses := 0 }
  else { x with state := .unavailable, timer := none, losses := 0 }

/-- A line candidate with its port in NO_SIGNAL or OFF is not valid (R151, R164). -/
def CandidateRecord.lineLost (x : CandidateRecord) : CandidateRecord :=
  { x with valid := false, whole := false }

/-- The timing unit after a warm reset: no T candidate is valid, the selector is evaluated without an
event, the counters are zero (R164). -/
def Timing.warm (x : Timing) : Timing :=
  let x := allTribs.foldl
    (fun (x : Timing) t => x.setCandidate (.trib t) (x.candidate (.trib t)).lineLost) x
  let x := { x with candidates := x.candidates.map CandidateRecord.warm }
  let x := if x.decided = x.state then x else x.enter x.decided
  { x with holdoverEntries := 0 }

/-- A port's steering at a warm reset: an interval in progress is abandoned, the counters zeroed (R164).
DESIGN CHOICE: the last interval sum, which R164 does not name, is kept (log entry 55). -/
def Steering.warm (x : Steering) : Steering :=
  { x with sum := 0, samples := 0, completed := 0, abandoned := 0, clamps := 0 }

end Sys2Proof.Machine
end

