-- ==== Sys2Proof/Machine/TribLine.lean ====
section
/-!
DEFINITION. TribLine: the receive side of the tributary line unit and its requests (chapter 1, R1 to
R11, R17, R18).
-/

namespace Sys2Proof.Machine

/-! ## Changes of receive state -/

/-- A LOOP port falls back to system timing at the instant it leaves ALIGNED or PRESENT (R158). -/
def Trib.fallBackLoop (x : Trib) (new : RxState) : Trib :=
  if x.txSource = .line && !new.onLine then { x with txSource := .system } else x

/-- The receive state of port `t` becomes `new`: a change posts TRIB_STATE and decides the port's
validity as a clock candidate (R11, R151, R158). R173 leaves the order of what one line event posts open;
DESIGN CHOICE: TRIB_REMOTE_ALARM, TRIB_STATE, CANDIDATE_STATE, TIMING_STATE (log entry 41). -/
def State.setRx (s : State) (t : TribId) (new : RxState) : State :=
  let old := (s.trib t).rx
  if old = new then s
  else
    let s := s.modTrib t fun x => { x.fallBackLoop new with rx := new }
    let s := s.post .tribState (.trib t) (changeDetail old.code new.code 0)
    s.setValidity (.trib t) new.onLine

/-- Remote alarm in is cleared with both its runs; TRIB_REMOTE_ALARM is posted where it was set
(R10). -/
def State.clearRemoteAlarm (s : State) (t : TribId) : State :=
  let set := (s.trib t).remoteAlarm
  let s := s.modTrib t fun x => { x with remoteAlarm := false, onesRun := 0, zerosRun := 0 }
  s.postIf set .tribRemoteAlarm (.trib t) 0

/-- The recovery block, the block count, the AIS run and the alignment are given up (R4). -/
def Trib.abandonLine (x : Trib) : Trib :=
  { x with recovery := false, blocks := 0, aisRun := 0, errorRun := 0, alignNext := false }

/-- The receive state a port enters when its line carries a signal: SEARCH when FRAMED, PRESENT when
UNFRAMED (R5, R6). -/
def Trib.live (x : Trib) : RxState := if x.cfg.kind = .framed then .search else .present

/-! ## Line events (R4 to R10) -/

/-- The receive input of port `t` is lost (R4). -/
def State.inputLost (s : State) (t : TribId) : State :=
  match (s.trib t).rx with
  | .off => s
  | .noSignal => s.modTrib t fun x => { x with recovery := false }
  | _ =>
    let s := s.modTrib t fun x => { x.abandonLine with signalLosses := bump x.signalLosses }
    (s.clearRemoteAlarm t).setRx t .noSignal

/-- LOSS_OF_SIGNAL: the loss-of-signal input is asserted (R4). -/
def lossOfSignal (t : TribId) (s : State) : State := s.inputLost t

/-- RECEIVE_CLOCK_TIMEOUT: no receive clock edge for 16 µs (R4). -/
def receiveClockTimeout (t : TribId) (s : State) : State := s.inputLost t

/-- RECOVERY_BLOCK_BEGINS: in NO_SIGNAL, the first clock edge with the input not lost (R5). -/
def recoveryBlockBegins (t : TribId) (s : State) : State :=
  if (s.trib t).rx = .noSignal then s.modTrib t fun x => { x with recovery := true } else s

/-- RECOVERY_BLOCK_COMPLETE: the 512th bit of the recovery block decides the state that follows
NO_SIGNAL (R5). -/
def recoveryBlockComplete (t : TribId) (block : BitVec 512) (s : State) : State :=
  let x := s.trib t
  if x.rx = .noSignal then
    let s := s.modTrib t fun x => { x with recovery := false, blocks := 1, aisRun := 0 }
    s.setRx t (if meetsAis block then .ais else x.live)
  else s

/-- AIS is entered from SEARCH, ALIGNED or PRESENT (R6). -/
def State.enterAis (s : State) (t : TribId) : State :=
  let s := s.modTrib t fun x =>
    { x with aisRun := 0, errorRun := 0, alignNext := false, aisEntries := bump x.aisEntries }
  (s.clearRemoteAlarm t).setRx t .ais

/-- AIS_BLOCK_COMPLETE: a completed block is tested for AIS (R6). -/
def aisBlockComplete (t : TribId) (block : BitVec 512) (s : State) : State :=
  let x := s.trib t
  let s' := s.modTrib t fun x => { x with blocks := x.blocks + 1 }
  match x.rx with
  | .off | .noSignal => s
  | .ais => if meetsAis block then s' else s'.setRx t x.live
  | .search | .aligned | .present =>
    if meetsAis block then
      if 1 ≤ x.aisRun then s'.enterAis t else s'.modTrib t fun x => { x with aisRun := 1 }
    else s'.modTrib t fun x => { x with aisRun := 0 }

/-- ALIGNMENT_FOUND: a candidate that passes both checks aligns a port in SEARCH; the frame after the
second pattern's is a non-alignment frame (R7). -/
def alignmentFound (t : TribId) (window : BitVec 519) (s : State) : State :=
  if (s.trib t).rx = .search && candidatePasses window then
    (s.modTrib t fun x => { x with errorRun := 0, alignNext := false }).setRx t .aligned
  else s

/-- The third errored alignment word in a row: alignment is given up (R8). -/
def State.loseAlignment (s : State) (t : TribId) : State :=
  let s := s.modTrib t fun x =>
    { x with errorRun := 0, alignNext := false, alignLosses := bump x.alignLosses }
  (s.clearRemoteAlarm t).setRx t .search

/-- ALIGNMENT_WORD: bits 2 to 8 of an alignment frame's slot 0 are checked in ALIGNED, where frames
alternate and this one is due (R7, R8, log entry 14). -/
def alignmentWord (t : TribId) (bits : BitVec 7) (s : State) : State :=
  let x := s.trib t
  if x.rx = .aligned && x.alignNext then
    if bits = alignmentPattern then s.modTrib t fun x => { x with errorRun := 0, alignNext := false }
    else
      let s := s.modTrib t fun x =>
        { x with errorRun := x.errorRun + 1, alignNext := false
                 erroredWords := bump x.erroredWords }
      if 3 ≤ x.errorRun + 1 then s.loseAlignment t else s
  else s

/-- The two runs and remote alarm in after one read of bit 3 (R10). -/
def Trib.readAlarm (x : Trib) (bit3 : Bool) : Trib :=
  if bit3 then
    { x with onesRun := x.onesRun + 1, zerosRun := 0
             remoteAlarm := x.remoteAlarm || decide (3 ≤ x.onesRun + 1) }
  else
    { x with zerosRun := x.zerosRun + 1, onesRun := 0
             remoteAlarm := x.remoteAlarm && !decide (3 ≤ x.zerosRun + 1) }

/-- NON_ALIGNMENT_WORD: bit 3 of a non-alignment frame's slot 0 is read in ALIGNED, where frames
alternate and this one is due (R7, R10, log entry 14). -/
def nonAlignmentWord (t : TribId) (bit3 : Bool) (s : State) : State :=
  let x := s.trib t
  if x.rx = .aligned && !x.alignNext then
    let y := { x.readAlarm bit3 with alignNext := true }
    (s.modTrib t fun _ => y).postIf (y.remoteAlarm != x.remoteAlarm) .tribRemoteAlarm (.trib t)
      y.remoteAlarm.toNat
  else s

/-! ## Configuration (R1 to R3) -/

/-- The request kind codes of this file (R180). -/
def kindTribConfig : Nat := 24
def kindTribStatus : Nat := 25

/-- An active or armed record of some bundle names port `t` (R2, R28). -/
def State.occupied (s : State) (t : TribId) : Bool :=
  allBundles.any fun b =>
    (s.bun b).isOn t || ((s.bun b).armedRecord.map fun r => r.port) == some t

/-- R2 refuses a change of port `t` to `kind`. -/
def State.kindRefused (s : State) (t : TribId) (kind : TribKind) : Bool :=
  (s.trib t).cfg.kind != kind && s.occupied t

/-- R3 accepts transmit clock `clock` in a write that gives port `t` kind `kind`: a STEERED field left as
it stands is not tested; any other needs its bundle on the port, and a port that is not DISABLED before
or after the write. -/
def State.clockAccepted (s : State) (t : TribId) (kind : TribKind) (clock : TxClock) : Bool :=
  let old := (s.trib t).cfg
  match clock with
  | .steered b =>
    old.clock == clock || (old.kind != .disabled && kind != .disabled && (s.bun b).isOn t)
  | _ => true

/-- The configuration a TRIB_CONFIG asks for; none where R1 step 4 refuses it. -/
def State.tribRequest (s : State) (t : TribId) (raw : RawTribConfig) : Option TribConfig := do
  let clock ← raw.txClock
  let cfg ← raw.typed clock
  if s.clockAccepted t cfg.kind clock then return cfg else none

/-- The receive state a kind restarts in (R2). -/
def restartState : TribKind → RxState
  | .disabled => .off
  | .framed | .unframed => .noSignal

/-- The effects of a change of kind (R2): the receive side restarts, the transmit parity is even; a
DISABLED port holds its transmit data at 1 and runs from system timing (R14, log entry 29). -/
def State.changeKind (s : State) (t : TribId) (kind : TribKind) : State :=
  let s := s.modTrib t fun x =>
    { x.abandonLine with
      odd := false
      txFrame := if kind = .disabled then List.replicate 32 0xFF else x.txFrame
      txSource := if kind = .disabled then .system else x.txSource
      txOffset := if kind = .disabled then 0 else x.txOffset }
  (s.clearRemoteAlarm t).setRx t (restartState kind)

/-- A configuration is applied to port `t`: a change of the transmit clock abandons a steering
interval, a change of kind restarts the port (R1, R2, R162). -/
def State.applyTrib (s : State) (t : TribId) (cfg : TribConfig) : State :=
  let old := (s.trib t).cfg
  let s := s.modTrib t fun x =>
    { x with cfg := cfg, steer := if old.clock = cfg.clock then x.steer else x.steer.abandon }
  if old.kind = cfg.kind then s else s.changeKind t cfg.kind

/-- TRIB_CONFIG (R1). DESIGN CHOICE: the OK response and the CLAMPED one both carry the configuration in force,
the six fields of Table 5 in eight bytes without the port number; R1 lists no content, Table 63 speaks of
CLAMPED alone and R181 fixes one length for the kind (log entry 65). -/
def tribConfig (cp : CtrlPort) (port : Nat) (raw : RawTribConfig) (s : State) : State :=
  if s.loading then s.refuse cp kindTribConfig .loading
  else match tribOf port with
    | none => s.refuse cp kindTribConfig .badValue
    | some t =>
      if s.holder (.trib t) != some cp then s.refuse cp kindTribConfig .notHeld
      else match s.tribRequest t raw with
        | none => s.refuse cp kindTribConfig .badValue
        | some cfg =>
          if s.kindRefused t cfg.kind then s.refuse cp kindTribConfig .badState
          else
            (s.applyTrib t cfg).decide cp kindTribConfig
              (if raw.shiftsInRange then .ok else .clamped) (cfg.raw.bytes)

/-! ## Status (R17) -/

/-- What TRIB_STATUS gives of port `t` (R17). -/
def State.tribStatusBytes (s : State) (t : TribId) : List Byte :=
  let x := s.trib t
  x.cfg.raw.bytes ++ bytesOf 1 x.rx.code ++ [flagByte x.recovery, flagByte x.remoteAlarm,
    flagByte x.remoteAlarmOut, flagByte (s.portDelayAlert t), flagByte x.txAllOnes]
    ++ bytesOf 4 x.signalLosses ++ bytesOf 4 x.aisEntries ++ bytesOf 4 x.alignLosses
    ++ bytesOf 4 x.erroredWords

/-- TRIB_STATUS (R17). -/
def tribStatus (cp : CtrlPort) (port : Nat) (s : State) : State :=
  match tribOf port with
  | none => s.refuse cp kindTribStatus .badValue
  | some t => s.decide cp kindTribStatus .ok (s.tribStatusBytes t)

/-! ## Warm reset (R18) -/

/-- A tributary port after a warm reset (R18, R164). -/
def Trib.warm (x : Trib) : Trib :=
  { x.abandonLine.fallBackLoop (restartState x.cfg.kind) with
    rx := (restartState x.cfg.kind)
    onesRun := 0
    zerosRun := 0
    remoteAlarm := false
    signalLosses := 0
    aisEntries := 0
    alignLosses := 0
    erroredWords := 0
    odd := false
    steer := x.steer.warm }

end Sys2Proof.Machine
end

