-- ==== Sys2Proof/Machine/BundleTable.lean ====
section
/-!
DEFINITION. BundleTable: the bundle table (chapter 2). Editing, activation and its classes of change,
START, STOP, FREE, the record patrol, and READ_BUNDLE.
-/

namespace Sys2Proof.Machine

/-- The request kind codes of this file (R180). -/
def kindReadBundle : Nat := 6
def kindWritePending : Nat := 7
def kindActivate : Nat := 8
def kindStart : Nat := 9
def kindStop : Nat := 10
def kindFree : Nat := 11

/-! ## Validation of a record (R23 steps 5 to 8) -/

/-- The slot form matches the kind of the port: a list on FRAMED, ALL on UNFRAMED (R23 step 5). -/
def kindMatches : TribKind → SlotSet → Bool
  | .framed, .list _ => true
  | .unframed, .all => true
  | _, _ => false

/-- FPP reduced where slot count × FPP exceeds 512 (R24). -/
def payloadClamp (r : Record) : Record :=
  if 512 < r.slots.count * r.fpp then { r with fpp := 512 / r.slots.count } else r

/-- Two slot sets share a slot (R25). -/
def slotsMeet (x y : SlotSet) : Bool := x.toList.any fun n => y.toList.contains n

/-- Record `r` takes a slot that another record holds on the same port (R25). -/
def slotConflict (r : Record) (other : Option Record) : Bool :=
  match other with
  | none => false
  | some o => o.port == r.port && slotsMeet r.slots o.slots

/-- Some other bundle's active or armed record holds a slot of `r` (R25). -/
def State.conflicts (s : State) (b : BundleId) (r : Record) : Bool :=
  allBundles.any fun o =>
    o != b && (slotConflict r (s.bun o).active || slotConflict r (s.bun o).armedRecord)

/-- Max depth raised to FPP where it lies below it (R26 step 1). -/
def raiseDepth (r : Record) : Record := { r with maxDepth := max r.maxDepth r.fpp }

/-- ceil(max depth / FPP) + 2 (R26 step 2). -/
def slotsNeeded (r : Record) : Nat := (r.maxDepth + r.fpp - 1) / r.fpp + 2

/-- The smallest of 16, 32, 64, 128 and 256 that is at least `n`, 256 where none is (R26 steps 3 and
4). -/
def ringSizeFor (n : Nat) : Nat :=
  if n ≤ 16 then 16 else if n ≤ 32 then 32 else if n ≤ 64 then 64 else if n ≤ 128 then 128 else 256

/-- The ring size of a record, and the record with its max depth as R26 leaves it. -/
def sizeRing (r : Record) : Record × Nat :=
  let r := raiseDepth r
  let n := slotsNeeded r
  if 256 < n then ({ r with maxDepth := 254 * r.fpp }, 256) else (r, ringSizeFor n)

/-- The sum of R27 for bundle `b` taking a ring of `size` slots. -/
def State.poolSumWith (s : State) (b : BundleId) (size : Nat) : Nat :=
  (allBundles.map fun o =>
    if o = b then max (s.bun o).ringSize size else (s.bun o).poolCharge).sum

/-- Steps 5 to 8 of R23 for bundle `b` and record `r`: the refusal, or the clamped record with its
ring size. -/
def State.validate (s : State) (b : BundleId) (r : Record) : Except Status (Record × Nat) :=
  if !kindMatches (s.trib r.port).cfg.kind r.slots then .error .badState
  else
    let r := payloadClamp r
    if s.conflicts b r then .error .conflict
    else
      let (r, size) := sizeRing r
      if Config.poolSlots < s.poolSumWith b size then .error .noSpace else .ok (r, size)

/-! ## Activations taking effect (R29 to R33) -/

/-- No hard field of Table 10 differs; slot sets are compared as sets. -/
def sameHard (x y : Record) : Bool :=
  x.port == y.port && x.slots.sorted == y.slots.sorted && x.fpp == y.fpp && x.txLabel == y.txLabel
    && x.rxLabel == y.rxLabel && x.pathMode == y.pathMode && x.portMap == y.portMap
    && x.maxDepth == y.maxDepth

/-- The fields of R124 item 3 do not differ. -/
def sameDelay (x y : Record) : Bool :=
  x.delayMode == y.delayMode && x.targetDepth == y.targetDepth && x.targetDelay == y.targetDelay
    && x.initialDepth == y.initialDepth && x.eqApply == y.eqApply && x.deadband == y.deadband

/-- The class of change that record `r` makes of a bundle (Table 12). -/
def Bundle.changeClass (x : Bundle) (r : Record) : ChangeClass :=
  match x.active with
  | none => .new
  | some old =>
    if sameHard old r then .inPlace else if x.state.running then .restart else .rebuilt

/-- The bundle enters FILLING at a fresh start of its paths: their loss timers and the start wait run
(R150). -/
def State.startPaths (s : State) (b : BundleId) (r : Record) : State :=
  s.modSupervisor b fun _ => .started r (s.afterMs r.lossTime)

/-- Class NEW (R30): an empty ring, cleared records, and STOPPED, or FILLING with auto start. -/
def State.effectNew (s : State) (b : BundleId) (r : Record) (size : Nat) : State :=
  let s := s.modBun b fun x =>
    { x with playout := .fresh size, assembly := .start, delay := .zero, supervisor := .restart r }
  let s := if r.autoStart then s.startPaths b r else s
  (s.changeState b (if r.autoStart then .filling else .stopped) .activated).computeTarget b

/-- Class RESTART (R31); a mismatch flag it clears is posted (log entry 30). -/
def State.effectRestart (s : State) (b : BundleId) (r : Record) (size : Nat) : State :=
  let s := s.postAbandoned b
  let s := s.modPlayout b fun p => p.allocate size true
  let s := s.restartAssembly b
  let s := s.modDelay b fun d => d.clear true
  let s := (s.setMismatch b false).startPaths b r
  let s := if (s.bun b).state = .filling then s else s.changeState b .filling .restart
  s.computeTarget b

/-- Class REBUILT (R32): the state does not change. -/
def State.effectRebuilt (s : State) (b : BundleId) (r : Record) (size : Nat) : State :=
  let s := s.modPlayout b fun p => p.allocate size false
  let s := s.modDelay b fun d => d.clear true
  (s.modSupervisor b fun _ => .restart r).computeTarget b

/-- A change to FIXED during WAIT_ESTIMATE ends the phase (R93). -/
def State.endFixedWait (s : State) (b : BundleId) (r : Record) : State :=
  if r.delayMode = .fixed then s.endEstimateWait b true else s

/-- Class IN_PLACE (R33): a change of the delay fields drops the proposal and computes a target, and
the selector is evaluated (R93, R124, R140). DESIGN CHOICE: the target is computed before the selector is
evaluated, on the active path as it stood (log entry 58), and a bundle whose selector is not evaluated
keeps its active path where the primary path changes (log entry 44). -/
def State.effectInPlace (s : State) (b : BundleId) (old r : Record) : State :=
  let s := if sameDelay old r then s else (s.dropProposal b).computeTarget b
  (s.endFixedWait b r).evaluateSelector b .none

/-- Record `r` with ring size `size` becomes the active record of bundle `b` (R29 steps 1 to 6). -/
def State.takeEffect (s : State) (b : BundleId) (r : Record) (size : Nat) : State :=
  let x := s.bun b
  let cls := x.changeClass r
  let s := s.modBun b fun x =>
    { x with
      active := some r
      pending := r
      check := Config.checkWord r
      recordFault := false
      ringSize := size
      armed := none }
  let s := s.setHolder (.bundle b) none
  let s :=
    match cls with
    | .new => s.effectNew b r size
    | .restart => s.effectRestart b r size
    | .rebuilt => s.effectRebuilt b r size
    | .inPlace => s.effectInPlace b (x.active.getD r) r
  s.post .bundleActivated (.bundle b) cls.code

/-- ACTIVATION_TAKES_EFFECT: the armed record, if there is one, becomes the active record (R29). DESIGN
CHOICE: it acts at any instant at which an activation is armed; a TRANSMIT_FRAME_START makes the same
effect itself (log entry 47). -/
def activationTakesEffect (b : BundleId) (s : State) : State :=
  match (s.bun b).armed with
  | none => s
  | some size => s.takeEffect b (s.bun b).pending size

/-! ## Editing and activation requests (R20 to R28) -/

/-- WRITE_PENDING (R20, R21). DESIGN CHOICE: the OK response and the CLAMPED one both carry the whole record as
stored, 49 bytes; R20 gives no content, and Table 63 speaks of CLAMPED alone (R181, log entry 65). -/
def writePending (cp : CtrlPort) (b : Nat) (raw : RawRecord) (s : State) : State :=
  if s.loading then s.refuse cp kindWritePending .loading
  else match bundleOf b with
    | none => s.refuse cp kindWritePending .badValue
    | some b =>
      if s.holder (.bundle b) != some cp then s.refuse cp kindWritePending .notHeld
      else if (s.bun b).armed.isSome then s.refuse cp kindWritePending .badState
      else match raw.stored with
        | none => s.refuse cp kindWritePending .badValue
        | some (r, clamped) =>
          (s.modBun b fun x => { x with pending := r }).decide cp kindWritePending
            (if clamped then .clamped else .ok) r.raw.bytes

/-- ACTIVATE (R23 to R28). DESIGN CHOICE: the OK response and the CLAMPED one both carry the whole armed record,
49 bytes; R23 and R28 give no content, and Table 63 speaks of CLAMPED alone (R181, log entry 65). -/
def activate (cp : CtrlPort) (b : Nat) (s : State) : State :=
  if s.loading then s.refuse cp kindActivate .loading
  else match bundleOf b with
    | none => s.refuse cp kindActivate .badValue
    | some b =>
      if s.holder (.bundle b) != some cp then s.refuse cp kindActivate .notHeld
      else if (s.bun b).armed.isSome then s.refuse cp kindActivate .badState
      else match s.validate b (s.bun b).pending with
        | .error status => s.refuse cp kindActivate status
        | .ok (r, size) =>
          let clamped := r != (s.bun b).pending
          (s.modBun b fun x => { x with pending := r, armed := some size }).decide cp kindActivate
            (if clamped then .clamped else .ok) r.raw.bytes

/-- The pending record of a bundle with nothing armed returns to its active record, or to the defaults
(R22). -/
def Bundle.returnPending (x : Bundle) : Bundle :=
  if x.armed.isSome then x else { x with pending := x.active.getD Record.default }

/-! ## START, STOP and FREE (R36 to R38) -/

/-- A STOPPED bundle enters FILLING by START: every block at its start values (R36). -/
def State.startBundle (s : State) (b : BundleId) (r : Record) : State :=
  let s := s.restartAssembly b
  let s := s.modPlayout b fun p => .fresh p.ring.length
  let s := s.modDelay b fun d => d.clear true
  let s := s.startPaths b r
  (s.changeState b .filling .start).computeTarget b

/-- START can be taken by a bundle in this state of the part: STOPPED, not faulted, its port not
DISABLED (R36). -/
def State.canStart (s : State) (b : BundleId) (r : Record) : Bool :=
  let x := s.bun b
  x.state == .stopped && !x.recordFault && (s.trib r.port).cfg.kind != .disabled

/-- START (R36). -/
def start (cp : CtrlPort) (b : Nat) (s : State) : State :=
  if s.loading then s.refuse cp kindStart .loading
  else match bundleOf b with
    | none => s.refuse cp kindStart .badValue
    | some b =>
      match (s.bun b).active with
      | none => s.refuse cp kindStart .badState
      | some r =>
        if s.canStart b r then (s.startBundle b r).decide cp kindStart .ok []
        else s.refuse cp kindStart .badState

/-- What entry to STOPPED brings about in the other blocks (R37). R173 leaves the order of their events
open; DESIGN CHOICE: DEPTH_ADJUST ABANDONED, then PATH_MISMATCH (log entry 41). -/
def State.stopBlocks (s : State) (b : BundleId) : State :=
  let s := (s.emptyRing b).stopAssembly b
  let s := s.modDelay b fun d => d.clear false
  s.stopPaths b

/-- STOP (R37). DESIGN CHOICE: BUNDLE_STATE joins the queues after the events of the other blocks (log
entry 41). -/
def stop (cp : CtrlPort) (b : Nat) (s : State) : State :=
  if s.loading then s.refuse cp kindStop .loading
  else match bundleOf b with
    | none => s.refuse cp kindStop .badValue
    | some b =>
      match (s.bun b).state with
      | .free => s.refuse cp kindStop .badState
      | .stopped => s.decide cp kindStop .ok []
      | .filling | .playing | .down =>
        let s := ((s.stopBlocks b).changeState b .stopped .stop).computeTarget b
        s.decide cp kindStop .ok []

/-- A STOPPED bundle enters FREE: its record, ring, slots and a claim of the requester are released
(R38). -/
def State.freeBundle (s : State) (b : BundleId) : State :=
  let old := (s.bun b).state
  let s := s.modBun b fun x => .freed x.delivery
  (s.setHolder (.bundle b) none).postBundleState b old .free .freed

/-- FREE (R38). -/
def free (cp : CtrlPort) (b : Nat) (s : State) : State :=
  if s.loading then s.refuse cp kindFree .loading
  else match bundleOf b with
    | none => s.refuse cp kindFree .badValue
    | some b =>
      if s.holder (.bundle b) = some cp.other then s.refuse cp kindFree .heldElsewhere
      else if (s.bun b).armed.isSome then s.refuse cp kindFree .badState
      else if (s.bun b).state != .stopped then s.refuse cp kindFree .badState
      else (s.freeBundle b).decide cp kindFree .ok []

/-! ## Record patrol (R40) -/

/-- An active record that reads otherwise than as written: it is kept as it reads (R40). DESIGN CHOICE: the
pending record stays as it was (R19, log entry 45), and what is read is a record with every coded field in
its set (log entry 46). -/
def State.readRecord (s : State) (read : BundleId × Record) : State :=
  s.modBun read.1 fun x =>
    if x.active.isSome && !x.recordFault then { x with active := some read.2 } else x

/-- The active record of a bundle fails its check (R40). -/
def Bundle.mismatched (x : Bundle) : Bool :=
  match x.active with
  | none => false
  | some r => !x.recordFault && Config.checkWord r != x.check

/-- A record found corrupt: the bundle stops, a RECORD_CHECK fault is recorded, BUNDLE_STATE is posted
(R40). -/
def State.faultRecord (s : State) (b : BundleId) : State :=
  let running := (s.bun b).state.running
  let s := s.modBun b fun x => { x with recordFault := true }
  let s := if running then s.stopBlocks b else s
  let s := s.recordFault .recordCheck (some b) 0
  let s := s.changeState b .stopped .recordFault
  if running then s.computeTarget b else s

/-- The patrol examines bundle `b` (R40). -/
def State.patrol (s : State) (b : BundleId) : State :=
  if (s.bun b).mismatched then s.faultRecord b else s

/-- RECORD_PATROL, with the records that read otherwise than as written (R40). DESIGN CHOICE: one patrol examines
the bundles in ascending number, so of several mismatches it finds, the lowest bundle's fault is recorded first
and becomes First Fault where that is empty; R174 leaves either order open (log entry 66). -/
def recordPatrol (reads : List (BundleId × Record)) (s : State) : State :=
  allBundles.foldl State.patrol (reads.foldl State.readRecord s)

/-! ## READ_BUNDLE (R41) -/

/-- A record that may be absent: its presence byte and 49 bytes (R181). -/
def optRecordBytes : Option Record → List Byte
  | none => 0 :: List.replicate recordLength 0
  | some r => 1 :: r.raw.bytes

/-- The copy of the record a READ_BUNDLE names. -/
def Bundle.copy (x : Bundle) : RecordCopy → Option Record
  | .active => x.active
  | .pending => some x.pending

/-- What READ_BUNDLE gives of bundle `b` (R41). DESIGN CHOICE: the ring size of a FREE bundle is 0, without a
presence byte (log entry 57), and whether an activation is armed is the presence byte of the armed ring
size (log entry 60). -/
def State.bundleBytes (s : State) (b : BundleId) (copy : RecordCopy) : List Byte :=
  let x := s.bun b
  optRecordBytes (x.copy copy) ++ bytesOf 1 x.state.code ++ [flagByte x.recordFault]
    ++ optBytes 2 x.armed ++ bytesOf 2 x.ringSize ++ bytesOf 2 x.poolCharge
    ++ bytesOf 1 (holderCode (s.holder (.bundle b))) ++ bytesOf 2 s.poolSum

/-- READ_BUNDLE (R41). -/
def readBundle (cp : CtrlPort) (b : Nat) (copy : RecordCopy) (s : State) : State :=
  match bundleOf b with
  | none => s.refuse cp kindReadBundle .badValue
  | some b => s.decide cp kindReadBundle .ok (s.bundleBytes b copy)

/-! ## Warm reset (R43, R109, R133, R150) -/

/-- A bundle after a warm reset, `timer` being a path loss time from now where it was running (R43,
R49, R61, R109, R133, R150). Its target is computed after. -/
def Bundle.warm (x : Bundle) (timer : Record → Timer) : Bundle :=
  match x.active with
  | none => .freed .zero
  | some r =>
    { x with
      armed := none
      pending := r
      state := if x.state.running then .filling else x.state
      assembly := if x.state.running then .start else { Assembly.start with seq := x.assembly.seq }
      playout := .fresh x.playout.ring.length
      delay := x.delay.clear true
      supervisor := if x.state.running then .started r (timer r) else .restart r
      delivery := .zero }

end Sys2Proof.Machine
end

