-- ==== Sys2Proof/Machine/Frame.lean ====
section
/-!
DEFINITION. Frame: the transmit frame start of a tributary port (R14 to R16, R90, R97, R158, R160).
-/

namespace Sys2Proof.Machine

/-! ## What has befallen stored payload (R106) -/

/-- One corruption of a stored payload byte; nothing where no packet of that sequence is held. -/
def State.applyUpset (s : State) (u : Upset) : State :=
  s.modPlayout u.bundle fun p =>
    match p.slotFor u.seq with
    | none => p
    | some x => p.setSlot u.seq (some (x.upset u.pos u.mask))

/-! ## Armed activations (R14, R29) -/

/-- An armed activation of bundle `b` that names port `t` takes effect (R29). -/
def State.activateFor (t : TribId) (s : State) (b : BundleId) : State :=
  if ((s.bun b).armedRecord.map fun r => r.port) = some t then activationTakesEffect b s else s

/-! ## What the frame reads at its start -/

/-- The bundle state as it stood before a PLAYOUT_START or an underrun of this frame start (log entry
4). -/
def Bundle.stateAtStart (x : Bundle) : BState :=
  match x.playout.atStart with
  | .started => .filling
  | .underran => .playing
  | _ => x.state

/-- The delay alert as it stood before a step of this frame start ended an adjustment (R129, log entry
4). -/
def Bundle.alertAtStart (x : Bundle) : Bool :=
  x.delayAlert || x.playout.atStart == .ended || x.playout.atStart == .underran

/-- AIS when down applies: at least one bundle is on the port and none is PLAYING (R16). -/
def State.aisDown (s : State) (t : TribId) : Bool :=
  let on := allBundles.filter fun b => (s.bun b).isOn t
  (s.trib t).cfg.aisWhenDown && !on.isEmpty
    && on.all fun b => (s.bun b).stateAtStart != .playing

/-- The port delay alert at a frame start (R15). -/
def State.alertOn (s : State) (t : TribId) : Bool :=
  allBundles.any fun b => (s.bun b).isOn t && (s.bun b).alertAtStart

/-- The bit of the non-alignment word that an alert bit names, as a mask: bit 1 of a slot is the most
significant (R14, R15). -/
def alertMask : AlertBit → Byte
  | .off => 0x00
  | .bit4 => 0x10
  | .bit5 => 0x08
  | .bit6 => 0x04
  | .bit7 => 0x02
  | .bit8 => 0x01

/-- The generated slot 0 (Table 9). -/
def slotZero (odd remoteOut alert : Bool) (bit : AlertBit) : Byte :=
  if odd then
    (if remoteOut then 0xFF else 0xDF) &&& ~~~ (if alert then alertMask bit else 0x00)
  else 0x9B

/-! ## Transmit timing and steering (R158 to R160) -/

/-- The source and the steering offset that govern the port's transmit timing from this frame start
(R158, R161). -/
def Trib.latchTiming (x : Trib) : Trib :=
  match x.cfg.clock with
  | .system => { x with txSource := .system, txOffset := 0 }
  | .loop => { x with txSource := if x.rx.onLine then .line else .system, txOffset := 0 }
  | .steered _ => { x with txSource := .steered, txOffset := x.steer.offset }

/-- The port takes a steering sample at this frame start: it was RUNNING when the fill was sampled
(R159). -/
def State.samples (s : State) (t : TribId) (b : BundleId) : Bool :=
  s.steeringStatus t == .running && (s.bun b).playout.atStart == .none

/-- The steering sum of port `t` takes this frame start's sample (R160). -/
def State.steerSample (s : State) (t : TribId) : State :=
  match (s.trib t).cfg.clock with
  | .steered b =>
    if s.samples t b then
      let x := s.bun b
      s.modTrib t fun y => { y with steer := y.steer.take x.playout.sample x.delay.target }
    else s
  | _ => s

/-! ## The frame -/

/-- The fill of a bundle on port `t` in FILLING or PLAYING is sampled, unless a command of this frame
start has sampled it (R90, log entry 4). -/
def State.sampleOn (t : TribId) (s : State) (b : BundleId) : State :=
  let x := s.bun b
  match x.active with
  | none => s
  | some r =>
    if r.port = t && (x.state = .filling || x.state = .playing) && x.playout.atStart = .none then
      s.sampleFill b r
    else s

/-- A bundle on port `t` gives its frame of bytes. -/
def State.playOn (t : TribId) (s : State) (b : BundleId) : State :=
  if (s.bun b).isOn t then s.playBundle b else s

/-- The bytes of a bundle's slots placed in a frame, in ascending slot order (R14). -/
def placeSlots (frame : List Byte) (slots : List Nat) (bytes : List Byte) : List Byte :=
  (slots.zip bytes).foldl (fun f x => f.set x.1 x.2) frame

/-- The playout output of a running bundle on port `t` placed in its slots (R14). -/
def State.placeBundle (s : State) (t : TribId) (frame : List Byte) (b : BundleId) : List Byte :=
  let x := s.bun b
  match x.active with
  | none => frame
  | some r =>
    if r.port = t && x.state.running then placeSlots frame r.slots.toList x.playout.out else frame

/-- The 32 bytes of a frame before slot 0 is generated: idle bytes and playout output (R14). -/
def State.slotBytes (s : State) (t : TribId) : List Byte :=
  allBundles.foldl (s.placeBundle t) (List.replicate 32 (s.trib t).cfg.idle)

/-- The frame of port `t`, its slot 0 word given: all ones under R16, the generated slot 0 on a FRAMED
port (R14 to R16). -/
def State.buildFrame (s : State) (t : TribId) (ones : Bool) (word : Byte) : List Byte :=
  if ones then List.replicate 32 0xFF
  else match (s.trib t).cfg.kind with
    | .framed => (s.slotBytes t).set 0 word
    | _ => s.slotBytes t

/-- The port sends `frame`; its parity alternates (R14, R15). -/
def Trib.sendFrame (x : Trib) (frame : List Byte) (ones : Bool) : Trib :=
  { x with txFrame := frame, txAllOnes := ones, odd := !x.odd }

/-- The steps of a frame start of an enabled port that come before its frame: corruptions, the end of a
full steering interval, activations and timing (R14, R29, R158, R161). -/
def State.openFrame (s : State) (t : TribId) (upsets : List Upset) : State :=
  let s := upsets.foldl State.applyUpset s
  let s := steeringIntervalEnd t s
  let s := allBundles.foldl (State.activateFor t) s
  s.modTrib t Trib.latchTiming

/-- The fills sampled, the steering sum, and the playout of every bundle on the port (R90, R97, R160). -/
def State.playPort (s : State) (t : TribId) : State :=
  let s := allBundles.foldl (State.sampleOn t) s
  let s := s.steerSample t
  allBundles.foldl (State.playOn t) s

/-- TRANSMIT_FRAME_START: an enabled port's armed activations take effect, its bundles play one frame,
and its frame is built; a DISABLED port builds none (R14 to R16). -/
def transmitFrameStart (t : TribId) (upsets : List Upset) (s : State) : State :=
  if (s.trib t).cfg.kind = .disabled then s
  else
    let s := s.openFrame t upsets
    let x := s.trib t
    let ones := s.aisDown t
    let word := slotZero x.odd x.remoteAlarmOut (s.alertOn t) x.cfg.alert
    let s := s.playPort t
    s.modTrib t fun x => x.sendFrame (s.buildFrame t ones word) ones

end Sys2Proof.Machine
end

