-- ==== Sys2Proof/Machine/Receive.lean ====
section
/-!
DEFINITION. Receive: link state, the receive checks, the acceptance lists, the capture slots and the
delivery checks (chapter 4), and what an accepted packet does.
-/

namespace Sys2Proof.Machine

/-- The request kind codes of this file (R180). -/
def kindListInsert : Nat := 18
def kindListRemove : Nat := 19
def kindListReplace : Nat := 20
def kindListRead : Nat := 21
def kindCaptureArm : Nat := 22
def kindCaptureRead : Nat := 23
def kindPortStatus : Nat := 26

/-! ## Link state (R63) -/

/-- The receive counters of a network port changed by `f`. -/
def State.modRx (s : State) (n : NetPort) (f : RxCounters → RxCounters) : State :=
  s.modNet n fun x => { x with rx := f x.rx }

/-- The qualification timer started now (R63). -/
def State.qualifyTimer (s : State) : Timer := s.afterMs Config.linkQualifyMs

/-- LINK_INDICATION_APPEARS: qualification starts on a DOWN port (R63). -/
def linkIndicationAppears (n : NetPort) (s : State) : State :=
  if (s.net n).indication then s
  else s.modNet n fun x =>
    { x with indication := true
             qualification := if x.up then x.qualification else s.qualifyTimer }

/-- The link indication of port `n` is lost, `back` saying whether it is already present again (R63). -/
def State.loseLink (s : State) (n : NetPort) (back : Bool) : State :=
  let up := (s.net n).up
  let s := s.modNet n fun x =>
    { x with up := false, indication := back, qualification := if back then s.qualifyTimer else none }
  if up then (s.cutOff n).post .linkState (.net n) 0 else s

/-- LINK_INDICATION_LOST: an UP port goes DOWN at once; a frame in reception is cut off and counted
(R63, R64). -/
def linkIndicationLost (n : NetPort) (cut back : Bool) (s : State) : State :=
  let x := s.net n
  if x.up || x.indication then
    let s :=
      if cut then s.modRx n fun c => { c with whileDown := bump c.whileDown } else s
    s.loseLink n back
  else s

/-- LINK_QUALIFICATION_EXPIRY: the port enters UP with the indication still present (R63). -/
def linkQualificationExpiry (n : NetPort) (s : State) : State :=
  let x := s.net n
  if !x.up && x.indication && s.due x.qualification then
    (s.modNet n fun x => { x with up := true, qualification := none }).post .linkState (.net n) 1
  else s

/-! ## Receive checks (R66, R67) -/

/-- Check 1: the length, no byte in error, and the frame check sequence (R66). -/
def frameSound (rxError : Bool) (bs : List Byte) : Bool :=
  64 ≤ bs.length && bs.length ≤ 2048 && !rxError
    && bs.drop (bs.length - 4) == fcsOf (bs.take (bs.length - 4))

/-- Step 3: the tag of a frame, and the bytes from the type field to the frame check sequence (R66). -/
def stripTag (bs : List Byte) : Option (BitVec 16) × List Byte :=
  let body := bs.take (bs.length - 4)
  if fieldAt body 12 2 = 0x8100 then
    (some (BitVec.ofNat 16 (fieldAt body 14 2)), body.drop 16)
  else (none, body.drop 12)

/-- Check 6: the payload length field agrees with the `present` bytes of a frame `total` bytes long
(R67). -/
def lengthAgrees (total present length : Nat) : Bool :=
  present == length || (total == 64 && length < present)

/-- Checks 5 and 6 on the bytes after the type field of a frame `total` bytes long: the header and the
payload (R67). -/
def readHeader (total : Nat) (bs : List Byte) : Option (Header × List Byte) :=
  match Header.ofBytes (bs.take 20) with
  | none => none
  | some h =>
    if lengthAgrees total (bs.length - 20) h.length then some (h, (bs.drop 20).take h.length) else none

/-- What the receive checks make of a frame (Table 25). -/
inductive Checked where
  | fcsError | notMine | otherType | malformed
  | passed (k : Packet)
deriving DecidableEq, Repr

/-- The receive checks of port `n`, in the order of Table 25 (R66, R67). DESIGN CHOICE: check 2 compares the 48
bits alone, so a station address set to a group address takes the frames sent to it (R65, log entry 63). -/
def State.checkFrame (s : State) (n : NetPort) (arrival : Time) (rxError : Bool) (bs : List Byte) :
    Checked :=
  if !frameSound rxError bs then .fcsError
  else if BitVec.ofNat 48 (fieldAt bs 0 6) != s.settings.station n then .notMine
  else
    let (tag, rest) := stripTag bs
    if fieldAt rest 0 2 != s.settings.bundleType then .otherType
    else match readHeader bs.length (rest.drop 2) with
      | none => .malformed
      | some (h, payload) =>
        .passed ⟨n, arrival, BitVec.ofNat 48 (fieldAt bs 6 6), tag, (rest.drop 2).take 20, h, payload⟩

/-! ## Classification and the delivery checks (R69, R70, R77) -/

/-- An entry matches a label under its mask (R69). -/
def Entry.covers (x : Entry) (label : Nat) : Bool := label &&& x.mask == x.label &&& x.mask

/-- The position of the deciding entry: the first that is enabled and matches (R69). -/
def decidingPosition (xs : List ListEntry) (label : Nat) : Option Nat :=
  xs.findIdx? fun x => x.entry.enabled && x.entry.covers label

/-- The lowest-numbered bundle whose active record expects a label (R70). -/
def State.bundleFor (s : State) (label : Nat) : Option BundleId :=
  allBundles.find? fun b => ((s.bun b).active.map fun r => r.rxLabel) == some label

/-- What a deciding entry's action makes of a packet (R70). -/
inductive Delivered where
  | discard
  | unmatched
  | to (b : BundleId)
deriving DecidableEq, Repr

/-- A deciding entry's action on a packet (R70). -/
def State.act (s : State) (a : Action) (label : Nat) : Delivered :=
  match a with
  | .discard => .discard
  | .deliverFixed b => .to b
  | .deliverByLabel =>
    match s.bundleFor label with
    | some b => .to b
    | none => .unmatched

/-- The delivery checks of a bundle, in the order of Table 29 (R77). -/
def Bundle.judge (x : Bundle) (k : Packet) : PacketOutcome :=
  match x.active with
  | none => .inactive
  | some r =>
    if !x.state.running then .inactive
    else if k.header.path != r.portMap.pathOf k.port then .misrouted
    else if k.header.length != r.slots.count * r.fpp then .wrongSize
    else .accepted

/-- What becomes of a decided packet, and the bundle chosen, if any (R70, R77). -/
def State.judge (s : State) (k : Packet) : Delivered → PacketOutcome × Option BundleId
  | .discard => (.listDiscard, none)
  | .unmatched => (.unmatched, none)
  | .to b => ((s.bun b).judge k, some b)

/-! ## Counting (R69, R70, R77, R80) -/

/-- The hit count of the entry at a position is incremented (R69). -/
def State.countHit (s : State) (n : NetPort) (pos : Nat) : State :=
  s.modNet n fun x =>
    { x with list := x.list.modify pos fun e => { e with hits := bump e.hits } }

/-- The port counter of a decided packet (Table 30). -/
def RxCounters.count (c : RxCounters) : Delivered → RxCounters
  | .discard => { c with listDiscard := bump c.listDiscard }
  | .unmatched => { c with unmatched := bump c.unmatched }
  | .to _ => { c with delivered := bump c.delivered }

/-- The bundle counter of a delivered packet (Table 31). -/
def Delivery.count (c : Delivery) : PacketOutcome → Delivery
  | .accepted => { c with accepted := bump c.accepted }
  | .inactive => { c with inactive := bump c.inactive }
  | .misrouted => { c with misrouted := bump c.misrouted }
  | .wrongSize => { c with wrongSize := bump c.wrongSize }
  | .unmatched => c
  | .listDiscard => c

/-- The delivery counters of bundle `b` take a delivered packet's outcome. -/
def State.countDelivery (s : State) (b : BundleId) (o : PacketOutcome) : State :=
  s.modBun b fun x => { x with delivery := x.delivery.count o }

/-! ## Capture (R75) -/

/-- The content a packet leaves in a slot (Table 28). -/
def Packet.captured (k : Packet) (pos : Nat) (a : Action) (verdict : PacketOutcome × Option BundleId) :
    Captured where
  port := k.port
  position := pos
  action := a
  outcome := verdict.1
  chosen := verdict.2
  arrival := k.arrival
  source := k.source
  tag := k.tag
  header := k.raw
  payload := k.payload.take 64 ++ List.replicate (64 - k.payload.length) 0

/-- The deciding entry's capture slot takes the packet: an ARMED slot is filled and CAPTURE_FULL
posted, a FULL one is marked Missed (R75). -/
def State.capture (s : State) (slot : Option CaptureId) (x : Captured) : State :=
  match slot with
  | none => s
  | some c =>
    match s.captures[c].state with
    | .empty => s
    | .armed =>
      { s with captures := s.captures.set c ⟨.full x, false⟩ }.post .captureFull (.capture c)
        (x.port.code * 256 + x.position)
    | .full y => { s with captures := s.captures.set c ⟨.full y, true⟩ }

/-! ## Acceptance (R78) -/

/-- The delay unit takes an accepted packet: the echo state, and a sample where Echo Valid is 1 (R111,
R113). -/
def State.measure (s : State) (b : BundleId) (r : Record) (k : Packet) : State :=
  let h := k.header
  let s := s.updateEcho b h.path h.origin k.arrival
  if h.echoValid then s.takeSample b r h.path (roundTrip k.arrival h.echoOrigin h.echoDwell)
  else s.countUnechoed b h.path

/-- An accepted packet is handed to the delay unit, the path supervisor and the playout store, in that
order (R78, log entry 3). -/
def State.accept (s : State) (b : BundleId) (k : Packet) : State :=
  match (s.bun b).active with
  | none => s
  | some r =>
    let s := s.measure b r k
    let s := s.acceptOnPath b r k.header.path k.header.rxFault k.header.playing
    s.place b r k

/-- A delivered packet is counted in its bundle and, where the delivery checks pass, accepted (R77,
R78). -/
def State.deliver (s : State) (k : Packet) (verdict : PacketOutcome × Option BundleId) : State :=
  match verdict.2 with
  | none => s
  | some b =>
    let s := s.countDelivery b verdict.1
    if verdict.1 = .accepted then s.accept b k else s

/-- A classified packet is decided by the entry at position `pos` (R69, R70, R75, R77). -/
def State.decidePacket (s : State) (k : Packet) (pos : Nat) (e : Entry) : State :=
  let d := s.act e.action k.header.label
  let verdict := s.judge k d
  let s := s.countHit k.port pos
  let s := s.capture e.capture (k.captured pos e.action verdict)
  let s := s.modRx k.port fun c => c.count d
  s.deliver k verdict

/-- A classified packet is handed to its port's acceptance list (R68, R69). -/
def State.classify (s : State) (k : Packet) : State :=
  let list := (s.net k.port).list
  match decidingPosition list k.header.label with
  | none => s.modRx k.port fun c => { c with unmatched := bump c.unmatched }
  | some pos =>
    match list[pos]? with
    | none => s
    | some e => s.decidePacket k pos e.entry

/-- The arrival time of a frame taken now (R64, R110): the time count at its first byte, a frame's length
before it is taken. DEDUCED: that length is one tick for each byte at 1000 Mbit/s (log entry 23). -/
def State.arrivalOf (s : State) (bs : List Byte) : Time := s.timeCount - BitVec.ofNat 32 bs.length

/-- FRAME_TAKEN: a frame is checked, classified and delivered, or counted as received while down (R64
to R78). -/
def frameTaken (n : NetPort) (rxError : Bool) (bs : List Byte) (s : State) : State :=
  if (s.net n).up then
    match s.checkFrame n (s.arrivalOf bs) rxError bs with
    | .fcsError => s.modRx n fun c => { c with fcsError := bump c.fcsError }
    | .notMine => s.modRx n fun c => { c with notMine := bump c.notMine }
    | .otherType => s.modRx n fun c => { c with otherType := bump c.otherType }
    | .malformed => s.modRx n fun c => { c with malformed := bump c.malformed }
    | .passed k => s.classify k
  else s.modRx n fun c => { c with whileDown := bump c.whileDown }

/-! ## List edits (R71 to R73) -/

/-- A list edit of port `port`: the claim, then the edit, which answers the new list or a refusal (R71,
R72). -/
def State.editList (s : State) (cp : CtrlPort) (kind port : Nat)
    (edit : List ListEntry → Except Status (List ListEntry)) : State :=
  if s.loading then s.refuse cp kind .loading
  else match netOf port with
    | none => s.refuse cp kind .badValue
    | some n =>
      if s.holder (.list n) != some cp then s.refuse cp kind .notHeld
      else match edit (s.net n).list with
        | .error status => s.refuse cp kind status
        | .ok xs =>
          (s.modNet n fun x => { x with list := xs }).decide cp kind .ok (bytesOf 1 xs.length)

/-- The edit of LIST_INSERT (R71 steps 4 to 6, R72). -/
def insertEdit (pos : Nat) (raw : RawEntry) (xs : List ListEntry) :
    Except Status (List ListEntry) :=
  if xs.length < pos then .error .badValue
  else match raw.typed with
    | none => .error .badValue
    | some e =>
      if Config.listEntries ≤ xs.length then .error .noSpace
      else .ok (xs.take pos ++ ⟨e, 0⟩ :: xs.drop pos)

/-- The edit of LIST_REMOVE (R71 step 4, R72). -/
def removeEdit (pos : Nat) (xs : List ListEntry) : Except Status (List ListEntry) :=
  if xs.length ≤ pos then .error .badValue else .ok (xs.eraseIdx pos)

/-- The edit of LIST_REPLACE (R71 steps 4 and 5, R72). -/
def replaceEdit (pos : Nat) (raw : RawEntry) (xs : List ListEntry) :
    Except Status (List ListEntry) :=
  if xs.length ≤ pos then .error .badValue
  else match raw.typed with
    | none => .error .badValue
    | some e => .ok (xs.set pos ⟨e, 0⟩)

/-- LIST_INSERT (R71, R72). -/
def listInsert (cp : CtrlPort) (port pos : Nat) (raw : RawEntry) (s : State) : State :=
  s.editList cp kindListInsert port (insertEdit pos raw)

/-- LIST_REMOVE (R71, R72). -/
def listRemove (cp : CtrlPort) (port pos : Nat) (s : State) : State :=
  s.editList cp kindListRemove port (removeEdit pos)

/-- LIST_REPLACE (R71, R72). -/
def listReplace (cp : CtrlPort) (port pos : Nat) (raw : RawEntry) (s : State) : State :=
  s.editList cp kindListReplace port (replaceEdit pos raw)

/-- LIST_READ: the count, and each entry with its hit count (R73). -/
def listRead (cp : CtrlPort) (port : Nat) (s : State) : State :=
  match netOf port with
  | none => s.refuse cp kindListRead .badValue
  | some n =>
    let xs := (s.net n).list
    s.decide cp kindListRead .ok
      (bytesOf 1 xs.length ++ xs.flatMap fun x => x.entry.raw.bytes ++ bytesOf 4 x.hits)

/-! ## Capture requests (R74, R76) -/

/-- CAPTURE_ARM (R74). -/
def captureArm (cp : CtrlPort) (slot : Nat) (s : State) : State :=
  match captureOf slot with
  | none => s.refuse cp kindCaptureArm .badValue
  | some c =>
    { s with captures := s.captures.set c ⟨.armed, false⟩ }.decide cp kindCaptureArm .ok []

/-- The read-out of a full slot, bit 12 of its tag sent 0 (Table 74, R181). -/
def Captured.bytes (x : Captured) (missed : Bool) : List Byte :=
  [2, flagByte missed] ++ bytesOf 1 x.port.code ++ bytesOf 1 x.position
    ++ bytesOf 1 x.action.codes.1 ++ bytesOf 1 x.action.codes.2 ++ bytesOf 1 x.outcome.code
    ++ bytesOf 1 ((x.chosen.map Fin.val).getD 0) ++ bytesOf 4 x.arrival.toNat
    ++ addressBytes x.source ++ optBytes 2 (x.tag.map fun g => (g &&& 0xEFFF).toNat) ++ x.header ++ x.payload

/-- The read-out of a capture slot (R76, spec/10 10.4). -/
def Capture.bytes (x : Capture) : List Byte :=
  match x.state with
  | .empty => [0]
  | .armed => [1]
  | .full content => content.bytes x.missed

/-- CAPTURE_READ (R76). -/
def captureRead (cp : CtrlPort) (slot : Nat) (s : State) : State :=
  match captureOf slot with
  | none => s.refuse cp kindCaptureRead .badValue
  | some c => s.decide cp kindCaptureRead .ok s.captures[c].bytes

/-! ## PORT_STATUS (R80) -/

/-- The receive counters in the order of Table 30. -/
def RxCounters.bytes (c : RxCounters) : List Byte :=
  bytesOf 4 c.whileDown ++ bytesOf 4 c.fcsError ++ bytesOf 4 c.notMine ++ bytesOf 4 c.otherType
    ++ bytesOf 4 c.malformed ++ bytesOf 4 c.unmatched ++ bytesOf 4 c.listDiscard
    ++ bytesOf 4 c.delivered

/-- The transmit counters in the order of Table 21. -/
def TxCounters.bytes (c : TxCounters) : List Byte :=
  bytesOf 4 c.joined ++ bytesOf 4 c.evicted ++ bytesOf 4 c.dropped ++ bytesOf 4 c.withdrawn
    ++ bytesOf 4 c.flushed ++ bytesOf 4 c.sent ++ bytesOf 4 c.aborted

/-- The transmitter is SENDING, through the gap after a frame as well (R60). -/
def Transmitter.isSending : Transmitter → Bool
  | .idle => false
  | .sending _ | .gap => true

/-- What PORT_STATUS gives of port `n` (R62, R80). -/
def State.portBytes (s : State) (n : NetPort) : List Byte :=
  let x := s.net n
  [flagByte x.up, flagByte x.qualification.isSome] ++ addressBytes (s.settings.station n)
    ++ bytesOf 2 s.settings.bundleType ++ x.rx.bytes ++ bytesOf 1 x.list.length ++ x.tx.bytes
    ++ bytesOf 1 x.protection.length ++ bytesOf 1 x.priority.length ++ bytesOf 1 x.routine.length
    ++ [flagByte x.transmitter.isSending]

/-- PORT_STATUS (R80). -/
def portStatus (cp : CtrlPort) (port : Nat) (s : State) : State :=
  match netOf port with
  | none => s.refuse cp kindPortStatus .badValue
  | some n => s.decide cp kindPortStatus .ok (s.portBytes n)

/-! ## Warm reset (R62, R81) -/

/-- A network port after a warm reset, its queues and its transmitter emptied, `timer` being the
qualification time from now (R62, R81). DESIGN CHOICE: a frame in reception, which R81 discards without
counting, is no state here, and is discarded by its FRAME_TAKEN not being sent (log entry 64). -/
def Net.warm (x : Net) (timer : Timer) : Net where
  up := false
  indication := x.indication
  qualification := if x.indication then timer else none
  list := x.list.map fun e => { e with hits := 0 }
  protection := []
  priority := []
  routine := []
  transmitter := .idle
  rx := .zero
  tx := .zero

end Sys2Proof.Machine
end

