-- ==== Sys2Proof/Machine/Status.lean ====
section
/-!
DEFINITION. Status: READ_PLAYOUT, READ_DELAY and READ_PATH (R108, R131, R149). Fields stand in the
order of their rules, in the widths of R181 (log entry 12).
-/

namespace Sys2Proof.Machine

/-- The request kind codes of this file (R180). -/
def kindReadPlayout : Nat := 12
def kindReadDelay : Nat := 13
def kindReadPath : Nat := 16

/-! ## READ_PLAYOUT (R108) -/

/-- The target in force: none for a FREE bundle (R131). -/
def Bundle.targetInForce (x : Bundle) : Option Nat := x.active.map fun _ => x.delay.target

/-- The effective max depth of a bundle with an active record (R121). DESIGN CHOICE: READ_PLAYOUT and
READ_DELAY give 0 of a FREE bundle, which no rule states (R108, R131, log entry 51). -/
def Bundle.effectiveMax (x : Bundle) : Nat :=
  match x.active with
  | none => 0
  | some r => Machine.effectiveMax r x.ringSize

/-- The fill of a bundle as it stands (R90). -/
def Bundle.fill (x : Bundle) : Nat :=
  match x.active with
  | none => 0
  | some r => x.playout.fill r.fpp

/-- The remaining count of COUNTDOWN, max(0, C − E) (R94). DESIGN CHOICE: outside COUNTDOWN, where R94 gives
none, READ_PLAYOUT gives 0 without a presence byte (R108, R181, log entry 50). -/
def Bundle.remaining (x : Bundle) : Nat :=
  match x.active with
  | none => 0
  | some r =>
    if x.playout.phase = .countdown then startValue x.delay.target r.fpp - x.playout.startCount
    else 0

/-- A running depth adjustment: its target and the direction of its last step (R103). DESIGN CHOICE: the
direction has a presence byte of its own and is absent before the first step (log entry 52), and whether
an adjustment runs is the presence byte of the target (log entry 60). -/
def adjustBytes : Option Adjust → List Byte
  | none => 0 :: (bytesOf 2 0 ++ optBytes 1 none)
  | some a => 1 :: (bytesOf 2 a.target ++ optBytes 1 (a.lastStep.map Direction.code))

/-- The held packets in increasing distance from the head (R108). -/
def Playout.heldList (p : Playout) : List RingSlot :=
  match p.head with
  | none => []
  | some h =>
    (List.range p.ring.length).filterMap fun i => p.slotFor (h + BitVec.ofNat 16 i)

/-- One held packet of the held list (R108). -/
def RingSlot.bytes (x : RingSlot) : List Byte :=
  bytesOf 2 x.seq.toNat ++ bytesOf 1 x.path.code ++ [flagByte x.originFault]
    ++ bytesOf 4 x.arrival.toNat

/-- The counters in the order of Table 39. -/
def PlayCounters.bytes (c : PlayCounters) : List Byte :=
  [c.stored, c.late, c.mergeCopy, c.duplicate, c.early, c.standby, c.resyncs, c.slipped, c.played,
    c.playedPath1, c.playedPath2, c.originFaultPlayed, c.missing, c.underruns, c.inserted, c.skipped,
    c.parityFrames].flatMap (bytesOf 4)

/-- The copies of a held packet still queued: East, West or both, by position (Table 17). -/
def HeldTx.copies (x : HeldTx) : Nat := if x.east then (if x.west then 2 else 0) else 1

/-- The transmit counters and assembly items of R61. -/
def Assembly.bytes (a : Assembly) : List Byte :=
  [a.completed, a.originFaults, a.queued, a.notOffered, a.superseded].flatMap (bytesOf 4)
    ++ bytesOf 2 a.seq.toNat ++ bytesOf 1 a.frames ++ [flagByte a.faultMark]
    ++ bytesOf 1 a.held.length
    ++ a.held.flatMap fun h => bytesOf 2 h.seq.toNat ++ bytesOf 1 h.copies

/-- The counters in the order of Table 31. -/
def Delivery.bytes (c : Delivery) : List Byte :=
  [c.accepted, c.inactive, c.misrouted, c.wrongSize].flatMap (bytesOf 4)

/-- What READ_PLAYOUT gives of bundle `b` (R108). DESIGN CHOICE: the ring size of a FREE bundle is 0, in two
bytes without a presence byte (log entry 57), and its ring and assembly items are those of an emptied ring
and an assembly at its start (log entry 49). -/
def State.playoutBytes (s : State) (b : BundleId) : List Byte :=
  let x := s.bun b
  let p := x.playout
  bytesOf 1 x.state.code ++ bytesOf 2 x.ringSize ++ bytesOf 2 x.effectiveMax ++ bytesOf 2 s.poolFree
    ++ optBytes 2 (p.head.map BitVec.toNat) ++ bytesOf 1 p.period.code ++ bytesOf 1 p.played
    ++ bytesOf 2 x.fill ++ bytesOf 1 p.phase.code ++ bytesOf 2 x.remaining
    ++ [flagByte p.estimateWait.isSome] ++ bytesOf 1 p.earlyRun ++ adjustBytes p.adjust
    ++ optBytes 2 x.targetInForce
    ++ bytesOf 2 p.heldList.length ++ p.heldList.flatMap RingSlot.bytes
    ++ p.counters.bytes
    ++ bytesOf 4 ((p.residence.map Prod.fst).getD 0) ++ bytesOf 4 ((p.residence.map Prod.snd).getD 0)
    ++ x.assembly.bytes ++ x.delivery.bytes

/-- READ_PLAYOUT (R108). -/
def readPlayout (cp : CtrlPort) (b : Nat) (s : State) : State :=
  match bundleOf b with
  | none => s.refuse cp kindReadPlayout .badValue
  | some b => s.decide cp kindReadPlayout .ok (s.playoutBytes b)

/-! ## READ_DELAY (R131) -/

/-- The echo state of a path (Table 43). -/
def Echo.bytes (e : Echo) : List Byte :=
  bytesOf 4 e.origin.toNat ++ bytesOf 4 e.arrival.toNat ++ [yesNoByte e.valid]

/-- The delay record of a path and its counters (Tables 44 and 48). -/
def DelayRecord.bytes (x : DelayRecord) : List Byte :=
  [flagByte x.tracking] ++ bytesOf 4 x.lastRtt ++ bytesOf 4 x.baseline ++ signedBytes 4 x.difference
    ++ bytesOf 4 x.minimum ++ bytesOf 4 x.maximum ++ bytesOf 1 x.stepRun
    ++ [x.samples, x.implausible, x.unechoed, x.routeSteps, x.echoExpiries].flatMap (bytesOf 4)

/-- The path whose baseline gives a bundle's estimate, if there is one (R120). -/
def Bundle.estimatePath (x : Bundle) : Option Path :=
  x.active.bind fun r => x.delay.estimatePath r.pathMode x.supervisor.selector.active

/-- The estimate and its path, or no estimate (R131). -/
def Bundle.estimateBytes (x : Bundle) : List Byte :=
  match x.estimatePath with
  | none => 0 :: bytesOf 4 0
  | some p => 1 :: (bytesOf 3 (oneWay (x.delay.record.atPath p).baseline) ++ bytesOf 1 p.code)

/-- What READ_DELAY gives of bundle `b` and path `p` (R131). DESIGN CHOICE: the alert-timer cause of the
delay alert is the presence byte of the time the timer has left (log entry 60). -/
def State.delayBytes (s : State) (b : BundleId) (p : Path) : List Byte :=
  let x := s.bun b
  let d := x.delay
  (d.echo.atPath p).bytes ++ (d.record.atPath p).bytes
    ++ bytesOf 1 ((x.active.map fun r => r.delayMode.code).getD 0) ++ x.estimateBytes
    ++ optBytes 2 x.targetInForce ++ optBytes 2 d.proposed ++ bytesOf 2 x.effectiveMax
    ++ [flagByte d.short, flagByte d.long] ++ signedBytes 2 d.rawDepth ++ [flagByte x.delayAlert]
    ++ optBytes 2 (s.msLeft d.alertTimer)
    ++ [flagByte x.playout.adjust.isSome, flagByte x.supervisor.selector.mismatch]
    ++ bytesOf 4 s.timeCount.toNat

/-- READ_DELAY (R131). -/
def readDelay (cp : CtrlPort) (b p : Nat) (s : State) : State :=
  match bundleOf b, pathOf p with
  | some b, some p => s.decide cp kindReadDelay .ok (s.delayBytes b p)
  | _, _ => s.refuse cp kindReadDelay .badValue

/-! ## READ_PATH (R149) -/

/-- What READ_PATH gives of one path (R149). -/
def State.pathRecordBytes (s : State) (x : PathRecord) : List Byte :=
  bytesOf 1 x.state.code ++ optBytes 1 (s.msLeft x.lossTimer) ++ [yesNoByte x.farFlag]
    ++ [flagByte x.signalFail] ++ [x.ups, x.losses, x.onsets].flatMap (bytesOf 4)

/-- The usable paths of a bundle (spec/07 7.2), in the codes of Playing Path. DESIGN CHOICE: NONE of a FREE
bundle, which has no path mode (R149, log entry 54). -/
def Bundle.usablePaths (x : Bundle) : PlayingPath :=
  match x.active with
  | none => .none
  | some r => playingPath .playing r.pathMode x.supervisor.selector.active

/-- The down condition of a bundle in a running state (R138). DESIGN CHOICE: READ_PATH gives it as false of a
STOPPED or FREE bundle, for which R138 defines none (R149, log entry 54). -/
def Bundle.isDown (x : Bundle) : Bool :=
  match x.active with
  | none => false
  | some r => x.state.running && x.supervisor.downCondition r.pathMode

/-- The Playing Path that a copy starting now would send (R59). DESIGN CHOICE: NONE of a STOPPED or FREE
bundle, which sends no copy and has no row in Table 20a (R149, log entry 54). -/
def Bundle.announces (x : Bundle) : PlayingPath :=
  match x.active with
  | none => .none
  | some r => playingPath x.state r.pathMode x.supervisor.selector.active

/-- The far-end announcement by its position in Table 52: none held, NONE, 1, 2, BOTH. -/
def announcementPlace : Option PlayingPath → Nat
  | none => 0
  | some a => a.code + 1

/-- What READ_PATH gives of bundle `b` (R149). DESIGN CHOICE: whether the start wait runs is the presence
byte of the time it has left (log entry 60). -/
def State.pathBytes (s : State) (b : BundleId) : List Byte :=
  let x := s.bun b
  let sup := x.supervisor
  let sel := sup.selector
  s.pathRecordBytes sup.path.one ++ s.pathRecordBytes sup.path.two
    ++ bytesOf 1 ((x.active.map fun r => r.pathMode.code).getD 0) ++ bytesOf 1 x.usablePaths.code
    ++ [flagByte x.isDown] ++ optBytes 1 (s.msLeft sup.startWait) ++ bytesOf 1 sel.active.code
    ++ bytesOf 1 sel.request.codes.1 ++ bytesOf 1 sel.request.codes.2
    ++ optBytes 2 (s.msLeft sel.holdOff) ++ optBytes 3 (s.msLeft sel.restore)
    ++ optBytes 1 (s.msLeft sel.mismatchTimer) ++ bytesOf 1 (announcementPlace sel.announcement)
    ++ [yesNoByte sel.mismatch] ++ bytesOf 1 x.announces.code ++ bytesOf 4 sel.switches
    ++ bytesOf 4 sel.mismatches

/-- READ_PATH (R149). -/
def readPath (cp : CtrlPort) (b : Nat) (s : State) : State :=
  match bundleOf b with
  | none => s.refuse cp kindReadPath .badValue
  | some b => s.decide cp kindReadPath .ok (s.pathBytes b)

end Sys2Proof.Machine
end

