-- ==== Sys2Proof/Machine/Control.lean ====
section
/-!
DEFINITION. Control: transfers, device settings, claims, events and fault records (chapter 9, R165 to
R174, R178).
-/

namespace Sys2Proof.Machine

/-- The request kind codes of this file (R180). -/
def kindReadIdentity : Nat := 1
def kindReadSettings : Nat := 2
def kindWriteSettings : Nat := 3
def kindOpenEdit : Nat := 4
def kindCloseEdit : Nat := 5
def kindReadEvents : Nat := 30
def kindReadFaults : Nat := 31
def kindClearFaults : Nat := 32

/-! ## Request writes (R165, R166, R180) -/

/-- A request frame as received: short or with a bad check byte, or good (R165, R166). -/
inductive RequestFrame where
  | bad (kind : Nat)
  | good (kind : Nat) (params : List Byte)
deriving DecidableEq, Repr

/-- The frame that the bytes after the direction byte hold; bytes after the check byte are ignored
(R165, R166, Table 71). -/
def readFrame (bs : List Byte) : RequestFrame :=
  let kind := fieldAt bs 0 1
  let n := fieldAt bs 1 2
  if bs.length < 4 + n then .bad kind
  else if checkOf (bs.take (3 + n)) != byteAt bs (3 + n) then .bad kind
  else .good kind ((bs.drop 3).take n)

/-- A request frame as a controller writes it, its check byte last (Table 71). -/
def requestFrame (kind : Nat) (params : List Byte) : List Byte :=
  let bs := bytesOf 1 kind ++ bytesOf 2 params.length ++ params
  bs ++ [checkOf bs]

/-- The port is WORKING. -/
def Ctrl.isWorking (c : Ctrl) : Bool :=
  match c.transfer with
  | .working _ => true
  | _ => false

/-- A frame received in WORKING is discarded, and Overrun set (R165, R166). -/
def Ctrl.overrunBy (c : Ctrl) : Ctrl := { c with overrun := true, overruns := bump c.overruns }

/-- A response becomes ready, with the Overrun flag, which is then cleared (R165). -/
def Ctrl.prepare (c : Ctrl) (r : Response) : Ctrl :=
  { c with transfer := .ready r c.overrun, overrun := false, outcome := none }

/-- A frame that gets BAD_FRAME (R166). -/
def Ctrl.badFrame (c : Ctrl) (kind : Nat) : Ctrl :=
  if c.isWorking then c.overrunBy
  else { c with badFrames := bump c.badFrames }.prepare ⟨kind, .badFrame, []⟩

/-- A request is taken: the port is WORKING and no outcome is decided, but for an unknown kind's (R165,
R166). -/
def Ctrl.take (c : Ctrl) (job : Job) : Ctrl :=
  { c with
    transfer := .working job
    taken := bump c.taken
    outcome := if job.command.isSome then none else some ⟨job.kind, .unknownKind, []⟩
    unknownKinds := if job.command.isSome then c.unknownKinds else bump c.unknownKinds }

/-- The parameter length of a kind fits; an unknown kind has none to fit (R166). -/
def lengthFits (kind n : Nat) : Bool :=
  match paramLength kind with
  | none => true
  | some m => m == n

/-- A good frame is received on port `cp` (R165, R166). -/
def Ctrl.receive (c : Ctrl) (cp : CtrlPort) (kind : Nat) (params : List Byte) : Ctrl :=
  if c.isWorking then c.overrunBy
  else if lengthFits kind params.length then c.take ⟨kind, requestOf cp kind params⟩
  else c.badFrame kind

/-- A good frame restarts the idle timer (R172). -/
def State.restartIdle (s : State) (cp : CtrlPort) : State :=
  s.modCtrl cp fun c => { c with idleTimer := s.afterSec s.settings.idleLimit }

/-- REQUEST_WRITE (R165, R166); a transfer that begins has released select, and so ended a response read
(log entry 67). -/
def requestWrite (cp : CtrlPort) (bs : List Byte) (s : State) : State :=
  let s := s.modCtrl cp fun c => { c with reading := none }
  match readFrame bs with
  | .bad kind => s.modCtrl cp fun c => c.badFrame kind
  | .good kind params => (s.restartIdle cp).modCtrl cp fun c => c.receive cp kind params

/-- RESPONSE_PREPARED: the outcome of the request being worked on is decided, and the port enters
RESPONSE_READY (R165). -/
def responsePrepared (cp : CtrlPort) (s : State) : State :=
  let c := s.ctrl cp
  match c.transfer, c.outcome with
  | .working job, some r => if r.kind = job.kind then s.modCtrl cp fun c => c.prepare r else s
  | _, _ => s

/-! ## Response reads (R167, Table 72) -/

/-- The response frame (Table 72, from offset 2). -/
def Response.bytes (r : Response) (overrun : Bool) : List Byte :=
  let bs := bytesOf 1 r.kind ++ bytesOf 1 r.status.code ++ [flagByte overrun]
    ++ bytesOf 2 r.content.length ++ r.content
  bs ++ [checkOf bs]

/-- The response frame a port delivers, none unless it is RESPONSE_READY. -/
def Ctrl.response (c : Ctrl) : Option (List Byte) :=
  match c.transfer with
  | .ready r overrun => some (r.bytes overrun)
  | _ => none

/-- The first `n` bytes of a run, 0xFF beyond its end. -/
def clocked (bs : List Byte) (n : Nat) : List Byte :=
  bs.take n ++ List.replicate (n - bs.length) 0xFF

/-- The response read in progress; a read begins with nothing sent (log entry 67). -/
def Ctrl.openRead (c : Ctrl) : ReadTransfer := c.reading.getD ⟨0, false, false⟩

/-- The response frame that the read delivers: the one held when Ready is sent. A response that becomes ready
later in the read is not delivered in it (R167). -/
def Ctrl.delivered (c : Ctrl) : Option (List Byte) :=
  let x := c.openRead
  if x.cut then none else if x.sent = 0 || x.delivering then c.response else none

/-- The bytes of the read before it gives 0xFF: the prefix and, where Ready, the response (R167); none in a
read that a warm reset has cut (R177). -/
def Ctrl.readOut (c : Ctrl) : List Byte :=
  if c.openRead.cut then []
  else [flagByte c.delivered.isSome] ++ bytesOf 1 c.queue.length ++ c.delivered.getD []

/-- The next `n` bytes of the read (R167). -/
def Ctrl.readBytes (c : Ctrl) (n : Nat) : List Byte :=
  (clocked c.readOut (c.openRead.sent + n)).drop c.openRead.sent

/-- The last byte of the response, its check byte, is among the next `n` (R167). -/
def Ctrl.completes (c : Ctrl) (n : Nat) : Bool :=
  c.delivered.isSome && c.openRead.sent < c.readOut.length
    && c.readOut.length ≤ c.openRead.sent + n

/-- The next `n` bytes of a response read; the port is IDLE once the check byte is out (R167). -/
def Ctrl.read (c : Ctrl) (n : Nat) (ends : Bool) : Ctrl :=
  { c with
    dataOut := (if c.reading.isSome then c.dataOut else []) ++ c.readBytes n
    transfer := if c.completes n then .idle else c.transfer
    reading :=
      if ends then none
      else some ⟨c.openRead.sent + n, c.delivered.isSome && !c.completes n, c.openRead.cut⟩ }

/-- RESPONSE_READ (R167). -/
def responseRead (cp : CtrlPort) (piece : ReadPiece) (s : State) : State :=
  s.modCtrl cp fun c => c.read piece.bytes piece.ends

/-- TRANSFER_IGNORED: data-out stays at 1, no state changes (R165); a response read left open has ended (log
entry 67). -/
def transferIgnored (cp : CtrlPort) (dir : Byte) (n : Nat) (s : State) : State :=
  if dir = 0x5A || dir = 0xA5 then s
  else s.modCtrl cp fun c => { c with reading := none, dataOut := List.replicate n 0xFF }

/-! ## Device settings (R170) -/

/-- The settings in their raw form. -/
def Settings.raw (x : Settings) : RawSettings := ⟨x.east, x.west, x.bundleType, x.idleLimit⟩

/-- The settings a write leaves, its idle limit clamped (R170). -/
def writtenSettings (x : RawSettings) : Settings :=
  ⟨x.east, x.west, x.bundleType, clampIdle x.idleLimit⟩

/-- WRITE_SETTINGS (R170). DESIGN CHOICE: the OK response and the CLAMPED one both carry the four fields of
Table 65 as they stand after the write; R170 lists no content (Table 63, R181, log entry 65). -/
def writeSettings (cp : CtrlPort) (raw : RawSettings) (s : State) : State :=
  if s.loading then s.refuse cp kindWriteSettings .loading
  else if s.holder .settings != some cp then s.refuse cp kindWriteSettings .notHeld
  else if !bundleTypeValid raw.bundleType then s.refuse cp kindWriteSettings .badValue
  else
    { s with settings := writtenSettings raw }.decide cp kindWriteSettings
      (if clampIdle raw.idleLimit = raw.idleLimit then .ok else .clamped) (writtenSettings raw).raw.bytes

/-- READ_SETTINGS (R170). -/
def readSettings (cp : CtrlPort) (s : State) : State :=
  s.decide cp kindReadSettings .ok
    (s.settings.raw.bytes ++ (allSections.flatMap fun sec => bytesOf 1 (holderCode (s.holder sec)))
      ++ optBytes 2 (s.msLeft (s.ctrl .cp1).idleTimer)
      ++ optBytes 2 (s.msLeft (s.ctrl .cp2).idleTimer))

/-! ## Claims (R171, R172) -/

/-- OPEN_EDIT (R171). -/
def openEdit (cp : CtrlPort) (raw : RawSection) (s : State) : State :=
  if s.loading then s.refuse cp kindOpenEdit .loading
  else match raw.typed with
    | none => s.refuse cp kindOpenEdit .badValue
    | some sec =>
      if s.holder sec = some cp.other then s.refuse cp kindOpenEdit .heldElsewhere
      else (s.setHolder sec (some cp)).decide cp kindOpenEdit .ok []

/-- A section's claim is tied to an armed activation (R22). -/
def State.armedSection (s : State) : Section → Bool
  | .bundle b => (s.bun b).armed.isSome
  | _ => false

/-- A claim is released; a bundle's pending record returns to its active record (R22, R171). -/
def State.release (s : State) (sec : Section) : State :=
  let s := s.setHolder sec none
  match sec with
  | .bundle b => s.modBun b Bundle.returnPending
  | _ => s

/-- CLOSE_EDIT (R171, R22). -/
def closeEdit (cp : CtrlPort) (raw : RawSection) (s : State) : State :=
  if s.loading then s.refuse cp kindCloseEdit .loading
  else match raw.typed with
    | none => s.refuse cp kindCloseEdit .badValue
    | some sec =>
      if s.holder sec != some cp then s.refuse cp kindCloseEdit .notHeld
      else if s.armedSection sec then s.refuse cp kindCloseEdit .badState
      else (s.release sec).decide cp kindCloseEdit .ok []

/-- The sections an idle expiry of port `cp` releases (R172, R22). -/
def State.expiring (s : State) (cp : CtrlPort) : List Section :=
  allSections.filter fun sec => s.holder sec == some cp && !s.armedSection sec

/-- IDLE_TIMER_EXPIRY: the running timer stops and the port's claims are released (R172). -/
def idleTimerExpiry (cp : CtrlPort) (s : State) : State :=
  if s.due (s.ctrl cp).idleTimer then
    let s := s.modCtrl cp fun c => { c with idleTimer := none }
    let gone := s.expiring cp
    (gone.foldl State.release s).postIf (!gone.isEmpty) .claimExpired (.ctrl cp) gone.length
  else s

/-! ## Events (R173) -/

/-- An event record in 12 bytes (Table 73). -/
def Event.bytes (e : Event) : List Byte :=
  bytesOf 1 e.kind.code ++ [0] ++ bytesOf 2 e.subject.code ++ bytesOf 4 e.time
    ++ bytesOf 4 e.detail.toNat

/-- The most records one READ_EVENTS gives (R173). -/
def eventsPerRead : Nat := 8

/-- A queue after a READ_EVENTS at event time `time`: the oldest records removed, EVENTS_LOST appended
where the Lost marker was set (R173). -/
def Ctrl.drain (c : Ctrl) (cp : CtrlPort) (time : Nat) : Ctrl :=
  let rest := c.queue.drop eventsPerRead
  if c.lost then
    { c with
      queue := rest ++ [⟨.eventsLost, .ctrl cp, time, BitVec.ofNat 32 c.lostCount⟩]
      lost := false
      lostCount := 0 }
  else { c with queue := rest }

/-- What READ_EVENTS gives: the count, the number left, the records (R173, spec/10 10.3). -/
def Ctrl.eventBytes (c : Ctrl) : List Byte :=
  let given := c.queue.take eventsPerRead
  bytesOf 1 given.length ++ bytesOf 1 (c.queue.drop eventsPerRead).length
    ++ given.flatMap Event.bytes

/-- READ_EVENTS (R173). -/
def readEvents (cp : CtrlPort) (s : State) : State :=
  (s.modCtrl cp fun c => c.drain cp s.eventTime).decide cp kindReadEvents .ok
    (s.ctrl cp).eventBytes

/-! ## Faults (R174) -/

/-- A fault record that may be empty (Table 68, R181). DESIGN CHOICE: its subject is coded as an event's, in
two bytes of class and number (R174, spec/10 10.3, log entry 56). -/
def faultBytes : Option FaultRecord → List Byte
  | none => 0 :: List.replicate 9 0
  | some f =>
    1 :: (bytesOf 1 f.kind.code ++ bytesOf 2 (faultSubject f.subject).code ++ bytesOf 4 f.time
      ++ bytesOf 2 f.detail)

/-- READ_FAULTS (R174). -/
def readFaults (cp : CtrlPort) (s : State) : State :=
  s.decide cp kindReadFaults .ok
    (faultBytes s.faults.first ++ faultBytes s.faults.latest ++ bytesOf 1 s.faults.count)

/-- CLEAR_FAULTS (R174). -/
def clearFaults (cp : CtrlPort) (s : State) : State :=
  { s with faults := .none }.decide cp kindClearFaults .ok []

/-! ## Identity (R178) -/

/-- The outcome of the image load, in the order of R176 and then LOADING, and its cause or counts as
posted (R178, Table 73a). -/
def Load.codes : Load → Nat × Nat
  | .absentNoAnswer => (0, 0)
  | .absentNoMarker => (0, 1)
  | .rejected cause => (1, cause.code)
  | .loaded records refused => (2, records * 65536 + refused)
  | .loading => (3, 0)

/-- The four transfer counters of a control port (R168). -/
def Ctrl.counterBytes (c : Ctrl) : List Byte :=
  [c.taken, c.overruns, c.badFrames, c.unknownKinds].flatMap (bytesOf 4)

/-- READ_IDENTITY (R178). -/
def readIdentity (cp : CtrlPort) (s : State) : State :=
  s.decide cp kindReadIdentity .ok
    (bytesOf 2 Config.vendorCode.toNat ++ bytesOf 2 Config.partCode.toNat ++ [1]
      ++ bytesOf 4 s.timeCount.toNat ++ bytesOf 4 s.eventTime ++ bytesOf 1 s.load.codes.1
      ++ bytesOf 4 s.load.codes.2 ++ [flagByte s.save.isSome] ++ bytesOf 1 s.lastSave.code
      ++ (s.ctrl .cp1).counterBytes ++ (s.ctrl .cp2).counterBytes)

end Sys2Proof.Machine
end

