-- ==== Sys2Proof/Machine/Image.lean ====
section
/-!
DEFINITION. Image: the stored image, its save and its load (spec/09 9.7, R175, R176, R182, R183).
-/

namespace Sys2Proof.Machine

/-- The request kind code of SAVE_IMAGE (R180). -/
def kindSaveImage : Nat := 33

/-! ## Writing the image (R182) -/

/-- The marker of a stored image (R182). -/
def imageMarker : Nat := 0xC5A3B816

/-- A section: its code, its length and its content (R182). -/
def sectionBytes (code : Nat) (content : List Byte) : List Byte :=
  bytesOf 1 code ++ bytesOf 2 content.length ++ content

/-- The eight port configurations, each laid out as the parameters of TRIB_CONFIG (R182). -/
def State.tribSection (s : State) : List Byte :=
  allTribs.flatMap fun t => bytesOf 1 t.val ++ (s.trib t).cfg.raw.bytes

/-- The timing configuration and the mode (R182). -/
def State.timingSection (s : State) : List Byte :=
  timingBytes s.timing.raw ++ bytesOf 1 s.timing.mode.codes.1 ++ bytesOf 1 s.timing.mode.codes.2

/-- One acceptance list's entries, without their hit counts (R175). -/
def entriesBytes (xs : List ListEntry) : List Byte := xs.flatMap fun x => x.entry.raw.bytes

/-- Both lists: a count byte and the entries, East first (R182). -/
def State.listSection (s : State) : List Byte :=
  allNets.flatMap fun n => bytesOf 1 (s.net n).list.length ++ entriesBytes (s.net n).list

/-- The bundles whose active records a snapshot holds: those with one and without a record fault
(R175). -/
def State.savedBundles (s : State) : List (BundleId × Record) :=
  allBundles.filterMap fun b =>
    if (s.bun b).recordFault then none else (s.bun b).active.map fun r => (b, r)

/-- The bundle records left out of a snapshot: those with a record fault (R175). -/
def State.leftOut (s : State) : Nat :=
  (allBundles.filter fun b => (s.bun b).recordFault).length

/-- The bundle records: a count byte, and each bundle's number and record (R182). -/
def State.bundleSection (s : State) : List Byte :=
  let xs := s.savedBundles
  bytesOf 1 xs.length ++ xs.flatMap fun x => bytesOf 1 x.1.val ++ x.2.raw.bytes

/-- The five sections in the order of Table 69 (R183). -/
def State.imageSections (s : State) : List Byte :=
  sectionBytes 1 s.settings.raw.bytes ++ sectionBytes 2 s.tribSection
    ++ sectionBytes 3 s.timingSection ++ sectionBytes 4 s.listSection
    ++ sectionBytes 5 s.bundleSection

/-- An image of these sections: header and CRC (R182). -/
def sealImage (sections : List Byte) : List Byte :=
  let bs := bytesOf 4 imageMarker ++ [1, 0] ++ bytesOf 2 (sections.length + 10) ++ sections
  bs ++ bytesOf 2 (crc16 bs).toNat

/-- The image of the configuration as it stands (R175, R182). -/
def State.imageOf (s : State) : List Byte := sealImage s.imageSections

/-! ## Saving (R175) -/

/-- SAVE_IMAGE (R175). -/
def saveImage (cp : CtrlPort) (s : State) : State :=
  if s.loading then s.refuse cp kindSaveImage .loading
  else if s.save.isSome then s.refuse cp kindSaveImage .busy
  else
    { s with save := some ⟨s.imageOf, s.savedBundles.length, s.leftOut,
        s.afterSec Config.saveSeconds⟩ }.decide cp kindSaveImage .ok []

/-- The save state is IDLE again, with this outcome. -/
def State.endSave (s : State) (o : SaveOutcome) : State := { s with save := none, lastSave := o }

/-- A save fails: an IMAGE_FAULT is recorded and SAVE_FAILED posted (R175). -/
def State.failSave (s : State) (cause : ImageCause) : State :=
  ((s.endSave .failed).recordFault .imageFault none cause.code).post .saveFailed .none cause.code

/-- SAVE_READ_BACK: the image read back is compared with the snapshot (R175). -/
def saveReadBack (bs : List Byte) (s : State) : State :=
  match s.save with
  | none => s
  | some x =>
    if bs.take x.image.length = x.image then
      (s.endSave .done).post .saveDone .none
        (x.image.length * 65536 + x.saved * 256 + x.leftOut)
    else s.failSave .saveVerify

/-- SAVE_TIMEOUT: the save has not ended within 3 s (R175). -/
def saveTimeout (s : State) : State :=
  match s.save with
  | none => s
  | some x => if s.due x.limit then s.failSave .saveTimeout else s

/-! ## Reading the image (R176, R182, R183) -/

/-- A section as read; a section whose code is not 1 to 5 is skipped (R183). -/
inductive ImageSection where
  | settings (x : RawSettings)
  | tribs (xs : List (Nat × RawTribConfig))
  | timing (x : Vector RawPriority 9) (mode c : Nat)
  | lists (east west : List RawEntry)
  | bundles (xs : List (Nat × RawRecord))
  | skipped
deriving DecidableEq, Repr

/-- `k` items of `n` bytes each. -/
def itemsOf (n k : Nat) (bs : List Byte) : List (List Byte) :=
  (List.range k).map fun i => (bs.drop (n * i)).take n

/-- A count byte and that many items of `n` bytes, and the bytes after them; none where the count calls
for more bytes than there are (R176). -/
def countedItems (n : Nat) (bs : List Byte) : Option (List (List Byte) × List Byte) :=
  match bs with
  | [] => none
  | c :: rest =>
    if rest.length < n * c.toNat then none
    else some (itemsOf n c.toNat rest, rest.drop (n * c.toNat))

/-- The acceptance lists of a section, East first; none where a count calls for more bytes than the
section holds (R176, R182). -/
def readLists (bs : List Byte) : Option ImageSection := do
  let (east, rest) ← countedItems entryLength bs
  let (west, _) ← countedItems entryLength rest
  return .lists (east.map RawEntry.ofBytes) (west.map RawEntry.ofBytes)

/-- The bundle records of a section (R176, R182). -/
def readBundles (bs : List Byte) : Option ImageSection := do
  let (items, _) ← countedItems (recordLength + 1) bs
  return .bundles (items.map fun x => (fieldAt x 0 1, RawRecord.ofBytes (x.drop 1)))

/-- One section's content; none where its counts, or its fixed layout, call for more bytes than it
holds (R176, R182, R183, log entry 20). -/
def readSection (code : Nat) (bs : List Byte) : Option ImageSection :=
  match code with
  | 1 => if bs.length < 15 then none else some (.settings (.ofBytes bs))
  | 2 =>
    if bs.length < 72 then none
    else some (.tribs ((itemsOf 9 8 bs).map fun x => (fieldAt x 0 1, .ofBytes (x.drop 1))))
  | 3 =>
    if bs.length < 29 then none
    else some (.timing (timingOf bs) (fieldAt bs 27 1) (fieldAt bs 28 1))
  | 4 => readLists bs
  | 5 => readBundles bs
  | _ => some .skipped

/-- The sections in stored order; none where one runs past the CRC (R176, R183). -/
def readSections : (fuel : Nat) → List Byte → Option (List ImageSection)
  | _, [] => some []
  | 0, _ :: _ => none
  | fuel + 1, bs => do
    let n := fieldAt bs 1 2
    if bs.length < 3 + n then none
    else
      let x ← readSection (fieldAt bs 0 1) ((bs.drop 3).take n)
      let rest ← readSections fuel (bs.drop (3 + n))
      return x :: rest

/-- What the load's checks make of the bytes the memory delivers (R176). -/
inductive ImageCheck where
  | absent
  | rejected (cause : ImageCause)
  | passed (xs : List ImageSection)
deriving DecidableEq, Repr

/-- An image of `n` bytes; bytes the memory does not deliver read as ones (log entry 20). -/
def imageBody (bs : List Byte) (n : Nat) : List Byte := clocked bs n

/-- The checks of the image load: marker, version, length, CRC, sections (R176). DESIGN CHOICE: they are made
in that order, and the first that fails gives the cause (log entry 59). -/
def checkImage (bs : List Byte) : ImageCheck :=
  let n := fieldAt bs 6 2
  if fieldAt bs 0 4 ≠ imageMarker then .absent
  else if byteAt bs 4 ≠ 1 then .rejected .version
  else if n < 10 ∨ Config.imageBytes < n then .rejected .length
  else
    let body := imageBody bs n
    if (crc16 (body.take (n - 2))).toNat ≠ fieldAt body (n - 2) 2 then .rejected .crc
    else match readSections n ((body.take (n - 2)).drop 8) with
      | none => .rejected .length
      | some xs => .passed xs

/-! ## Applying the sections (R18, R42, R81, R164, R170, R183) -/

/-- The stored settings are applied field by field (Table 69). -/
def State.loadSettings (s : State) (x : RawSettings) : State :=
  { s with
    settings :=
      { writtenSettings x with
        bundleType :=
          if bundleTypeValid x.bundleType then x.bundleType else s.settings.bundleType } }

/-- One stored tributary configuration (R18). DESIGN CHOICE: it is applied to the port whose number it holds,
whatever its place in the section (R182, log entry 61). -/
def State.loadTrib (s : State) (x : Nat × RawTribConfig) : State :=
  match tribOf x.1, x.2.typed x.2.storedClock with
  | some t, some cfg => if s.kindRefused t cfg.kind then s else s.applyTrib t cfg
  | _, _ => s

/-- The stored timing configuration and mode (R164). -/
def State.loadTiming (s : State) (x : Vector RawPriority 9) (mode c : Nat) : State :=
  let y := s.timing.configure x
  { s with timing := { y with mode := (timingModeOf mode c).getD y.mode } }.evaluateTiming

/-- Entries installed one by one at the end of a list; those refused are left out (R81). -/
def installed (xs : List RawEntry) : List ListEntry :=
  ((xs.filterMap RawEntry.typed).take Config.listEntries).map fun e => ⟨e, 0⟩

/-- Both lists replaced by stored entries (R81, R183). -/
def State.loadLists (s : State) (east west : List RawEntry) : State :=
  (s.modNet .east fun x => { x with list := installed east }).modNet .west fun x =>
    { x with list := installed west }

/-- A stored record is refused: BUNDLE_STATE with cause LOAD_REFUSED (R42). -/
def State.loadRefused (s : State) (b : BundleId) (status : Status) : State :=
  let x := (s.bun b).state
  s.postBundleState b x x .loadRefused status.code

/-- Stored record `raw` for bundle `b`; answers whether it loaded (R42). -/
def State.loadRecord (s : State) (b : BundleId) (raw : RawRecord) : State × Bool :=
  if (s.bun b).active.isSome then (s.loadRefused b .badState, false)
  else match raw.stored with
    | none => (s.loadRefused b .badValue, false)
    | some (r, _) =>
      match s.validate b r with
      | .error status => (s.loadRefused b status, false)
      | .ok (r, size) => (s.takeEffect b r size, true)

/-- The state of a load, and the bundle records loaded and refused so far. -/
structure Progress where
  state : State
  loaded : Nat
  refused : Nat

/-- One stored pair of a bundle number and a record; a number above 63 names no bundle (R42, log entry
20). -/
def Progress.record (p : Progress) (x : Nat × RawRecord) : Progress :=
  match bundleOf x.1 with
  | none => { p with refused := p.refused + 1 }
  | some b =>
    let (s, ok) := p.state.loadRecord b x.2
    if ok then ⟨s, p.loaded + 1, p.refused⟩ else ⟨s, p.loaded, p.refused + 1⟩

/-- Stored pairs in ascending bundle number, those of one number in stored order (R42). -/
def ascending (xs : List (Nat × RawRecord)) : List (Nat × RawRecord) :=
  (List.range 256).flatMap fun n => xs.filter fun x => x.1 == n

/-- A section's place in the order of Table 69; a skipped section has none. -/
def ImageSection.order : ImageSection → Nat
  | .skipped => 0
  | .settings _ => 1
  | .tribs _ => 2
  | .timing _ _ _ => 3
  | .lists _ _ => 4
  | .bundles _ => 5

/-- Sections as the load applies them: in the order of Table 69 (R42, R176), those of one kind in stored
order (R183, log entry 62). -/
def tableOrder (xs : List ImageSection) : List ImageSection :=
  (List.range 6).flatMap fun n => xs.filter fun x => x.order == n

/-- A section is applied (Table 69). -/
def Progress.apply (p : Progress) : ImageSection → Progress
  | .settings x => { p with state := p.state.loadSettings x }
  | .tribs xs => { p with state := xs.foldl State.loadTrib p.state }
  | .timing x mode c => { p with state := p.state.loadTiming x mode c }
  | .lists east west => { p with state := p.state.loadLists east west }
  | .bundles xs => (ascending xs).foldl Progress.record p
  | .skipped => p

/-- A port whose stored transmit clock is STEERED to a bundle that did not load on it takes SYSTEM
(R18, R176). -/
def State.settleClock (s : State) (t : TribId) : State :=
  match (s.trib t).cfg.clock with
  | .steered b =>
    if (s.bun b).isOn t then s
    else s.modTrib t fun x => { x with cfg := { x.cfg with clock := .system } }
  | _ => s

/-- Every section is applied, the bundle records after the tributary configurations, and the load ends as
IMAGE_LOADED (R42, R176). -/
def State.applyImage (s : State) (xs : List ImageSection) : State :=
  let p := (tableOrder xs).foldl Progress.apply ⟨s, 0, 0⟩
  let s := allTribs.foldl State.settleClock p.state
  { s with load := .loaded p.loaded p.refused }.post .imageLoaded .none
    (p.loaded * 65536 + p.refused)

/-- The load ends as IMAGE_REJECTED (R176). -/
def State.rejectImage (s : State) (cause : ImageCause) : State :=
  let s := s.recordFault .imageFault none cause.code
  { s with load := .rejected cause }.post .imageRejected .none cause.code

/-- IMAGE_LOAD: the bytes the memory delivers are checked and applied (R176). -/
def imageLoad (bs : List Byte) (s : State) : State :=
  if s.loading then
    match checkImage bs with
    | .absent => { s with load := .absentNoMarker }.post .imageAbsent .none 1
    | .rejected cause => s.rejectImage cause
    | .passed xs => s.applyImage xs
  else s

/-- MEMORY_READY_TIMEOUT: the memory does not answer within 100 ms (R176). -/
def memoryReadyTimeout (s : State) : State :=
  if s.loading && Config.memoryReadyTicks ≤ s.now then
    { s with load := .absentNoAnswer }.post .imageAbsent .none 0
  else s

end Sys2Proof.Machine
end

