-- ==== Sys2Proof/Machine/Reset.lean ====
section
/-!
DEFINITION. Reset: the full reset and the warm reset (R176, R177).
-/

namespace Sys2Proof.Machine

/-- The request kind code of WARM_RESET (R180). -/
def kindWarmReset : Nat := 34

/-! ## Full reset (R176) -/

/-- A network port after a full reset, its link indication input as it stands (R81, log entry 19). -/
def Net.full (x : Net) : Net :=
  { Net.default with
    indication := x.indication
    qualification := if x.indication then State.reset.qualifyTimer else none }

/-- FULL_RESET: every block at its full reset values, the image load begun; the commands that wait and
the inputs of the part stay (R176, log entry 19). -/
def fullReset (s : State) : State :=
  { State.reset with nets := s.nets.map Net.full, pending := s.pending }

/-! ## Warm reset (R177) -/

/-- The bundles after a warm reset, their targets not yet computed (R43). -/
def State.warmBundles (s : State) : State :=
  { s with bundles := s.bundles.map (Bundle.warm (timer := fun r => s.afterMs r.lossTime)) }

/-- Every block resets as its own chapter states (R177). -/
def State.warmBlocks (s : State) : State :=
  let s := { s with
    tribs := s.tribs.map Trib.warm
    timing := s.timing.warm
    nets := s.nets.map (Net.warm (timer := s.qualifyTimer))
    captures := Vector.replicate 4 ⟨.empty, false⟩ }
  allBundles.foldl State.computeTarget s.warmBundles

/-- A control port at a warm reset: its queue is emptied, its timer stopped, its counters zeroed, its
transfer state IDLE (R177). -/
def Ctrl.warm (c : Ctrl) : Ctrl :=
  { Ctrl.default with
    dataOut := c.dataOut
    overrun := c.overrun
    abandoned := c.abandoned
    reading := c.reading }

/-- The request a port is working on is abandoned: where its block has not yet taken it, it never will
(R177, log entry 15). A response read in progress gives 0xFF from there on (R177, log entry 67). -/
def Ctrl.abandonRequest (c : Ctrl) : Ctrl :=
  { c with
    abandoned := c.abandoned ++ c.handed.toList
    overrun := false
    reading := c.reading.map fun x => { x with cut := true } }

/-- The control port unit at a warm reset (R177). The requesting port's Overrun flag goes into its
response; the other port's is cleared, the request it is working on is abandoned, and its response read in
progress is cut. -/
def State.warmControl (s : State) (cp : CtrlPort) : State :=
  let s := s.modCtrl cp.other Ctrl.abandonRequest
  { s with claims := .none, ctrls := s.ctrls.map Ctrl.warm }

/-- WARM_RESET (R177). -/
def warmReset (cp : CtrlPort) (s : State) : State :=
  if s.loading then s.refuse cp kindWarmReset .loading
  else
    let s := s.warmBlocks.warmControl cp
    let s := s.post .warmResetDone (.ctrl cp) 0
    s.modCtrl cp fun c => c.prepare ⟨kindWarmReset, .ok, []⟩

end Sys2Proof.Machine
end

