-- ==== Sys2Proof/Machine/Exec.lean ====
section
/-!
DEFINITION. Exec: the meaning of each command, one definition per row of spec/opcode_table.json. Every
command has an effect in every state, so every meaning answers a next state; the effect itself stands
in the file of the block that owns it.
-/

namespace Sys2Proof.Machine

open Host

/-- REQUEST_WRITE (R165). -/
def execRequestWrite (cp : CtrlPort) (bytes : List Byte) (s : State) :
    Outcome State Fault Refusal :=
  .next (requestWrite cp bytes s)

/-- RESPONSE_READ (R167). -/
def execResponseRead (cp : CtrlPort) (piece : ReadPiece) (s : State) : Outcome State Fault Refusal :=
  .next (responseRead cp piece s)

/-- TRANSFER_IGNORED (R165). -/
def execTransferIgnored (cp : CtrlPort) (dir : Byte) (n : Nat) (s : State) :
    Outcome State Fault Refusal :=
  .next (transferIgnored cp dir n s)

/-- READ_IDENTITY (R178). -/
def execReadIdentity (cp : CtrlPort) (s : State) : Outcome State Fault Refusal :=
  .next (s.handOver cp (.readIdentity cp) (readIdentity cp))

/-- READ_SETTINGS (R170). -/
def execReadSettings (cp : CtrlPort) (s : State) : Outcome State Fault Refusal :=
  .next (s.handOver cp (.readSettings cp) (readSettings cp))

/-- WRITE_SETTINGS (R170). -/
def execWriteSettings (cp : CtrlPort) (raw : RawSettings) (s : State) :
    Outcome State Fault Refusal :=
  .next (s.handOver cp (.writeSettings cp raw) (writeSettings cp raw))

/-- OPEN_EDIT (R171). -/
def execOpenEdit (cp : CtrlPort) (sec : RawSection) (s : State) : Outcome State Fault Refusal :=
  .next (s.handOver cp (.openEdit cp sec) (openEdit cp sec))

/-- CLOSE_EDIT (R171). -/
def execCloseEdit (cp : CtrlPort) (sec : RawSection) (s : State) : Outcome State Fault Refusal :=
  .next (s.handOver cp (.closeEdit cp sec) (closeEdit cp sec))

/-- READ_BUNDLE (R41). -/
def execReadBundle (cp : CtrlPort) (b : Nat) (copy : RecordCopy) (s : State) :
    Outcome State Fault Refusal :=
  .next (s.handOver cp (.readBundle cp b copy) (readBundle cp b copy))

/-- WRITE_PENDING (R20). -/
def execWritePending (cp : CtrlPort) (b : Nat) (raw : RawRecord) (s : State) :
    Outcome State Fault Refusal :=
  .next (s.handOver cp (.writePending cp b raw) (writePending cp b raw))

/-- ACTIVATE (R23). -/
def execActivate (cp : CtrlPort) (b : Nat) (s : State) : Outcome State Fault Refusal :=
  .next (s.handOver cp (.activate cp b) (activate cp b))

/-- START (R36). -/
def execStart (cp : CtrlPort) (b : Nat) (s : State) : Outcome State Fault Refusal :=
  .next (s.handOver cp (.start cp b) (start cp b))

/-- STOP (R37). -/
def execStop (cp : CtrlPort) (b : Nat) (s : State) : Outcome State Fault Refusal :=
  .next (s.handOver cp (.stop cp b) (stop cp b))

/-- FREE (R38). -/
def execFree (cp : CtrlPort) (b : Nat) (s : State) : Outcome State Fault Refusal :=
  .next (s.handOver cp (.free cp b) (free cp b))

/-- READ_PLAYOUT (R108). -/
def execReadPlayout (cp : CtrlPort) (b : Nat) (s : State) : Outcome State Fault Refusal :=
  .next (s.handOver cp (.readPlayout cp b) (readPlayout cp b))

/-- READ_DELAY (R131). -/
def execReadDelay (cp : CtrlPort) (b : Nat) (p : Nat) (s : State) : Outcome State Fault Refusal :=
  .next (s.handOver cp (.readDelay cp b p) (readDelay cp b p))

/-- CLEAR_DELAY_EXTREMES (R118). -/
def execClearDelayExtremes (cp : CtrlPort) (b : Nat) (p : Nat) (s : State) :
    Outcome State Fault Refusal :=
  .next (s.handOver cp (.clearDelayExtremes cp b p) (clearDelayExtremes cp b p))

/-- APPLY_EQUALISATION (R128). -/
def execApplyEqualisation (cp : CtrlPort) (b : Nat) (s : State) : Outcome State Fault Refusal :=
  .next (s.handOver cp (.applyEqualisation cp b) (applyEqualisation cp b))

/-- READ_PATH (R149). -/
def execReadPath (cp : CtrlPort) (b : Nat) (s : State) : Outcome State Fault Refusal :=
  .next (s.handOver cp (.readPath cp b) (readPath cp b))

/-- PATH_COMMAND (R148). -/
def execPathCommand (cp : CtrlPort) (b : Nat) (req : Nat) (q : Nat) (s : State) :
    Outcome State Fault Refusal :=
  .next (s.handOver cp (.pathCommand cp b req q) (pathCommand cp b req q))

/-- LIST_INSERT (R71). -/
def execListInsert (cp : CtrlPort) (port : Nat) (pos : Nat) (entry : RawEntry) (s : State) :
    Outcome State Fault Refusal :=
  .next (s.handOver cp (.listInsert cp port pos entry) (listInsert cp port pos entry))

/-- LIST_REMOVE (R71). -/
def execListRemove (cp : CtrlPort) (port : Nat) (pos : Nat) (s : State) :
    Outcome State Fault Refusal :=
  .next (s.handOver cp (.listRemove cp port pos) (listRemove cp port pos))

/-- LIST_REPLACE (R71). -/
def execListReplace (cp : CtrlPort) (port : Nat) (pos : Nat) (entry : RawEntry) (s : State) :
    Outcome State Fault Refusal :=
  .next (s.handOver cp (.listReplace cp port pos entry) (listReplace cp port pos entry))

/-- LIST_READ (R73). -/
def execListRead (cp : CtrlPort) (port : Nat) (s : State) : Outcome State Fault Refusal :=
  .next (s.handOver cp (.listRead cp port) (listRead cp port))

/-- CAPTURE_ARM (R74). -/
def execCaptureArm (cp : CtrlPort) (slot : Nat) (s : State) : Outcome State Fault Refusal :=
  .next (s.handOver cp (.captureArm cp slot) (captureArm cp slot))

/-- CAPTURE_READ (R76). -/
def execCaptureRead (cp : CtrlPort) (slot : Nat) (s : State) : Outcome State Fault Refusal :=
  .next (s.handOver cp (.captureRead cp slot) (captureRead cp slot))

/-- TRIB_CONFIG (R1). -/
def execTribConfig (cp : CtrlPort) (port : Nat) (raw : RawTribConfig) (s : State) :
    Outcome State Fault Refusal :=
  .next (s.handOver cp (.tribConfig cp port raw) (tribConfig cp port raw))

/-- TRIB_STATUS (R17). -/
def execTribStatus (cp : CtrlPort) (port : Nat) (s : State) : Outcome State Fault Refusal :=
  .next (s.handOver cp (.tribStatus cp port) (tribStatus cp port))

/-- PORT_STATUS (R80). -/
def execPortStatus (cp : CtrlPort) (port : Nat) (s : State) : Outcome State Fault Refusal :=
  .next (s.handOver cp (.portStatus cp port) (portStatus cp port))

/-- TIMING_CONFIG (R156). -/
def execTimingConfig (cp : CtrlPort) (raw : Vector RawPriority 9) (s : State) :
    Outcome State Fault Refusal :=
  .next (s.handOver cp (.timingConfig cp raw) (timingConfig cp raw))

/-- TIMING_COMMAND (R157). -/
def execTimingCommand (cp : CtrlPort) (mode : Nat) (c : Nat) (s : State) :
    Outcome State Fault Refusal :=
  .next (s.handOver cp (.timingCommand cp mode c) (timingCommand cp mode c))

/-- TIMING_STATUS (R163). -/
def execTimingStatus (cp : CtrlPort) (s : State) : Outcome State Fault Refusal :=
  .next (s.handOver cp (.timingStatus cp) (timingStatus cp))

/-- READ_EVENTS (R173). -/
def execReadEvents (cp : CtrlPort) (s : State) : Outcome State Fault Refusal :=
  .next (s.handOver cp (.readEvents cp) (readEvents cp))

/-- READ_FAULTS (R174). -/
def execReadFaults (cp : CtrlPort) (s : State) : Outcome State Fault Refusal :=
  .next (s.handOver cp (.readFaults cp) (readFaults cp))

/-- CLEAR_FAULTS (R174). -/
def execClearFaults (cp : CtrlPort) (s : State) : Outcome State Fault Refusal :=
  .next (s.handOver cp (.clearFaults cp) (clearFaults cp))

/-- SAVE_IMAGE (R175). -/
def execSaveImage (cp : CtrlPort) (s : State) : Outcome State Fault Refusal :=
  .next (s.handOver cp (.saveImage cp) (saveImage cp))

/-- WARM_RESET (R177). -/
def execWarmReset (cp : CtrlPort) (s : State) : Outcome State Fault Refusal :=
  .next (s.handOver cp (.warmReset cp) (warmReset cp))

/-- FULL_RESET (R176). -/
def execFullReset (s : State) : Outcome State Fault Refusal :=
  .next (fullReset s)

/-- IMAGE_LOAD (R176). -/
def execImageLoad (bytes : List Byte) (s : State) : Outcome State Fault Refusal :=
  .next (imageLoad bytes s)

/-- MEMORY_READY_TIMEOUT (R176). -/
def execMemoryReadyTimeout (s : State) : Outcome State Fault Refusal :=
  .next (memoryReadyTimeout s)

/-- SAVE_READ_BACK (R175). -/
def execSaveReadBack (bytes : List Byte) (s : State) : Outcome State Fault Refusal :=
  .next (saveReadBack bytes s)

/-- SAVE_TIMEOUT (R175). -/
def execSaveTimeout (s : State) : Outcome State Fault Refusal :=
  .next (saveTimeout s)

/-- LOSS_OF_SIGNAL (R4). -/
def execLossOfSignal (t : TribId) (s : State) : Outcome State Fault Refusal :=
  .next (lossOfSignal t s)

/-- RECEIVE_CLOCK_TIMEOUT (R4). -/
def execReceiveClockTimeout (t : TribId) (s : State) : Outcome State Fault Refusal :=
  .next (receiveClockTimeout t s)

/-- RECOVERY_BLOCK_COMPLETE (R5). -/
def execRecoveryBlockComplete (t : TribId) (block : BitVec 512) (s : State) :
    Outcome State Fault Refusal :=
  .next (recoveryBlockComplete t block s)

/-- AIS_BLOCK_COMPLETE (R6). -/
def execAisBlockComplete (t : TribId) (block : BitVec 512) (s : State) :
    Outcome State Fault Refusal :=
  .next (aisBlockComplete t block s)

/-- ALIGNMENT_FOUND (R7). -/
def execAlignmentFound (t : TribId) (window : BitVec 519) (s : State) :
    Outcome State Fault Refusal :=
  .next (alignmentFound t window s)

/-- ALIGNMENT_WORD (R8). -/
def execAlignmentWord (t : TribId) (bits : BitVec 7) (s : State) : Outcome State Fault Refusal :=
  .next (alignmentWord t bits s)

/-- NON_ALIGNMENT_WORD (R10). -/
def execNonAlignmentWord (t : TribId) (bit3 : Bool) (s : State) : Outcome State Fault Refusal :=
  .next (nonAlignmentWord t bit3 s)

/-- RECEIVE_FRAME (R12). -/
def execReceiveFrame (t : Release) (bytes : Vector Byte 32) (s : State) :
    Outcome State Fault Refusal :=
  .next (receiveFrame t.port bytes t.others s)

/-- TRANSMIT_FRAME_START (R14). -/
def execTransmitFrameStart (t : TribId) (upsets : List Upset) (s : State) :
    Outcome State Fault Refusal :=
  .next (transmitFrameStart t upsets s)

/-- ACTIVATION_TAKES_EFFECT (R29). -/
def execActivationTakesEffect (b : BundleId) (s : State) : Outcome State Fault Refusal :=
  .next (activationTakesEffect b s)

/-- PLAYOUT_START (R94). -/
def execPlayoutStart (b : BundleId) (s : State) : Outcome State Fault Refusal :=
  .next (playoutStart b s)

/-- ADJUST_STEP (R104). -/
def execAdjustStep (b : BundleId) (s : State) : Outcome State Fault Refusal :=
  .next (adjustStep b s)

/-- STEERING_INTERVAL_END (R161). -/
def execSteeringIntervalEnd (t : TribId) (s : State) : Outcome State Fault Refusal :=
  .next (steeringIntervalEnd t s)

/-- LINK_INDICATION_APPEARS (R63). -/
def execLinkIndicationAppears (n : NetPort) (s : State) : Outcome State Fault Refusal :=
  .next (linkIndicationAppears n s)

/-- LINK_INDICATION_LOST (R63). -/
def execLinkIndicationLost (n : NetPort) (cutOff : Bool) (back : Bool) (s : State) :
    Outcome State Fault Refusal :=
  .next (linkIndicationLost n cutOff back s)

/-- LINK_QUALIFICATION_EXPIRY (R63). -/
def execLinkQualificationExpiry (n : NetPort) (s : State) : Outcome State Fault Refusal :=
  .next (linkQualificationExpiry n s)

/-- FRAME_TAKEN (R64). -/
def execFrameTaken (n : NetPort) (fcs : Vector Byte 4) (rxError : Bool) (bytes : List Byte)
    (s : State) : Outcome State Fault Refusal :=
  .next (frameTaken n rxError (bytes ++ fcs.toList) s)

/-- FRAME_SENT (R60). -/
def execFrameSent (n : NetPort) (s : State) : Outcome State Fault Refusal :=
  .next (frameSent n s)

/-- INTER_FRAME_GAP_END (R60). -/
def execInterFrameGapEnd (n : NetPort) (s : State) : Outcome State Fault Refusal :=
  .next (interFrameGapEnd n s)

/-- ESTIMATE_WAIT_EXPIRY (R93). -/
def execEstimateWaitExpiry (b : BundleId) (s : State) : Outcome State Fault Refusal :=
  .next (estimateWaitExpiry b s)

/-- ALERT_TIMER_EXPIRY (R130). -/
def execAlertTimerExpiry (b : BundleId) (s : State) : Outcome State Fault Refusal :=
  .next (alertTimerExpiry b s)

/-- LOSS_TIMER_EXPIRY (R135). -/
def execLossTimerExpiry (b : BundleId) (p : Path) (s : State) : Outcome State Fault Refusal :=
  .next (lossTimerExpiry b p s)

/-- START_WAIT_EXPIRY (R138). -/
def execStartWaitExpiry (b : BundleId) (s : State) : Outcome State Fault Refusal :=
  .next (startWaitExpiry b s)

/-- HOLD_OFF_EXPIRY (R142). -/
def execHoldOffExpiry (b : BundleId) (s : State) : Outcome State Fault Refusal :=
  .next (holdOffExpiry b s)

/-- WAIT_TO_RESTORE_EXPIRY (R144). -/
def execWaitToRestoreExpiry (b : BundleId) (s : State) : Outcome State Fault Refusal :=
  .next (waitToRestoreExpiry b s)

/-- MISMATCH_TIMER_EXPIRY (R146). -/
def execMismatchTimerExpiry (b : BundleId) (s : State) : Outcome State Fault Refusal :=
  .next (mismatchTimerExpiry b s)

/-- RECORD_PATROL (R40). -/
def execRecordPatrol (reads : List (BundleId × Record)) (s : State) : Outcome State Fault Refusal :=
  .next (recordPatrol reads s)

/-- STATION_ACTIVITY_LOSS (R151). -/
def execStationActivityLoss (s : State) : Outcome State Fault Refusal :=
  .next (stationActivityLoss s)

/-- MEASUREMENT_WINDOW_END (R151). -/
def execMeasurementWindowEnd (station : Option Int) (lines : Vector Int 8) (s : State) :
    Outcome State Fault Refusal :=
  .next (measurementWindowEnd station lines s)

/-- QUALIFY_TIMER_EXPIRY (R152). -/
def execQualifyTimerExpiry (c : Candidate) (s : State) : Outcome State Fault Refusal :=
  .next (qualifyTimerExpiry c s)

/-- IDLE_TIMER_EXPIRY (R172). -/
def execIdleTimerExpiry (cp : CtrlPort) (s : State) : Outcome State Fault Refusal :=
  .next (idleTimerExpiry cp s)

/-- RECOVERY_BLOCK_BEGINS (R5). -/
def execRecoveryBlockBegins (t : TribId) (s : State) : Outcome State Fault Refusal :=
  .next (recoveryBlockBegins t s)

/-- RESPONSE_PREPARED (R165). -/
def execResponsePrepared (cp : CtrlPort) (s : State) : Outcome State Fault Refusal :=
  .next (responsePrepared cp s)

end Sys2Proof.Machine
end

