-- ==== Sys2Proof/Machine/Dispatch.lean ====
section
/-! DEFINITION. Dispatch: the command at hand runs its meaning. -/

namespace Sys2Proof.Machine

open Host

def exec (i : Instr) (s : State) : Host.Outcome State Fault Refusal :=
  match i with
  | .requestWrite cp bytes => Sys2Proof.Machine.execRequestWrite cp bytes s
  | .responseRead cp piece => Sys2Proof.Machine.execResponseRead cp piece s
  | .transferIgnored cp dir n => Sys2Proof.Machine.execTransferIgnored cp dir n s
  | .readIdentity cp => Sys2Proof.Machine.execReadIdentity cp s
  | .readSettings cp => Sys2Proof.Machine.execReadSettings cp s
  | .writeSettings cp raw => Sys2Proof.Machine.execWriteSettings cp raw s
  | .openEdit cp sec => Sys2Proof.Machine.execOpenEdit cp sec s
  | .closeEdit cp sec => Sys2Proof.Machine.execCloseEdit cp sec s
  | .readBundle cp b copy => Sys2Proof.Machine.execReadBundle cp b copy s
  | .writePending cp b raw => Sys2Proof.Machine.execWritePending cp b raw s
  | .activate cp b => Sys2Proof.Machine.execActivate cp b s
  | .start cp b => Sys2Proof.Machine.execStart cp b s
  | .stop cp b => Sys2Proof.Machine.execStop cp b s
  | .free cp b => Sys2Proof.Machine.execFree cp b s
  | .readPlayout cp b => Sys2Proof.Machine.execReadPlayout cp b s
  | .readDelay cp b p => Sys2Proof.Machine.execReadDelay cp b p s
  | .clearDelayExtremes cp b p => Sys2Proof.Machine.execClearDelayExtremes cp b p s
  | .applyEqualisation cp b => Sys2Proof.Machine.execApplyEqualisation cp b s
  | .readPath cp b => Sys2Proof.Machine.execReadPath cp b s
  | .pathCommand cp b req q => Sys2Proof.Machine.execPathCommand cp b req q s
  | .listInsert cp port pos entry => Sys2Proof.Machine.execListInsert cp port pos entry s
  | .listRemove cp port pos => Sys2Proof.Machine.execListRemove cp port pos s
  | .listReplace cp port pos entry => Sys2Proof.Machine.execListReplace cp port pos entry s
  | .listRead cp port => Sys2Proof.Machine.execListRead cp port s
  | .captureArm cp slot => Sys2Proof.Machine.execCaptureArm cp slot s
  | .captureRead cp slot => Sys2Proof.Machine.execCaptureRead cp slot s
  | .tribConfig cp port raw => Sys2Proof.Machine.execTribConfig cp port raw s
  | .tribStatus cp port => Sys2Proof.Machine.execTribStatus cp port s
  | .portStatus cp port => Sys2Proof.Machine.execPortStatus cp port s
  | .timingConfig cp raw => Sys2Proof.Machine.execTimingConfig cp raw s
  | .timingCommand cp mode c => Sys2Proof.Machine.execTimingCommand cp mode c s
  | .timingStatus cp => Sys2Proof.Machine.execTimingStatus cp s
  | .readEvents cp => Sys2Proof.Machine.execReadEvents cp s
  | .readFaults cp => Sys2Proof.Machine.execReadFaults cp s
  | .clearFaults cp => Sys2Proof.Machine.execClearFaults cp s
  | .saveImage cp => Sys2Proof.Machine.execSaveImage cp s
  | .warmReset cp => Sys2Proof.Machine.execWarmReset cp s
  | .fullReset => Sys2Proof.Machine.execFullReset s
  | .imageLoad bytes => Sys2Proof.Machine.execImageLoad bytes s
  | .memoryReadyTimeout => Sys2Proof.Machine.execMemoryReadyTimeout s
  | .saveReadBack bytes => Sys2Proof.Machine.execSaveReadBack bytes s
  | .saveTimeout => Sys2Proof.Machine.execSaveTimeout s
  | .lossOfSignal t => Sys2Proof.Machine.execLossOfSignal t s
  | .receiveClockTimeout t => Sys2Proof.Machine.execReceiveClockTimeout t s
  | .recoveryBlockComplete t block => Sys2Proof.Machine.execRecoveryBlockComplete t block s
  | .aisBlockComplete t block => Sys2Proof.Machine.execAisBlockComplete t block s
  | .alignmentFound t window => Sys2Proof.Machine.execAlignmentFound t window s
  | .alignmentWord t bits => Sys2Proof.Machine.execAlignmentWord t bits s
  | .nonAlignmentWord t bit3 => Sys2Proof.Machine.execNonAlignmentWord t bit3 s
  | .receiveFrame t bytes => Sys2Proof.Machine.execReceiveFrame t bytes s
  | .transmitFrameStart t upsets => Sys2Proof.Machine.execTransmitFrameStart t upsets s
  | .activationTakesEffect b => Sys2Proof.Machine.execActivationTakesEffect b s
  | .playoutStart b => Sys2Proof.Machine.execPlayoutStart b s
  | .adjustStep b => Sys2Proof.Machine.execAdjustStep b s
  | .steeringIntervalEnd t => Sys2Proof.Machine.execSteeringIntervalEnd t s
  | .linkIndicationAppears n => Sys2Proof.Machine.execLinkIndicationAppears n s
  | .linkIndicationLost n cutOff back => Sys2Proof.Machine.execLinkIndicationLost n cutOff back s
  | .linkQualificationExpiry n => Sys2Proof.Machine.execLinkQualificationExpiry n s
  | .frameTaken n fcs rxError bytes => Sys2Proof.Machine.execFrameTaken n fcs rxError bytes s
  | .frameSent n => Sys2Proof.Machine.execFrameSent n s
  | .interFrameGapEnd n => Sys2Proof.Machine.execInterFrameGapEnd n s
  | .estimateWaitExpiry b => Sys2Proof.Machine.execEstimateWaitExpiry b s
  | .alertTimerExpiry b => Sys2Proof.Machine.execAlertTimerExpiry b s
  | .lossTimerExpiry b p => Sys2Proof.Machine.execLossTimerExpiry b p s
  | .startWaitExpiry b => Sys2Proof.Machine.execStartWaitExpiry b s
  | .holdOffExpiry b => Sys2Proof.Machine.execHoldOffExpiry b s
  | .waitToRestoreExpiry b => Sys2Proof.Machine.execWaitToRestoreExpiry b s
  | .mismatchTimerExpiry b => Sys2Proof.Machine.execMismatchTimerExpiry b s
  | .recordPatrol reads => Sys2Proof.Machine.execRecordPatrol reads s
  | .stationActivityLoss => Sys2Proof.Machine.execStationActivityLoss s
  | .measurementWindowEnd station lines => Sys2Proof.Machine.execMeasurementWindowEnd station lines s
  | .qualifyTimerExpiry c => Sys2Proof.Machine.execQualifyTimerExpiry c s
  | .idleTimerExpiry cp => Sys2Proof.Machine.execIdleTimerExpiry cp s
  | .recoveryBlockBegins t => Sys2Proof.Machine.execRecoveryBlockBegins t s
  | .responsePrepared cp => Sys2Proof.Machine.execResponsePrepared cp s

end Sys2Proof.Machine
end

