-- ==== Sys2Proof/Machine/Step.lean ====
section
/-!
DEFINITION. Step: the command at the front of the queue is run on the rest of it; on an empty queue the
device clock ticks.
-/

namespace Sys2Proof.Machine

/-- One tick of the 125 MHz device clock with no command waiting: the time count advances (R110, log
entry 1). -/
def State.tick (s : State) : State := { s with now := s.now + 1 }

/-- One step of the part. -/
def step (s : State) : Host.Outcome State Fault Refusal :=
  match s.pending with
  | [] => .next s.tick
  | c :: rest => exec c { s with pending := rest }

/-- A command put at the front of the queue. -/
def State.push (s : State) (c : Instr) : State := { s with pending := c :: s.pending }

/-- The state with the command that a word spells put at the front of its queue; the state itself where
the word spells none. -/
def State.withFetchWord (s : State) (nbits w : Nat) : State :=
  match decodeTableWord nbits w with
  | some c => s.push c
  | none => s

end Sys2Proof.Machine
end

