-- ==== Sys2Proof/Safety.lean ====
section
/-!
DEFINITION. Safety: the invariants of the part, in the terms statements use. Each says what the manual
states of the part at every instant, or what a rule says a command leaves or a response gives.
-/

namespace Sys2Proof.Safety

open Machine

/-! ## What statements say of a step -/

/-- An event as it is posted now. -/
def eventNow (s : State) (kind : EventKind) (subject : Subject) (detail : Nat) : Event :=
  ⟨kind, subject, s.eventTime, BitVec.ofNat 32 detail⟩

/-- Between `s` and `t` the control ports change by these events alone, offered to both queues in this
order (R173). -/
def Posts (s t : State) (es : List Event) : Prop :=
  ∀ cp, t.ctrl cp = es.foldl Ctrl.offer (s.ctrl cp)

/-- Between `s` and `t` the control ports change by these events and by the outcome of a request of port
`cp` alone. -/
def Answers (s t : State) (cp : CtrlPort) (es : List Event) (r : Response) : Prop :=
  t.ctrl cp = { es.foldl Ctrl.offer (s.ctrl cp) with outcome := some r } ∧
    t.ctrl cp.other = es.foldl Ctrl.offer (s.ctrl cp.other)

/-- An event stands in both queues, or was offered to a queue that was full (R173). -/
def Reported (t : State) (e : Event) : Prop :=
  ∀ cp, e ∈ (t.ctrl cp).queue ∨ (t.ctrl cp).lost = true

/-- Command `i` of control port `cp` is no request that a warm reset has abandoned, or the port is working
on the same request anew (R177, log entry 15). -/
abbrev Carried (s : State) (cp : CtrlPort) (i : Instr) : Prop :=
  i ∉ (s.ctrl cp).abandoned ∨ (s.ctrl cp).handed = some i

/-- A timer runs and its expiry has come (log entry 13). -/
def Due (s : State) (x : Timer) : Prop := ∃ e, x = some e ∧ e ≤ s.now

/-- No bundle but `b` differs. -/
def OtherBundles (s t : State) (b : BundleId) : Prop := ∀ c, c ≠ b → t.bun c = s.bun c

/-- No tributary port but `p` differs. -/
def OtherTribs (s t : State) (p : TribId) : Prop := ∀ q, q ≠ p → t.trib q = s.trib q

/-- No network port but `n` differs. -/
def OtherNets (s t : State) (n : NetPort) : Prop := ∀ m, m ≠ n → t.net m = s.net m

/-- A tributary port as it was, but for a steering interval in progress that port has abandoned where its
transmit clock is steered from bundle `b` (R162). -/
def SteeringAbandoned (s t : State) (b : BundleId) : Prop :=
  ∀ p, t.trib p =
    if (s.trib p).cfg.clock = .steered b then
      { s.trib p with steer := (s.trib p).steer.abandon }
    else s.trib p

/-- The selector and every candidate but `c` are as they were, but for the selector's own state, and
`c` keeps its configuration and its last measured frequency. -/
structure OnlyCandidate (x y : Timing) (c : Candidate) : Prop where
  others : ∀ d, d ≠ c → y.candidate d = x.candidate d
  mode : y.mode = x.mode
  holdover : y.holdover = x.holdover
  window : y.windowEnd = x.windowEnd
  priority : (y.candidate c).priority = (x.candidate c).priority
  qualify : (y.candidate c).qualify = (x.candidate c).qualify
  frequency : (y.candidate c).frequency = (x.candidate c).frequency

/-- The transmit timing source of a port whose receive state becomes `new`: a LOOP port that leaves its
line falls back to system timing (R158). -/
def sourceAfter (x : Trib) (new : RxState) : TxSource :=
  if x.txSource = .line ∧ new.onLine = false then .system else x.txSource

/-- The TIMING_STATE of a change of the selector's state from `s` to `t` (R153, Table 73a). -/
def selectorChange (s t : State) : List Event :=
  if t.timing.state = s.timing.state then []
  else [eventNow s .timingState .selector
    (t.timing.state.param * 65536 + s.timing.state.code * 256 + t.timing.state.code)]

/-- The events of a change of candidate `c` from `s` to `t`: CANDIDATE_STATE where its state differs, then
TIMING_STATE where the selector's does (R152, R153, Table 73a, log entry 41). -/
def timingChange (s t : State) (c : Candidate) : List Event :=
  let old := s.timing.candidate c
  let new := t.timing.candidate c
  (if new.state = old.state then []
    else [eventNow s .candidateState (.candidate c) (old.state.code * 256 + new.state.code)]) ++
    selectorChange s t

/-- The TRIB_REMOTE_ALARM that clearing remote alarm in posts, where it was set (R10). -/
def alarmCleared (s : State) (p : TribId) : List Event :=
  if (s.trib p).remoteAlarm then [eventNow s .tribRemoteAlarm (.trib p) 0] else []

/-- The TRIB_STATE of a change of port `p` to `new` (R11, Table 73a). -/
def tribStateEvent (s : State) (p : TribId) (new : RxState) : Event :=
  eventNow s .tribState (.trib p) ((s.trib p).rx.code * 256 + new.code)

/-- The receive states under local frame timing (R12). -/
def LocallyTimed (x : RxState) : Prop := x = .noSignal ∨ x = .ais ∨ x = .search

/-- Port `q` releases a receive frame where port `p` does, the ports `others` releasing at the same system
frame start: `p` itself unless it is OFF, and those of `others` where both are under local frame timing
(R12, R51). -/
def Releases (s : State) (p : TribId) (others : List TribId) (q : TribId) : Prop :=
  (q = p ∧ (s.trib p).rx ≠ .off) ∨
    (q ∈ others ∧ LocallyTimed (s.trib p).rx ∧ LocallyTimed (s.trib q).rx)

/-- A change of the line of port `p` from `s` to `t`: nothing differs but the port, its clock candidate
with the selector, and the events posted; the candidate is valid exactly in ALIGNED and PRESENT (R151). -/
structure LineChange (s t : State) (p : TribId) : Prop where
  frame : t = { s with tribs := t.tribs, timing := t.timing, ctrls := t.ctrls }
  others : OtherTribs s t p
  candidate : OnlyCandidate s.timing t.timing (.trib p)
  valid : (t.timing.candidate (.trib p)).valid = (t.trib p).rx.onLine

/-- A candidate that was UNAVAILABLE and becomes valid: AVAILABLE at once where its qualify time is 0,
otherwise QUALIFYING with its timer running for that time from now (R152). -/
def qualified (s : State) (x : CandidateRecord) : CandidateRecord :=
  if x.qualify = 0 then { x with valid := true, state := .available }
  else { x with
    valid := true
    state := .qualifying
    timer := some (s.now + x.qualify * 125000000) }

/-- A candidate that was QUALIFYING or AVAILABLE and is no longer valid: UNAVAILABLE, its timer stopped, the loss
counted (R152). -/
def lostCandidate (x : CandidateRecord) : CandidateRecord :=
  { x with valid := false, whole := false, state := .unavailable, timer := none, losses := bump x.losses }

/-! ## Requests -/

/-- The port and the kind of a request that only reads, and whether what it names exists (Table 64). -/
def reading : Instr → Option (CtrlPort × Nat × Bool)
  | .readIdentity cp => some (cp, 1, true)
  | .readSettings cp => some (cp, 2, true)
  | .readBundle cp b _ => some (cp, 6, decide (b < 64))
  | .readPlayout cp b => some (cp, 12, decide (b < 64))
  | .readDelay cp b p => some (cp, 13, decide (b < 64 ∧ 1 ≤ p ∧ p ≤ 2))
  | .readPath cp b => some (cp, 16, decide (b < 64))
  | .listRead cp n => some (cp, 21, decide (n < 2))
  | .captureRead cp c => some (cp, 23, decide (c < 4))
  | .tribStatus cp p => some (cp, 25, decide (p < 8))
  | .portStatus cp n => some (cp, 26, decide (n < 2))
  | .timingStatus cp => some (cp, 29, true)
  | .readFaults cp => some (cp, 31, true)
  | _ => none

/-- The image load has ended, and its outcome was posted (R176, Table 73a). -/
def LoadPosted (s t : State) : Prop :=
  match t.load with
  | .loading => False
  | .absentNoAnswer => Reported t (eventNow s .imageAbsent .none 0)
  | .absentNoMarker => Reported t (eventNow s .imageAbsent .none 1)
  | .rejected cause => Reported t (eventNow s .imageRejected .none cause.code)
  | .loaded records refused =>
    Reported t (eventNow s .imageLoaded .none (records * 65536 + refused))

/-- Sections of the stored image that Table 69 gives different places. -/
def DifferentKinds : ImageSection → ImageSection → Prop
  | .settings _, .settings _ | .tribs _, .tribs _ | .timing .., .timing .. | .lists .., .lists ..
  | .bundles _, .bundles _ => False
  | _, _ => True

/-- A request kind marked LOADING in Table 64. -/
def markedLoading (kind : Nat) : Bool :=
  [3, 4, 5, 7, 8, 9, 10, 11, 15, 17, 18, 19, 20, 24, 27, 28, 33, 34].contains kind

/-- A status with which a request is carried out (Table 63). -/
def carriedOut : Status → Bool
  | .ok | .clamped => true
  | _ => false

/-- A structural fault of a record as received (R20 step 5). -/
def StructuralFault (x : RawRecord) : Prop :=
  8 ≤ x.port ∨ x.slots = .list [] ∨
    (∃ ns, x.slots = .list ns ∧ (¬ ns.Nodup ∨ ∃ n ∈ ns, n < 1 ∨ 31 < n)) ∨
    (∃ g, x.tag = some g ∧ (g.id = 0 ∨ g.id = 4095)) ∨
    3 ≤ x.pathMode ∨ 2 ≤ x.portMap ∨ 3 ≤ x.pclass ∨ 2 ≤ x.delayMode ∨ 2 ≤ x.eqApply ∨
    2 ≤ x.substitution ∨ 2 ≤ x.authority

/-- A record as received with its slot list sorted and every numeric field moved to the nearer limit of
Table 10 (R21). -/
def clampedRecord (x : RawRecord) : RawRecord :=
  { x with
    slots := x.slots.sorted
    fpp := max 1 (min x.fpp 64)
    txLabel := min x.txLabel 16383
    rxLabel := min x.rxLabel 16383
    maxDepth := max 8 (min x.maxDepth 4096)
    targetDepth := max 1 (min x.targetDepth 4096)
    targetDelay := max 250 (min x.targetDelay 60000)
    initialDepth := max 1 (min x.initialDepth 4096)
    deadband := max 1 (min x.deadband 8)
    pace := max 3 (min x.pace 10)
    shiftK := max 2 (min x.shiftK 10)
    stepThreshold := max 10 (min x.stepThreshold 10000)
    stepCount := max 1 (min x.stepCount 15)
    alertHold := max 1 (min x.alertHold 60)
    lossTime := max 1 (min x.lossTime 255)
    holdOff := min x.holdOff 100
    waitRestore := min x.waitRestore 720
    primary := max 1 (min x.primary 2) }

/-- The BUNDLE_STATE of a change of bundle `b` (R35, Table 73a). -/
def bundleStateEvent (s : State) (b : BundleId) (old new : BState) (cause : StateCause) : Event :=
  eventNow s .bundleState (.bundle b) (cause.code * 65536 + old.code * 256 + new.code)

/-- The BUNDLE_STATE of a stored record of bundle `b` refused with `status`: the state as it stands, twice, the
cause LOAD_REFUSED and the refusal (R42, Table 73a). -/
def loadRefusedEvent (s : State) (b : BundleId) (status : Status) : Event :=
  eventNow s .bundleState (.bundle b)
    (status.code * 16777216 + 11 * 65536 + (s.bun b).state.code * 256 + (s.bun b).state.code)

/-- The FAULT of the `k`-th fault from now: its kind and the fault count after it (R174, Table 73a). -/
def faultEvent (s : State) (kind : FaultKind) (subject : Option BundleId) (k : Nat) : Event :=
  eventNow s .fault (faultSubject subject)
    (kind.code * 16777216 + min (s.faults.count + k) (max s.faults.count 255) * 65536)

/-- No hard field of Table 10 differs: tributary port, slot set as a set, FPP, both labels, path mode, port map
and max depth (R29, Table 12). -/
structure HardSame (x y : Record) : Prop where
  port : x.port = y.port
  all : x.slots = .all ↔ y.slots = .all
  slots : ∀ n, n < 32 → (n ∈ x.slots.toList ↔ n ∈ y.slots.toList)
  fpp : x.fpp = y.fpp
  labels : x.txLabel = y.txLabel ∧ x.rxLabel = y.rxLabel
  paths : x.pathMode = y.pathMode ∧ x.portMap = y.portMap
  depth : x.maxDepth = y.maxDepth

/-- Nothing of bundle `b` is queued at either network port (R53). -/
def NothingQueued (t : State) (b : BundleId) : Prop :=
  ∀ n e, e ∈ (t.net n).protection ++ (t.net n).priority ++ (t.net n).routine → e.bundle ≠ b

/-- The state once a copy has joined the tail of its class sub-queue at port `n` (R51). -/
def joined (s : State) (n : NetPort) (c : PacketClass) (e : QueueEntry) : State :=
  let x := s.net n
  let s := s.modNet n fun _ =>
    { x.setQueue c (x.queue c ++ [e]) with tx := { x.tx with joined := bump x.tx.joined } }
  s.modAssembly e.bundle fun a => { a with queued := bump a.queued }

/-- The state once entry `old` of port `n` has been evicted, `rest` being what remains of its sub-queue
`c` (R52, Table 18). -/
def evicted (s : State) (n : NetPort) (c : PacketClass) (rest : List QueueEntry)
    (old : QueueEntry) : State :=
  let x := s.net n
  let s := s.modNet n fun _ =>
    { x.setQueue c rest with tx := { x.tx with evicted := bump x.tx.evicted } }
  s.modAssembly old.bundle fun a =>
    { a with held := a.held.filterMap fun h => if h.seq = old.seq then h.lose n else some h }

/-- The state once `lost` copies of a completed packet of bundle `b` were not offered, their links being
DOWN (R47). -/
def notOffered (s : State) (b : BundleId) (lost : Nat) : State :=
  s.modAssembly b fun a => { a with notOffered := bumpBy a.notOffered lost }

/-- The echo states and delay records of a bundle are cleared, no target proposed and the alert timer
stopped (R119). -/
structure DelayCleared (d : Delay) : Prop where
  echo : ∀ p, d.echo.atPath p = ⟨0, 0, false⟩
  tracking : ∀ p, (d.record.atPath p).tracking = false
  proposed : d.proposed = none
  alert : d.alertTimer = none

/-- The paths and the selector of a bundle at their start: both paths UNKNOWN, the primary path active, no
request, no announcement and no mismatch (R150). -/
structure PathsFresh (x : Supervisor) (r : Record) : Prop where
  unknown : ∀ p, (x.path.atPath p).state = .unknown ∧ (x.path.atPath p).farFlag = false
  active : x.selector.active = r.primary
  request : x.selector.request = .none
  announcement : x.selector.announcement = none
  mismatch : x.selector.mismatch = false
  timers : x.selector.holdOff = none ∧ x.selector.restore = none ∧ x.selector.mismatchTimer = none

/-- The loss timers of both paths and the start wait run for the path loss time from now (R150). -/
def PathsTimed (s : State) (x : Supervisor) (r : Record) : Prop :=
  x.startWait = some (s.now + r.lossTime * 125000) ∧
    ∀ p, (x.path.atPath p).lossTimer = some (s.now + r.lossTime * 125000)

/-- One frame of substitution: the fill byte, or the last byte of each slot position, the fill byte where
there is none (R100). -/
def substituted (p : Playout) (r : Record) : List Byte :=
  (List.range r.slots.count).map fun i =>
    match r.substitution with
    | .fill => r.fillByte
    | .repeatLast => (p.lastByte.getD i none).getD r.fillByte

/-- A ring of `size` empty slots with no head sequence (R82). -/
def RingEmpty (p : Playout) (size : Nat) : Prop :=
  p.ring = List.replicate size none ∧ p.head = none ∧ p.adjust = none ∧ p.startCount = 0

/-! ## The receive checks -/

/-- Check 1 fails a frame of bytes `bs`: a length outside 64 to 2048, a byte marked as received in error, or
another frame check sequence than that of the bytes before it (R66; its algorithm by log entry 10). -/
def CheckOneFails (err : Bool) (bs : List Byte) : Prop :=
  bs.length < 64 ∨ 2048 < bs.length ∨ err = true ∨
    bs.drop (bs.length - 4) ≠ fcsOf (bs.take (bs.length - 4))

/-- Check 5 or 6 fails the bytes `bs` between the type field and the frame check sequence of a frame of `total`
bytes (R67). -/
def HeaderFails (total : Nat) (bs : List Byte) : Prop :=
  bs.length < 20 ∨ fieldAt bs 0 1 / 16 ≠ 1 ∨ 3 < fieldAt bs 0 1 % 16 ∨
    (fieldAt bs 1 2 / 16384 ≠ 1 ∧ fieldAt bs 1 2 / 16384 ≠ 2) ∨
    fieldAt bs 5 2 % 1024 = 0 ∨ 512 < fieldAt bs 5 2 % 1024 ∨
    (bs.length - 20 ≠ fieldAt bs 5 2 % 1024 ∧
      ¬ (total = 64 ∧ fieldAt bs 5 2 % 1024 < bs.length - 20))

/-! ## The selector -/

/-- The announcement is 1 or 2 and differs from the active path (R146). -/
def Disagrees (y : Selector) : Prop := ∃ q, announcedPath y.announcement = some q ∧ q ≠ y.active

/-- The mismatch flag and timer of bundle `b` were brought up to date at the end of an evaluation, from `u` to
`t`: a FOLLOWER's flag is the disagreement; MAIN keeps its flag while it disagrees, its timer running for the path
loss time unless the flag is set; with no disagreement flag and timer are clear. A change of the flag is posted
and a setting counted (R146, Table 73a). -/
def MismatchSettled (u t : State) (b : BundleId) (r : Record) : Prop :=
  let y := (u.bun b).supervisor.selector
  ∃ flag timer,
    t = { u with bundles := t.bundles, ctrls := t.ctrls } ∧ OtherBundles u t b ∧
    t.bun b = { u.bun b with supervisor := { (u.bun b).supervisor with selector := { y with
      mismatch := flag
      mismatchTimer := timer
      mismatches := if flag = true ∧ y.mismatch = false then bump y.mismatches else y.mismatches } } } ∧
    (flag = true ↔ Disagrees y ∧ (r.authority = .follower ∨ y.mismatch = true)) ∧
    (r.authority = .main ∧ Disagrees y ∧ y.mismatch = false →
      timer = some (y.mismatchTimer.getD (u.now + r.lossTime * 125000))) ∧
    (r.authority = .follower ∨ ¬ Disagrees y ∨ y.mismatch = true → timer = none) ∧
    Posts u t (if flag = y.mismatch then [] else
      [eventNow u .pathMismatch (.bundle b)
        (flag.toNat * 2147483648 + y.active.code * 256 + announcementCode y.announcement)])

/-- An evaluation of bundle `b` that left its active path, with the hold-off `h` and the wait to restore `w` after
it (R140, R142, R144). -/
def Waits (s t : State) (b : BundleId) (r : Record) (h w : Timer) : Prop :=
  ∃ u, u = { s with bundles := u.bundles } ∧ OtherBundles s u b ∧
    u.bun b = { s.bun b with supervisor := { (s.bun b).supervisor with
      selector := { (s.bun b).supervisor.selector with holdOff := h, restore := w } } } ∧
    MismatchSettled u t b r

/-- An evaluation of bundle `b` that switched to path `q`: both timers stopped, the switch counted and posted, a
MANUAL request for another path cleared, the alert timer restarted for the alert hold, a target computed, and
the mismatch flag brought up to date (R146, R147, Table 73a). -/
def Switched (s t : State) (b : BundleId) (r : Record) (q : Path) (cause : SwitchCause) : Prop :=
  let v := (s.bun b).supervisor.selector
  ∃ u, u = { s with bundles := u.bundles, ctrls := u.ctrls } ∧ OtherBundles s u b ∧
    u.bun b = { s.bun b with
      supervisor := { (s.bun b).supervisor with selector := { v with
        active := q
        holdOff := none
        restore := none
        switches := bump v.switches
        request := if v.request = .manual q.other then .none else v.request } }
      delay := { (s.bun b).delay with alertTimer := some (s.now + r.alertHold * 125000000) } } ∧
    Posts s u [eventNow s .pathSwitch (.bundle b)
      (cause.code * 65536 + v.active.code * 256 + q.code)] ∧
    MismatchSettled (u.computeTarget b) t b r

/-- Level 3 does not apply: the active path does not fail, or the other fails too
(R142). -/
def NoFailSwitch (x : Supervisor) : Prop :=
  x.signalFail x.selector.active = false ∨ x.signalFail x.selector.active.other = true

/-! ## What a reading request gives -/

/-- A field of `n` bytes that may be absent (R181). -/
def optField (n : Nat) : Option Nat → List Byte
  | none => 0 :: List.replicate n 0
  | some v => 1 :: bytesOf n v

/-- A signed field of `n` bytes, in two's complement (R181). -/
def signedField (n : Nat) (v : Int) : List Byte := bytesOf n (BitVec.ofInt (8 * n) v).toNat

/-- The whole milliseconds a timer has left, or stopped, in `n` bytes (R181, log entry 12). -/
def leftField (s : State) (n : Nat) (x : Timer) : List Byte :=
  optField n (x.map fun e => (e - s.now) / 125000)

/-- A flag with no named values (R181, log entry 11). -/
def flagField (p : Bool) : Byte := if p then 1 else 0

/-- A field with the values yes and no, or set and clear, in this order (R181, log entry 11). -/
def yesField (p : Bool) : Byte := if p then 0 else 1

/-- The control port that holds the claim on a section, or none. -/
def holderField (s : State) (sec : Section) : Byte :=
  match s.holder sec with
  | none => 0
  | some .cp1 => 1
  | some .cp2 => 2

/-- READ_IDENTITY: the fixed codes and revision 1, the two times, the load's outcome with its cause or
counts, the save state and the last outcome, the transfer counters of both ports (R178; the codes of the
load by log entry 12). -/
def identityContent (s : State) : List Byte :=
  bytesOf 2 Config.vendorCode.toNat ++ bytesOf 2 Config.partCode.toNat ++ [1]
    ++ bytesOf 4 (s.now % 4294967296) ++ bytesOf 4 (s.now / 125000 % 4294967296)
    ++ (match s.load with
      | .absentNoAnswer => ([0, 0, 0, 0, 0] : List Byte)
      | .absentNoMarker => [0, 0, 0, 0, 1]
      | .rejected cause => 1 :: bytesOf 4 cause.code
      | .loaded records refused => 2 :: bytesOf 4 (records * 65536 + refused)
      | .loading => [3, 0, 0, 0, 0])
    ++ [flagField s.save.isSome] ++ bytesOf 1 s.lastSave.code
    ++ [CtrlPort.cp1, .cp2].flatMap fun cp =>
      [(s.ctrl cp).taken, (s.ctrl cp).overruns, (s.ctrl cp).badFrames,
        (s.ctrl cp).unknownKinds].flatMap (bytesOf 4)

/-- READ_SETTINGS: the fields of Table 65, the holder of every claimable section, the time each idle timer
has left (R170). -/
def settingsContent (s : State) : List Byte :=
  addressBytes s.settings.east ++ addressBytes s.settings.west ++ bytesOf 2 s.settings.bundleType
    ++ bytesOf 1 s.settings.idleLimit
    ++ (allBundles.map fun b => holderField s (.bundle b))
    ++ (allTribs.map fun p => holderField s (.trib p))
    ++ [holderField s (.list .east), holderField s (.list .west), holderField s .timing,
      holderField s .settings]
    ++ leftField s 2 (s.ctrl .cp1).idleTimer ++ leftField s 2 (s.ctrl .cp2).idleTimer

/-- The effective max depth of a bundle, 0 where it is FREE (R91, log entry 51). -/
def topOf (x : Bundle) : Nat :=
  match x.active with
  | none => 0
  | some r => min r.maxDepth ((x.ringSize - 2) * r.fpp)

/-- The target depth in force, none of a FREE bundle (R131). -/
def targetField (x : Bundle) : List Byte := optField 2 (x.active.map fun _ => x.delay.target)

/-- The packets a ring holds, in increasing distance from its head (R108). -/
def heldInOrder (p : Playout) : List RingSlot :=
  (List.range p.ring.length).filterMap fun i =>
    p.head.bind fun h => p.slotFor (h + BitVec.ofNat 16 i)

/-- READ_PLAYOUT of bundle `b` (R61, R80, R107, R108, Tables 31 and 39). Log entries: 50 the remaining count
outside COUNTDOWN, 51 the depth of a FREE bundle, 52 the direction, 60 the presence byte of the
adjustment. -/
def playoutContent (s : State) (b : BundleId) : List Byte :=
  let x := s.bun b
  let p := x.playout
  let a := x.assembly
  let c := p.counters
  bytesOf 1 x.state.code ++ bytesOf 2 x.ringSize ++ bytesOf 2 (topOf x)
    ++ bytesOf 2 (4096 - (allBundles.map fun d => (s.bun d).playout.ring.length).sum)
    ++ optField 2 (p.head.map BitVec.toNat)
    ++ bytesOf 1 p.period.code ++ bytesOf 1 p.played
    ++ bytesOf 2 ((x.active.map fun r => p.fill r.fpp).getD 0)
    ++ bytesOf 1 p.phase.code
    ++ bytesOf 2 (if p.phase = .countdown then
        (x.active.map fun r => x.delay.target - r.fpp - p.startCount).getD 0 else 0)
    ++ [flagField p.estimateWait.isSome] ++ bytesOf 1 p.earlyRun
    ++ (match p.adjust with
      | none => ([0, 0, 0, 0, 0] : List Byte)
      | some ⟨target, _, step⟩ => 1 :: bytesOf 2 target ++
        match step with
        | none => [0, 0]
        | some .insert => [1, 0]
        | some .skip => [1, 1])
    ++ targetField x
    ++ bytesOf 2 (heldInOrder p).length
    ++ ((heldInOrder p).map fun y => bytesOf 2 y.seq.toNat ++ bytesOf 1 y.path.code ++
        [flagField y.originFault] ++ bytesOf 4 y.arrival.toNat).flatten
    ++ [c.stored, c.late, c.mergeCopy, c.duplicate, c.early, c.standby, c.resyncs, c.slipped, c.played,
        c.playedPath1, c.playedPath2, c.originFaultPlayed, c.missing, c.underruns, c.inserted,
        c.skipped, c.parityFrames, (p.residence.map fun z => z.1).getD 0,
        (p.residence.map fun z => z.2).getD 0].flatMap (bytesOf 4)
    ++ [a.completed, a.originFaults, a.queued, a.notOffered, a.superseded].flatMap (bytesOf 4)
    ++ bytesOf 2 a.seq.toNat ++ bytesOf 1 a.frames ++ [flagField a.faultMark] ++ bytesOf 1 a.held.length
    ++ (a.held.map fun h => bytesOf 2 h.seq.toNat ++
        [if h.east then if h.west then (2 : Byte) else 0 else 1]).flatten
    ++ [x.delivery.accepted, x.delivery.inactive, x.delivery.misrouted,
        x.delivery.wrongSize].flatMap (bytesOf 4)

/-- The path whose baseline the estimate of a bundle uses (Table 47); of equal baselines that of path 1 (log
entry 26). -/
def estimateOf (x : Bundle) : Option Path :=
  let y := x.delay.record
  let a := x.supervisor.selector.active
  x.active.bind fun r =>
    match r.pathMode with
    | .single => if y.one.tracking then some .p1 else none
    | .selected => if (y.atPath a).tracking then some a else none
    | .merged =>
      if y.two.tracking ∧ (y.one.tracking = false ∨ y.one.baseline < y.two.baseline) then some .p2
      else if y.one.tracking then some .p1
      else none

/-- READ_DELAY of bundle `b` and path `p` (R120, R129, R131, R132, Tables 43, 44 and 48). Log entries: 12 the
delay mode of a FREE bundle and the presence byte of the estimate, 51 the two depths of a FREE bundle, 60
the presence byte of the alert timer. -/
def delayContent (s : State) (b : BundleId) (p : Path) : List Byte :=
  let x := s.bun b
  let d := x.delay
  let e := d.echo.atPath p
  let y := d.record.atPath p
  bytesOf 4 e.origin.toNat ++ bytesOf 4 e.arrival.toNat ++ [yesField e.valid]
    ++ [flagField y.tracking] ++ bytesOf 4 y.lastRtt ++ bytesOf 4 y.baseline ++ signedField 4 y.difference
    ++ bytesOf 4 y.minimum ++ bytesOf 4 y.maximum ++ bytesOf 1 y.stepRun
    ++ [y.samples, y.implausible, y.unechoed, y.routeSteps, y.echoExpiries].flatMap (bytesOf 4)
    ++ bytesOf 1 ((x.active.map fun r => r.delayMode.code).getD 0)
    ++ (match estimateOf x with
      | none => ([0, 0, 0, 0, 0] : List Byte)
      | some q => 1 :: bytesOf 3 ((d.record.atPath q).baseline * 4 / 1000) ++ bytesOf 1 q.code)
    ++ targetField x ++ optField 2 d.proposed ++ bytesOf 2 (topOf x)
    ++ [flagField d.short, flagField d.long] ++ signedField 2 d.rawDepth
    ++ [flagField (d.alertTimer.isSome || x.playout.adjust.isSome || x.supervisor.selector.mismatch)]
    ++ leftField s 2 d.alertTimer
    ++ [flagField x.playout.adjust.isSome, flagField x.supervisor.selector.mismatch]
    ++ bytesOf 4 (s.now % 4294967296)

/-- What READ_PATH gives of one path (R137, R149). -/
def pathField (s : State) (y : PathRecord) : List Byte :=
  bytesOf 1 y.state.code ++ leftField s 1 y.lossTimer
    ++ [yesField y.farFlag, flagField (y.state != .up || y.farFlag)]
    ++ bytesOf 4 y.ups ++ bytesOf 4 y.losses ++ bytesOf 4 y.onsets

/-- The paths a bundle can play: both, path 1, or the selector's active path, in the codes of Playing Path
(spec/07 7.2, Table 20a; of a FREE bundle none, log entry 54). -/
def usableField (x : Bundle) : Byte :=
  match x.active.map Record.pathMode with
  | none => 0
  | some .merged => 3
  | some .single => 1
  | some .selected => if x.supervisor.selector.active = .p1 then 1 else 2

/-- The down condition of a bundle in a running state (R138, Table 51; log entry 54 otherwise). -/
def downField (x : Bundle) : Byte :=
  let one := x.supervisor.path.one
  let two := x.supervisor.path.two
  flagField (x.state.running && match x.active.map Record.pathMode with
    | none => false
    | some .merged => one.state != .up && two.state != .up
    | some .single => one.state != .up
    | some .selected => (one.state != .up || one.farFlag) && (two.state != .up || two.farFlag))

/-- READ_PATH of bundle `b` (R59, R137, R138, R149, Table 52). Log entries: 12 the path mode of a FREE bundle
and the far-end announcement, 54 the fields no rule gives, 60 the presence byte of the start wait. -/
def pathContent (s : State) (b : BundleId) : List Byte :=
  let x := s.bun b
  let y := x.supervisor.selector
  pathField s x.supervisor.path.one ++ pathField s x.supervisor.path.two
    ++ bytesOf 1 ((x.active.map fun r => r.pathMode.code).getD 0)
    ++ [usableField x, downField x] ++ leftField s 1 x.supervisor.startWait
    ++ bytesOf 1 y.active.code
    ++ (match y.request with
      | .none => ([0, 0] : List Byte)
      | .lockout => [1, 0]
      | .forced q => 2 :: bytesOf 1 q.code
      | .manual q => 3 :: bytesOf 1 q.code)
    ++ leftField s 2 y.holdOff ++ leftField s 3 y.restore ++ leftField s 1 y.mismatchTimer
    ++ bytesOf 1 ((y.announcement.map fun z => z.code + 1).getD 0)
    ++ [yesField y.mismatch, if x.state = .playing then usableField x else 0]
    ++ bytesOf 4 y.switches ++ bytesOf 4 y.mismatches

/-- CAPTURE_READ of a slot (R76, Table 74, spec/10 10.4). -/
def captureContent (x : Capture) : List Byte :=
  match x.state with
  | .empty => ([0] : List Byte)
  | .armed => [1]
  | .full c =>
    [2, flagField x.missed] ++ bytesOf 1 c.port.code ++ bytesOf 1 c.position
      ++ (match c.action with
        | .deliverFixed b => (0 : Byte) :: bytesOf 1 b.val
        | .deliverByLabel => [1, 0]
        | .discard => [2, 0])
      ++ bytesOf 1 c.outcome.code
      ++ bytesOf 1 ((c.chosen.map fun b => b.val).getD 0) ++ bytesOf 4 c.arrival.toNat
      ++ addressBytes c.source ++ optField 2 (c.tag.map fun g => (g &&& 0xEFFF).toNat)
      ++ c.header ++ c.payload

/-- The steering status of a port (R159, Table 61). -/
def steeringField (s : State) (p : TribId) : Byte :=
  match (s.trib p).cfg.clock with
  | .system | .loop => 0
  | .steered b =>
    if (s.bun b).isOn p = false then 1
    else if (s.bun b).state = .playing ∧ (s.bun b).playout.adjust = none then 3
    else 2

/-- TIMING_STATUS: the nine candidates, the selector, the eight tributary ports (R155, R163; the widths by
log entry 12). -/
def timingContent (s : State) : List Byte :=
  ((Candidate.station :: allTribs.map Candidate.trib).map fun c =>
      let x := s.timing.candidate c
      bytesOf 1 x.priority ++ bytesOf 2 x.qualify ++ [yesField x.valid] ++ bytesOf 1 x.state.code
        ++ leftField s 3 x.timer
        ++ (match x.frequency with
          | none => ([0, 0, 0, 0, 0] : List Byte)
          | some f => 1 :: signedField 4 f)
        ++ bytesOf 4 x.losses).flatten
    ++ (match s.timing.mode with
      | .auto => ([0, 0] : List Byte)
      | .forced c => 1 :: bytesOf 1 c.code
      | .free => [2, 0])
    ++ (match s.timing.state with
      | .freeRun => ([0, 0] : List Byte)
      | .locked c => 1 :: bytesOf 1 c.code
      | .holdover => [2, 0])
    ++ [yesField s.timing.everLocked] ++ signedField 4 s.timing.holdover
    ++ signedField 4 (match s.timing.state with
      | .freeRun => 0
      | .holdover => s.timing.holdover
      | .locked c => Config.lineFrequency c s.now)
    ++ bytesOf 4 s.timing.holdoverEntries
    ++ (allTribs.map fun p =>
      let x := (s.trib p).steer
      (match (s.trib p).cfg.clock with
        | .system => ([0, 0] : List Byte)
        | .loop => [1, 0]
        | .steered b => 2 :: bytesOf 1 b.val)
        ++ [steeringField s p] ++ signedField 3 x.integrator ++ signedField 3 x.offset
        ++ bytesOf 2 x.samples ++ signedField 4 x.lastSum
        ++ [x.completed, x.abandoned, x.clamps].flatMap (bytesOf 4)).flatten

/-- A section's content, after its code, is shorter than its counts or its fixed layout call for (R176, R182,
R183; the fixed layouts by log entry 20). -/
abbrev SectionShort (x : Byte × List Byte) : Prop :=
  x.1 = 1 ∧ x.2.length < 15 ∨ x.1 = 2 ∧ x.2.length < 72 ∨ x.1 = 3 ∧ x.2.length < 29 ∨
    x.1 = 4 ∧ (x.2 = [] ∨ x.2.length < 9 * fieldAt x.2 0 1 + 2 ∨
      x.2.length < 9 * fieldAt x.2 0 1 + 9 * fieldAt x.2 (9 * fieldAt x.2 0 1 + 1) 1 + 2) ∨
    x.1 = 5 ∧ (x.2 = [] ∨ x.2.length < 50 * fieldAt x.2 0 1 + 1)

/-! ## Capacities and ranges -/

/-- An event queue holds at most 32 records (R173). -/
def QueueBounded (c : Ctrl) : Prop := c.queue.length ≤ 32

/-- A network port's acceptance list holds at most 48 entries and its transmit queue at most 64 (R69,
R50). -/
def NetBounded (x : Net) : Prop := x.list.length ≤ 48 ∧ x.queued ≤ 64

/-- A tributary port's steering integrator and offset lie within ±65536, its shifts in their ranges
(R161, R1). -/
def TribBounded (x : Trib) : Prop :=
  -65536 ≤ x.steer.integrator ∧ x.steer.integrator ≤ 65536
    ∧ -65536 ≤ x.steer.offset ∧ x.steer.offset ≤ 65536
    ∧ 6 ≤ x.cfg.kp ∧ x.cfg.kp ≤ 18 ∧ 8 ≤ x.cfg.ki ∧ x.cfg.ki ≤ 20

/-- Every queue and list of the part stays within the capacity the manual gives it, and so do the fault count and the
ranged settings. -/
structure Bounded (s : State) : Prop where
  queues : ∀ cp, QueueBounded (s.ctrl cp)
  nets : ∀ n, NetBounded (s.net n)
  held : ∀ b, (s.bun b).assembly.held.length ≤ 4
  tribs : ∀ t, TribBounded (s.trib t)
  faults : s.faults.count ≤ 255
  bundleType : bundleTypeValid s.settings.bundleType = true
  idleLimit : 1 ≤ s.settings.idleLimit ∧ s.settings.idleLimit ≤ 60

/-- Each of these 32-bit counters is within its range (spec/00_scope.md 4.1). -/
def Counts (xs : List Nat) : Prop := ∀ n ∈ xs, n ≤ 4294967295

/-- Every 32-bit saturating counter of the part is within its range, and so are the start count (R94), the run of
EARLY packets (R88) and the samples of a steering interval (R161). -/
structure CountersBounded (s : State) : Prop where
  ctrls : ∀ cp, Counts [(s.ctrl cp).lostCount, (s.ctrl cp).taken, (s.ctrl cp).overruns,
    (s.ctrl cp).badFrames, (s.ctrl cp).unknownKinds]
  hits : ∀ n, Counts ((s.net n).list.map fun e => e.hits)
  rx : ∀ n x, (s.net n).rx = x → Counts [x.whileDown, x.fcsError, x.notMine, x.otherType, x.malformed,
    x.unmatched, x.listDiscard, x.delivered]
  tx : ∀ n x, (s.net n).tx = x → Counts [x.joined, x.evicted, x.dropped, x.withdrawn, x.flushed, x.sent,
    x.aborted]
  tribs : ∀ p x, s.trib p = x → Counts [x.signalLosses, x.aisEntries, x.alignLosses, x.erroredWords,
    x.steer.completed, x.steer.abandoned, x.steer.clamps]
  samples : ∀ p, (s.trib p).steer.samples ≤ 8192
  timing : Counts (s.timing.holdoverEntries :: s.timing.candidates.toList.map fun c => c.losses)
  assembly : ∀ b x, (s.bun b).assembly = x → Counts [x.completed, x.originFaults, x.queued, x.notOffered,
    x.superseded]
  playout : ∀ b x, (s.bun b).playout.counters = x → Counts [x.stored, x.late, x.mergeCopy, x.duplicate,
    x.early, x.standby, x.resyncs, x.slipped, x.played, x.playedPath1, x.playedPath2, x.originFaultPlayed,
    x.missing, x.underruns, x.inserted, x.skipped, x.parityFrames]
  start : ∀ b, (s.bun b).playout.startCount ≤ 65535
  early : ∀ b, (s.bun b).playout.earlyRun ≤ 7
  delay : ∀ b p x, (s.bun b).delay.record.atPath p = x → Counts [x.samples, x.implausible, x.unechoed,
    x.routeSteps, x.echoExpiries]
  paths : ∀ b p x, (s.bun b).supervisor.path.atPath p = x → Counts [x.ups, x.losses, x.onsets]
  selector : ∀ b x, (s.bun b).supervisor.selector = x → Counts [x.switches, x.mismatches]
  delivery : ∀ b x, (s.bun b).delivery = x → Counts [x.accepted, x.inactive, x.misrouted, x.wrongSize]

/-! ## The bundle table -/

/-- An active record is present in every state but FREE (R19), and the pool charges sum to at most 4096
packet slots (R27). -/
structure TableSound (s : State) : Prop where
  active : ∀ b, (s.bun b).active.isSome = true ↔ (s.bun b).state ≠ .free
  pool : s.poolSum ≤ 4096

/-- A record of bundle `b` in force: its active or its armed record. -/
def InForce (s : State) (b : BundleId) (r : Record) : Prop :=
  (s.bun b).active = some r ∨ (s.bun b).armedRecord = some r

/-- An active or armed record of some bundle names port `p` (R2). -/
def Named (s : State) (p : TribId) : Prop := ∃ b r, InForce s b r ∧ r.port = p

/-- No slot of a tributary port lies in the active or armed records of two bundles at once (R25). -/
def SlotsExclusive (s : State) : Prop :=
  ∀ b c q r, b ≠ c → InForce s b q → InForce s c r → q.port = r.port →
    ∀ n, n ∈ q.slots.toList → n ∉ r.slots.toList

/-- The slot form of a record in force matches the kind of the port it names, which is not DISABLED
(R2, R23 step 5). -/
def KindsMatch (s : State) : Prop :=
  ∀ b r, InForce s b r → kindMatches (s.trib r.port).cfg.kind r.slots = true

/-- A record whose slot set and FPP give at least one byte, of at most 32 slots (Table 10). -/
def RecordSound (r : Record) : Prop := 1 ≤ r.slots.count ∧ r.slots.count ≤ 32 ∧ 1 ≤ r.fpp

/-- Every record is sound, pending, active or armed, and every record in force has a slot count × FPP
between 1 and 512 (R24). -/
structure PayloadSound (s : State) : Prop where
  pending : ∀ b, RecordSound (s.bun b).pending
  sound : ∀ b r, InForce s b r → RecordSound r
  inForce : ∀ b r, InForce s b r → 1 ≤ r.slots.count * r.fpp ∧ r.slots.count * r.fpp ≤ 512

/-- The pending record of a bundle that is not claimed equals its active record, or the defaults where
there is none, and no activation of it is armed (R19, R22). -/
def ClaimsSound (s : State) : Prop :=
  ∀ b, s.holder (.bundle b) = none →
    (s.bun b).armed = none ∧ (s.bun b).pending = (s.bun b).active.getD Record.default

/-- A command that finds no active record changed in its memory: every command but a RECORD_PATROL that
reads a record otherwise than as written (R40). -/
def Uncorrupted : Instr → Prop
  | .recordPatrol reads => reads = []
  | _ => True

/-! ## The rings -/

/-- A ring has no slots, or a number of them that divides 65536 (R26, spec/05 5.1). -/
def RingSize (n : Nat) : Prop := n = 0 ∨ n ∣ 65536

/-- A held packet lies in the slot of its sequence, at a distance from the head below R (R85). -/
def SlotPlaced (p : Playout) (i : Nat) (x : RingSlot) : Prop :=
  x.seq.toNat % p.ring.length = i ∧ ∃ h, p.head = some h ∧ (x.seq - h).toNat < p.ring.length

/-- A playout ring holds at most one packet per sequence number, and every held sequence s satisfies
0 ≤ (s − H) mod 65536 < R (R85). -/
def RingSound (p : Playout) : Prop := ∀ i x, p.ring[i]? = some (some x) → SlotPlaced p i x

/-- A ring with packet `k` in the slot of its sequence, an undefined head becoming that sequence (R85). -/
def inRing (p : Playout) (k : Packet) : Playout :=
  { p with
    ring := p.ring.set (k.header.seq.toNat % p.ring.length) (some k.slot)
    head := some (p.head.getD k.header.seq) }

/-- A store of packet `k` passed WAIT_PACKET, if the bundle was in it: COUNTDOWN for a FIXED bundle or one
with an estimate, otherwise WAIT_ESTIMATE with its 1 s timer, the start count 0 (R92, R93, R96). -/
def PhaseAfterStore (s : State) (x : Bundle) (r : Record) (q : Playout) : Prop :=
  let p := x.playout
  if (x.state = .filling ∨ x.state = .down) ∧ p.phase = .waitPacket then
    q.startCount = 0 ∧
      if r.delayMode = .fixed ∨ x.delay.estimate r.pathMode x.supervisor.selector.active ≠ none then
        q.phase = .countdown ∧ q.estimateWait = p.estimateWait
      else q.phase = .waitEstimate ∧ q.estimateWait = some (s.now + 125000000)
  else q.phase = p.phase ∧ q.startCount = p.startCount ∧ q.estimateWait = p.estimateWait

/-- The head slipped forward from `h0` to `h` in ring `p`, which gave `q`: everything held before `h` is
discarded, a period in progress is abandoned, and the head went no further than the fill `top` or the stored
sequence `seq` asks (R91). -/
structure Slipped (p q : Playout) (fpp top : Nat) (seq h0 h : Seq) : Prop where
  head : q.head = some h
  enough : q.fill fpp ≤ top ∨ h = seq
  first : h = h0 ∨ h = h0 + 1 ∨ top < q.fill fpp + fpp
  abandoned : h ≠ h0 → q.period = .none ∧ q.played = 0
  kept : ∀ n, q.slotFor n = if (n - h0).toNat < (h - h0).toNat then none else p.slotFor n

/-- Packet `k` was stored in the ring of bundle `b`, whose playout state was `p` (R85, R91 to R93). -/
structure StoredBy (s t : State) (b : BundleId) (r : Record) (k : Packet) (p : Playout) : Prop where
  frame : t.bun b = { s.bun b with playout := (t.bun b).playout }
  counted : (t.bun b).playout.counters = { p.counters with
    stored := bump p.counters.stored
    slipped := (t.bun b).playout.counters.slipped }
  run : (t.bun b).playout.earlyRun = 0
  phase : PhaseAfterStore s (s.bun b) r (t.bun b).playout
  adjust : (t.bun b).playout.adjust = p.adjust
  held : RingSound p → 0 < p.ring.length →
    (t.bun b).playout.slotFor k.header.seq = some k.slot
  fits : (inRing p k).fill r.fpp ≤ min r.maxDepth (((s.bun b).ringSize - 2) * r.fpp) →
    (t.bun b).playout.ring = (inRing p k).ring ∧ (t.bun b).playout.head = (inRing p k).head ∧
      (t.bun b).playout.period = p.period ∧ (t.bun b).playout.played = p.played ∧
      (t.bun b).playout.counters.slipped = p.counters.slipped ∧ t.ctrls = s.ctrls
  slips : RingSound p → 0 < p.ring.length → ∀ top,
    top = min r.maxDepth (((s.bun b).ringSize - 2) * r.fpp) → top < (inRing p k).fill r.fpp →
    ∃ h n, Slipped (inRing p k) (t.bun b).playout r.fpp top k.header.seq
        (p.head.getD k.header.seq) h ∧
      n + (t.bun b).playout.heldSlots.length = (inRing p k).heldSlots.length ∧
      (t.bun b).playout.counters.slipped = bumpBy p.counters.slipped n ∧
      Posts s t [eventNow s .depthSlip (.bundle b) (n * 65536 + h.toNat)]

/-- The playout state of a bundle whose ring the eighth EARLY packet in a row has emptied (R83, R88). -/
def resynced (p : Playout) : Playout :=
  { p with
    ring := List.replicate p.ring.length none
    head := none
    period := .none
    played := 0
    phase := .waitPacket
    startCount := 0
    estimateWait := none
    earlyRun := 0
    adjust := none
    atStart := .none
    counters := { p.counters with
      early := bump p.counters.early
      resyncs := bump p.counters.resyncs } }

/-- The events of a resync of bundle `b` from head `h` by sequence `q`: the end of a running depth adjustment,
and PLAYOUT_RESYNC (R88, R105, Table 73a). -/
def resyncEvents (s : State) (b : BundleId) (q h : Seq) : List Event :=
  (if (s.bun b).playout.adjust = none then []
    else [eventNow s .depthAdjust (.bundle b) (3 * 67108864)]) ++
    [eventNow s .playoutResync (.bundle b) (h.toNat * 65536 + q.toNat)]

/-- Bundle `b` resynchronised at sequence `q` with its head at `h`: its ring is empty, and a PLAYING bundle
has entered FILLING, its proposal dropped, the ports steered from it having abandoned their intervals, and
has its target computed (R39, R88, R124 item 5, R162). -/
structure Resynced (s t : State) (b : BundleId) (q h : Seq) : Prop where
  ring : (t.bun b).playout = resynced (s.bun b).playout
  state : (t.bun b).state = if (s.bun b).state = .playing then .filling else (s.bun b).state
  kept : (s.bun b).state ≠ .playing →
    t.bun b = { s.bun b with playout := resynced (s.bun b).playout } ∧ t.tribs = s.tribs ∧
      Posts s t (resyncEvents s b q h)
  falls : (s.bun b).state = .playing → ∃ u, t = u.computeTarget b ∧
    u = { s with bundles := u.bundles, tribs := u.tribs, ctrls := u.ctrls } ∧ OtherBundles s u b ∧
    u.bun b = { s.bun b with
      state := .filling
      playout := resynced (s.bun b).playout
      delay := { (s.bun b).delay with proposed := none } } ∧
    SteeringAbandoned s u b ∧
    Posts s u (resyncEvents s b q h ++ [bundleStateEvent s b .playing .filling .resync])

/-- Every bundle's ring is sound, and every ring size is one that R26 gives. -/
structure RingsSound (s : State) : Prop where
  ring : ∀ b, RingSound (s.bun b).playout
  size : ∀ b, RingSize (s.bun b).playout.ring.length
  armed : ∀ b n, (s.bun b).armed = some n → RingSize n

/-! ## Lines and clock candidates -/

/-- The receive states a kind has (Table 6). -/
def stateLegal : TribKind → RxState → Bool
  | .disabled, .off => true
  | .framed, .noSignal | .framed, .ais | .framed, .search | .framed, .aligned => true
  | .unframed, .noSignal | .unframed, .ais | .unframed, .present => true
  | _, _ => false

/-- Remote alarm in is clear, its runs are zero, in every state but ALIGNED (R10). -/
def AlarmClear (x : Trib) : Prop :=
  x.rx ≠ .aligned → x.remoteAlarm = false ∧ x.onesRun = 0 ∧ x.zerosRun = 0

/-- Every line is in a state its kind has, its remote alarm clear and no alignment frame due outside
ALIGNED, and its candidate is valid in ALIGNED and PRESENT alone (Table 6, R7, R10, R151). -/
structure LinesSound (s : State) : Prop where
  legal : ∀ t, stateLegal (s.trib t).cfg.kind (s.trib t).rx = true
  alarm : ∀ t, AlarmClear (s.trib t)
  turn : ∀ t, (s.trib t).rx ≠ .aligned → (s.trib t).alignNext = false
  valid : ∀ t, (s.timing.candidate (.trib t)).valid = (s.trib t).rx.onLine

/-- A locked candidate is AVAILABLE, and in AUTO its priority is not 0 (R153). -/
def LockSound (x : Timing) : Prop :=
  ∀ c, x.state = .locked c →
    (x.candidate c).state = .available ∧ (x.mode = .auto → (x.candidate c).priority ≠ 0)

/-- The selector's lock is sound, a LOCKED selector has been locked, and a candidate is UNAVAILABLE
exactly while it is not valid (R152, R153). -/
structure TimingSound (s : State) : Prop where
  lock : LockSound s.timing
  ever : ∀ c, s.timing.state = .locked c → s.timing.everLocked = true
  unavailable : ∀ c,
    (s.timing.candidate c).state = .unavailable ↔ (s.timing.candidate c).valid = false

/-! ## Links -/

/-- A port whose link is DOWN has nothing queued and transmits nothing; one that is UP does not qualify
(R54, R63). -/
structure LinkSound (x : Net) : Prop where
  empty : x.up = false → x.queued = 0
  idle : x.up = false → x.transmitter = .idle
  settled : x.up = true → x.qualification = none

/-- Both links are sound. -/
def LinksSound (s : State) : Prop := ∀ n, LinkSound (s.net n)

end Sys2Proof.Safety
end

