-- ==== Sys2Proof/WellFormed.lean ====
section
/-!
DEFINITION. WellFormed: the commands that a partner of the part can send. A request's numbers fit the
bytes R181 gives their fields; a slot set is one that a mask can carry; an ignored transfer does not
begin with one of the two direction bytes; a corruption lies within a payload and changes it.
-/

namespace Sys2Proof

open Machine

/-- A number fits `n` bytes. -/
def fits (n v : Nat) : Bool := v < 256 ^ n

/-- A slot set that a 32-bit mask carries (R181). -/
def SlotSet.wf : SlotSet → Bool
  | .all => true
  | .list xs => maskSlots (slotMask xs) == xs && slotMask xs < 4294967295

/-- A tag that two bytes carry (R181, spec/10 10.1). -/
def Tag.wf (t : Tag) : Bool := t.priority < 8 && t.id < 4096

/-- An absent tag, or one that two bytes carry. -/
def optTagWf : Option Tag → Bool
  | none => true
  | some t => t.wf

/-- A record that 49 bytes carry (Table 10, R181). -/
def RawRecord.wf (r : RawRecord) : Bool :=
  fits 1 r.port && r.slots.wf && fits 1 r.fpp && fits 2 r.txLabel && fits 2 r.rxLabel
    && fits 1 r.pathMode && fits 1 r.portMap && fits 2 r.maxDepth && optTagWf r.tag
    && fits 1 r.pclass && fits 1 r.delayMode && fits 2 r.targetDepth && fits 2 r.targetDelay
    && fits 2 r.initialDepth && fits 1 r.eqApply && fits 1 r.deadband && fits 1 r.pace
    && fits 1 r.substitution && fits 1 r.shiftK && fits 2 r.stepThreshold && fits 1 r.stepCount
    && fits 1 r.alertHold && fits 1 r.lossTime && fits 1 r.holdOff && fits 2 r.waitRestore
    && fits 1 r.primary && fits 1 r.authority

/-- A tributary configuration that 8 bytes carry (Table 5, R181). -/
def RawTribConfig.wf (x : RawTribConfig) : Bool :=
  fits 1 x.kind && fits 1 x.clock && fits 1 x.clockArg && fits 1 x.alert && fits 1 x.kp && fits 1 x.ki

/-- An absent capture number, or one that a byte carries. -/
def captureWf : Option Nat → Bool
  | none => true
  | some n => fits 1 n

/-- An entry that 9 bytes carry (Table 27, R181). -/
def RawEntry.wf (x : RawEntry) : Bool :=
  fits 2 x.label && fits 2 x.mask && fits 1 x.action && fits 1 x.actionArg && captureWf x.capture

/-- Settings that 15 bytes carry (Table 65, R181). -/
def RawSettings.wf (x : RawSettings) : Bool := fits 2 x.bundleType && fits 1 x.idleLimit

/-- A section that two bytes carry (R171, R181). -/
def RawSection.wf (x : RawSection) : Bool := fits 1 x.cls && fits 1 x.num

/-- A priority and a qualify time that three bytes carry (R156, R181). -/
def RawPriority.wf (x : RawPriority) : Bool := fits 1 x.priority && fits 2 x.qualify

/-- A corruption within a payload of at most 512 bytes, which changes at least one bit (R106). -/
def Upset.wf (x : Upset) : Bool := x.pos < 512 && x.mask != 0

/-- A command that a partner of the part can send. -/
def Instr.wf : Instr → Bool
  | .requestWrite _ _ => true
  | .responseRead _ _ => true
  | .transferIgnored _ dir _ => dir != 0x5A && dir != 0xA5
  | .readIdentity _ => true
  | .readSettings _ => true
  | .writeSettings _ x => x.wf
  | .openEdit _ x => x.wf
  | .closeEdit _ x => x.wf
  | .readBundle _ b _ => fits 1 b
  | .writePending _ b x => fits 1 b && x.wf
  | .activate _ b => fits 1 b
  | .start _ b => fits 1 b
  | .stop _ b => fits 1 b
  | .free _ b => fits 1 b
  | .readPlayout _ b => fits 1 b
  | .readDelay _ b p => fits 1 b && fits 1 p
  | .clearDelayExtremes _ b p => fits 1 b && fits 1 p
  | .applyEqualisation _ b => fits 1 b
  | .readPath _ b => fits 1 b
  | .pathCommand _ b req q => fits 1 b && fits 1 req && fits 1 q
  | .listInsert _ n i x => fits 1 n && fits 1 i && x.wf
  | .listRemove _ n i => fits 1 n && fits 1 i
  | .listReplace _ n i x => fits 1 n && fits 1 i && x.wf
  | .listRead _ n => fits 1 n
  | .captureArm _ c => fits 1 c
  | .captureRead _ c => fits 1 c
  | .tribConfig _ t x => fits 1 t && x.wf
  | .tribStatus _ t => fits 1 t
  | .portStatus _ n => fits 1 n
  | .timingConfig _ x => x.toList.all RawPriority.wf
  | .timingCommand _ m c => fits 1 m && fits 1 c
  | .timingStatus _ => true
  | .readEvents _ => true
  | .readFaults _ => true
  | .clearFaults _ => true
  | .saveImage _ => true
  | .warmReset _ => true
  | .fullReset => true
  | .imageLoad _ => true
  | .memoryReadyTimeout => true
  | .saveReadBack _ => true
  | .saveTimeout => true
  | .lossOfSignal _ => true
  | .receiveClockTimeout _ => true
  | .recoveryBlockComplete _ _ => true
  | .aisBlockComplete _ _ => true
  | .alignmentFound _ _ => true
  | .alignmentWord _ _ => true
  | .nonAlignmentWord _ _ => true
  | .receiveFrame _ _ => true
  | .transmitFrameStart _ upsets => upsets.all Upset.wf
  | .activationTakesEffect _ => true
  | .playoutStart _ => true
  | .adjustStep _ => true
  | .steeringIntervalEnd _ => true
  | .linkIndicationAppears _ => true
  | .linkIndicationLost _ _ _ => true
  | .linkQualificationExpiry _ => true
  | .frameTaken _ _ _ _ => true
  | .frameSent _ => true
  | .interFrameGapEnd _ => true
  | .estimateWaitExpiry _ => true
  | .alertTimerExpiry _ => true
  | .lossTimerExpiry _ _ => true
  | .startWaitExpiry _ => true
  | .holdOffExpiry _ => true
  | .waitToRestoreExpiry _ => true
  | .mismatchTimerExpiry _ => true
  | .recordPatrol _ => true
  | .stationActivityLoss => true
  | .measurementWindowEnd _ _ => true
  | .qualifyTimerExpiry _ => true
  | .idleTimerExpiry _ => true
  | .recoveryBlockBegins _ => true
  | .responsePrepared _ => true

end Sys2Proof
end

