-- ==== Sys2Proof/Certificates/Slice0/Obligations.lean ====
section
/-!
DEFINITION. Obligations: the statements about the KB-816 that are to be proved. Each docstring names the
rules its statement rests on; the predicates they use stand in Sys2Proof/Safety.lean.
-/

open Sys2Proof Sys2Proof.Machine Sys2Proof.Safety

/-- A step runs the command at the front of the queue; with none waiting the device clock ticks
(95_what_each_step_holds.md, 98_reader.md, 06_delay_measurement_and_equalisation.md 6.1,
notes/assumptions/1.md). -/
def Obligations.StepRunsTheFrontCommandOrTicks : Prop :=
  ∀ s : State,
    (∀ (c : Instr) (rest : List Instr), s.pending = c :: rest →
      step s = exec c { s with pending := rest }) ∧
    (s.pending = [] →
      ∃ t, step s = .next t ∧ t = { s with now := t.now } ∧ t.timeCount = s.timeCount + 1)

/-- FULL_RESET leaves every block at its full reset values, the image load begun (R18, R42, R49,
R81, R109, R133). The kept inputs and queue (log entry 19) and the values the manual does not state
(log entry 5) are the model's choices. -/
def Obligations.FullResetLeavesTheResetValues : Prop :=
  ∀ s : State, ∃ t, exec .fullReset s = .next t ∧ t.now = 0 ∧ t.load = .loading ∧
    (∀ b, t.bun b = {
      active := none
      pending := Record.default
      state := .free
      armed := none
      check := 0
      recordFault := false
      ringSize := 0
      assembly := Assembly.start
      playout := Playout.fresh 0
      delay := Delay.zero
      supervisor := Supervisor.zero .p1
      delivery := ⟨0, 0, 0, 0⟩ }) ∧
    (∀ p, t.trib p = Trib.default) ∧
    (∀ n, t.net n = {
      up := false
      indication := (s.net n).indication
      qualification := if (s.net n).indication then some 6250000 else none
      list := []
      protection := []
      priority := []
      routine := []
      transmitter := .idle
      rx := ⟨0, 0, 0, 0, 0, 0, 0, 0⟩
      tx := ⟨0, 0, 0, 0, 0, 0, 0⟩ }) ∧
    (∀ c : CaptureId, t.captures[c] = ⟨.empty, false⟩) ∧
    t.timing = Timing.default ∧ (∀ cp, t.ctrl cp = Ctrl.default) ∧ (∀ c, t.holder c = none) ∧
    t.settings = ⟨0x020000000001, 0x020000000002, 0x88B6, 4⟩ ∧
    t.faults = ⟨none, none, 0⟩ ∧ t.save = none ∧ t.lastSave = .none ∧ t.pending = s.pending

/-- The state after a full reset meets every invariant stated here (R18, R42, R81, R164, 00_scope.md
4.1). -/
def Obligations.ResetMeetsEveryInvariant : Prop :=
  Bounded State.reset ∧ CountersBounded State.reset ∧ TableSound State.reset ∧ SlotsExclusive State.reset ∧
    KindsMatch State.reset ∧ PayloadSound State.reset ∧ ClaimsSound State.reset ∧
    RingsSound State.reset ∧ LinesSound State.reset ∧ TimingSound State.reset ∧
    LinksSound State.reset

/-- Every step keeps every queue and list within its capacity and every saturating counter within
its range (R1, R48, R50, R69, R88, R94). -/
def Obligations.EveryStepKeepsCapacities : Prop :=
  ∀ s t : State, step s = .next t →
    (Bounded s → Bounded t) ∧ (CountersBounded s → CountersBounded t)

/-- Every step keeps the pool charges within 4096 packet slots (R19, R27, R29). -/
def Obligations.EveryStepKeepsTheBundleTable : Prop :=
  ∀ s t : State, TableSound s → step s = .next t → TableSound t

/-- Records in force keep exclusive slots, matching kinds and payloads of 1 to 512 bytes; unclaimed
ones settle (R2, R19, R22, R23, R24, R25). -/
def Obligations.EveryStepKeepsTheRecordsInForce : Prop :=
  ∀ s t : State, (∀ c rest, s.pending = c :: rest → Uncorrupted c) → step s = .next t →
    (SlotsExclusive s → SlotsExclusive t) ∧ (KindsMatch s → KindsMatch t) ∧
    (PayloadSound s → PayloadSound t) ∧ (ClaimsSound s → ClaimsSound t)

/-- Every step keeps each held packet in the slot of its sequence and within R of the head (R26,
R85, 05_playout_buffers.md 5.1). -/
def Obligations.EveryStepKeepsRingPlacement : Prop :=
  ∀ s t : State, RingsSound s → step s = .next t → RingsSound t

/-- Every step keeps each line in a state of its kind, its remote alarm clear outside ALIGNED (R2,
R4, R6, R7, R8, R10). -/
def Obligations.EveryStepKeepsLines : Prop :=
  ∀ s t : State, LinesSound s → step s = .next t → LinesSound t

/-- A LOCKED selector's candidate is AVAILABLE after every step (R152, R153, Table 57, Table 59). -/
def Obligations.EveryStepKeepsTheSelectorLock : Prop :=
  ∀ s t : State, TimingSound s → step s = .next t → TimingSound t

/-- A port whose link is DOWN has nothing queued and sends nothing (R47, R54, R62, R63). -/
def Obligations.EveryStepKeepsLinks : Prop :=
  ∀ s t : State, LinksSound s → step s = .next t → LinksSound t

/-- Every request is read back from its frame with every operand (R180, R181, Table 71). The codes
of yes and no are the model's reading (log entry 11). -/
def Obligations.RequestFramesReadBack : Prop :=
  ∀ (i : Instr) (cp : CtrlPort) (kind : Nat) (ps extra : List Byte),
    i.wf = true → requestBytes i = some (cp, kind, ps) →
    readFrame (requestFrame kind ps ++ extra) = .good kind ps ∧
      paramLength kind = some ps.length ∧ requestOf cp kind ps = some i

/-- The image of a save passes every check of the load and gives back what was saved (R175, R176,
R182, R183). The codes of yes and no are the model's reading (log entry 11). -/
def Obligations.SavedImagePassesTheLoadChecks : Prop :=
  ∀ s : State, Bounded s →
    (∀ b r, (s.bun b).active = some r → r.raw.wf = true) →
    (∀ n, ∀ e ∈ (s.net n).list, e.entry.raw.wf = true) →
    (∀ p ∈ s.timing.raw.toList, p.wf = true) →
    checkImage s.imageOf = .passed
      [.settings s.settings.raw,
       .tribs (allTribs.map fun p => (p.val, (s.trib p).cfg.raw)),
       .timing s.timing.raw s.timing.mode.codes.1 s.timing.mode.codes.2,
       .lists ((s.net .east).list.map fun e => e.entry.raw)
         ((s.net .west).list.map fun e => e.entry.raw),
       .bundles (s.savedBundles.map fun x => (x.1.val, x.2.raw))]

/-- A request write is taken, discarded with Overrun, or answered BAD_FRAME (R165, R166, R172, R180,
notes/assumptions/67.md). That a decoded request waits as a command of its own (log entry 15) and
that an unknown kind is counted when it is taken (log entry 17) are the model's choices, and so is
that a read left in progress has ended (log entry 67). -/
def Obligations.RequestWriteTakesDiscardsOrRefusesItsFrame : Prop :=
  ∀ (s : State) (cp : CtrlPort) (bs : List Byte),
    ∃ t, exec (.requestWrite cp bs) s = .next t ∧ t = { s with ctrls := t.ctrls } ∧
      t.ctrl cp.other = s.ctrl cp.other ∧
      (∀ kind, readFrame bs = .bad kind → (t.ctrl cp).idleTimer = (s.ctrl cp).idleTimer) ∧
      (∀ kind ps, readFrame bs = .good kind ps →
        (t.ctrl cp).idleTimer = some (s.now + s.settings.idleLimit * 125000000)) ∧
      ((s.ctrl cp).isWorking = true →
        t.ctrl cp = { s.ctrl cp with
          idleTimer := (t.ctrl cp).idleTimer
          reading := none
          overrun := true
          overruns := bump (s.ctrl cp).overruns }) ∧
      ((s.ctrl cp).isWorking = false → ∀ kind ps, readFrame bs = .good kind ps →
        paramLength kind = some ps.length →
        ∃ i, requestOf cp kind ps = some i ∧ t.ctrl cp = { s.ctrl cp with
          idleTimer := (t.ctrl cp).idleTimer
          reading := none
          transfer := .working ⟨kind, some i⟩
          outcome := none
          taken := bump (s.ctrl cp).taken }) ∧
      ((s.ctrl cp).isWorking = false → ∀ kind ps, readFrame bs = .good kind ps →
        paramLength kind = none →
        t.ctrl cp = { s.ctrl cp with
          idleTimer := (t.ctrl cp).idleTimer
          reading := none
          transfer := .working ⟨kind, none⟩
          outcome := some ⟨kind, .unknownKind, []⟩
          taken := bump (s.ctrl cp).taken
          unknownKinds := bump (s.ctrl cp).unknownKinds }) ∧
      ((s.ctrl cp).isWorking = false → ∀ kind,
        (readFrame bs = .bad kind ∨
          ∃ ps m, readFrame bs = .good kind ps ∧ paramLength kind = some m ∧ m ≠ ps.length) →
        t.ctrl cp = { s.ctrl cp with
          idleTimer := (t.ctrl cp).idleTimer
          reading := none
          transfer := .ready ⟨kind, .badFrame, []⟩ (s.ctrl cp).overrun
          overrun := false
          outcome := none
          badFrames := bump (s.ctrl cp).badFrames })

/-- A decided outcome becomes the response, a read delivers it in one piece or several, an ignored
transfer gives ones (R165, R167, R177, R180, Table 72, notes/assumptions/67.md). That an outcome of
another kind is not prepared (log entry 17), the pieces of a read and how a read left in progress
ends (log entry 67) are the model's choices. -/
def Obligations.ResponsesArePreparedAndRead : Prop :=
  ∀ (s : State) (cp : CtrlPort) (n : Nat),
    (∀ job r, (s.ctrl cp).transfer = .working job → (s.ctrl cp).outcome = some r →
      r.kind = job.kind →
      ∃ t, exec (.responsePrepared cp) s = .next t ∧ t = { s with ctrls := t.ctrls } ∧
        t.ctrl cp.other = s.ctrl cp.other ∧
        t.ctrl cp = { s.ctrl cp with
          transfer := .ready r (s.ctrl cp).overrun
          overrun := false
          outcome := none }) ∧
    ((∀ job r, (s.ctrl cp).transfer = .working job → (s.ctrl cp).outcome = some r →
        r.kind ≠ job.kind) →
      exec (.responsePrepared cp) s = .next s) ∧
    (∀ (ends : Bool) (x : ReadTransfer), (s.ctrl cp).reading.getD ⟨0, false, false⟩ = x →
      ∃ t out, exec (.responseRead cp ⟨n, ends⟩) s = .next t ∧ t = { s with ctrls := t.ctrls } ∧
        t.ctrl cp.other = s.ctrl cp.other ∧ out.length = n ∧
        t.ctrl cp = { s.ctrl cp with
          dataOut := (if (s.ctrl cp).reading = none then [] else (s.ctrl cp).dataOut) ++ out
          transfer := (t.ctrl cp).transfer
          reading := (t.ctrl cp).reading } ∧
        (∀ r overrun, x.cut = false → (x.sent = 0 ∨ x.delivering = true) →
          (s.ctrl cp).transfer = .ready r overrun →
          ∃ body done, body = bytesOf 1 r.kind ++ bytesOf 1 r.status.code ++
              [if overrun then 1 else 0] ++ bytesOf 2 r.content.length ++ r.content ∧
            done = decide (x.sent < body.length + 3 ∧ body.length + 3 ≤ x.sent + n) ∧
            (∀ i, i < n → out[i]? = some ((1 :: bytesOf 1 (s.ctrl cp).queue.length ++ body ++
              [checkOf body]).getD (x.sent + i) 0xFF)) ∧
            (t.ctrl cp).transfer = (if done then .idle else .ready r overrun) ∧
            (t.ctrl cp).reading = if ends then none else some ⟨x.sent + n, !done, false⟩) ∧
        (x.cut = false → ((∀ r overrun, (s.ctrl cp).transfer ≠ .ready r overrun) ∨
            (x.sent ≠ 0 ∧ x.delivering = false)) →
          (∀ i, i < n → out[i]? =
            some ((0 :: bytesOf 1 (s.ctrl cp).queue.length).getD (x.sent + i) 0xFF)) ∧
          (t.ctrl cp).transfer = (s.ctrl cp).transfer ∧
          (t.ctrl cp).reading = if ends then none else some ⟨x.sent + n, false, false⟩) ∧
        (x.cut = true → out = List.replicate n 0xFF ∧
          (t.ctrl cp).transfer = (s.ctrl cp).transfer ∧
          (t.ctrl cp).reading = if ends then none else some ⟨x.sent + n, false, true⟩)) ∧
    (∀ dir : Byte, dir ≠ 0x5A → dir ≠ 0xA5 →
      ∃ t, exec (.transferIgnored cp dir n) s = .next t ∧ t = { s with ctrls := t.ctrls } ∧
        t.ctrl cp.other = s.ctrl cp.other ∧
        t.ctrl cp = { s.ctrl cp with
          reading := none
          dataOut := List.replicate n 0xFF })

/-- The twelve reading requests are answered at any time, give the state they name and change
nothing (R17, R41, R73, R76, R80, R108). The model's choices: the length of a refused response (log
entry 8), widths, codes and presence bytes that R181 does not state (log entries 11, 12, 52, 56 and
60), remote alarm out in every state (42), fields of a FREE bundle or out of their state (49, 50,
51, 54 and 57), the path named at equal baselines (26), the free codes and line frequencies (6 and
9). A request is one that no warm reset has abandoned, or that its port is working on anew (R177,
log entry 15). -/
def Obligations.ReadRequestsChangeNothingButTheirOutcome : Prop :=
  (∀ (s : State) (i : Instr) (cp : CtrlPort) (kind : Nat) (found : Bool),
      reading i = some (cp, kind, found) → Carried s cp i →
      ∃ content, exec i s =
          .next (s.decide cp kind (if found then .ok else .badValue) content) ∧
        (∀ n, contentLength kind = some n → content.length = n)) ∧
    (∀ (s : State) (cp : CtrlPort) (b : BundleId) (copy : RecordCopy) (x : Bundle), s.bun b = x →
      Carried s cp (.readBundle cp b.val copy) →
      exec (.readBundle cp b.val copy) s = .next (s.decide cp 6 .ok (
        ((match copy, x.active with
          | .pending, _ => 1 :: x.pending.raw.bytes
          | .active, some r => 1 :: r.raw.bytes
          | .active, none => List.replicate 50 0 : List Byte)) ++
        bytesOf 1 x.state.code ++ [if x.recordFault then (1 : Byte) else 0] ++
        (match x.armed with
          | some size => 1 :: bytesOf 2 size
          | none => ([0, 0, 0] : List Byte)) ++
        bytesOf 2 x.ringSize ++ bytesOf 2 x.poolCharge ++
        (match s.holder (.bundle b) with
          | none => ([0] : List Byte)
          | some .cp1 => [1]
          | some .cp2 => [2]) ++
        bytesOf 2 (allBundles.map fun c => (s.bun c).poolCharge).sum))) ∧
    (∀ (s : State) (cp : CtrlPort) (p : TribId) (x : Trib), s.trib p = x →
      Carried s cp (.tribStatus cp p.val) →
      exec (.tribStatus cp p.val) s = .next (s.decide cp 25 .ok (
        x.cfg.raw.bytes ++ bytesOf 1 x.rx.code ++
        [if x.recovery then (1 : Byte) else 0, if x.remoteAlarm then 1 else 0,
          if x.rx = .aligned then 0 else 1,
          if allBundles.any (fun b => (s.bun b).isOn p && (s.bun b).delayAlert) then 1 else 0,
          if x.txAllOnes then 1 else 0] ++
        bytesOf 4 x.signalLosses ++ bytesOf 4 x.aisEntries ++ bytesOf 4 x.alignLosses ++
        bytesOf 4 x.erroredWords))) ∧
    (∀ (s : State) (cp : CtrlPort) (num : Nat) (n : NetPort) (x : Net), netOf num = some n →
      s.net n = x → Carried s cp (.portStatus cp num) →
      exec (.portStatus cp num) s = .next (s.decide cp 26 .ok (
        [if x.up then (1 : Byte) else 0, if x.qualification = none then 0 else 1] ++
        addressBytes (s.settings.station n) ++ bytesOf 2 s.settings.bundleType ++
        ([x.rx.whileDown, x.rx.fcsError, x.rx.notMine, x.rx.otherType, x.rx.malformed,
          x.rx.unmatched, x.rx.listDiscard, x.rx.delivered].flatMap (bytesOf 4)) ++
        bytesOf 1 x.list.length ++
        ([x.tx.joined, x.tx.evicted, x.tx.dropped, x.tx.withdrawn, x.tx.flushed, x.tx.sent,
          x.tx.aborted].flatMap (bytesOf 4)) ++
        bytesOf 1 x.protection.length ++ bytesOf 1 x.priority.length ++
        bytesOf 1 x.routine.length ++ [if x.transmitter = .idle then (0 : Byte) else 1]))) ∧
    (∀ (s : State) (cp : CtrlPort) (num : Nat) (n : NetPort) (xs : List ListEntry),
      netOf num = some n → (s.net n).list = xs → Carried s cp (.listRead cp num) →
      exec (.listRead cp num) s = .next (s.decide cp 21 .ok
        (bytesOf 1 xs.length ++
          (xs.map fun e => e.entry.raw.bytes ++ bytesOf 4 e.hits).flatten))) ∧
    (∀ (s : State) (cp : CtrlPort),
      (Carried s cp (.readIdentity cp) →
        exec (.readIdentity cp) s = .next (s.decide cp 1 .ok (identityContent s))) ∧
      (Carried s cp (.readSettings cp) →
        exec (.readSettings cp) s = .next (s.decide cp 2 .ok (settingsContent s))) ∧
      (Carried s cp (.timingStatus cp) →
        exec (.timingStatus cp) s = .next (s.decide cp 29 .ok (timingContent s)))) ∧
    (∀ (s : State) (cp : CtrlPort) (b : BundleId),
      (Carried s cp (.readPlayout cp b.val) →
        exec (.readPlayout cp b.val) s = .next (s.decide cp 12 .ok (playoutContent s b))) ∧
      (Carried s cp (.readPath cp b.val) →
        exec (.readPath cp b.val) s = .next (s.decide cp 16 .ok (pathContent s b))) ∧
      (∀ p : Path, Carried s cp (.readDelay cp b.val p.code) →
        exec (.readDelay cp b.val p.code) s = .next (s.decide cp 13 .ok (delayContent s b p)))) ∧
    (∀ (s : State) (cp : CtrlPort) (c : CaptureId) (x : Capture), s.captures[c] = x →
      Carried s cp (.captureRead cp c.val) →
      exec (.captureRead cp c.val) s = .next (s.decide cp 23 .ok (captureContent x)))

/-- A refused request changes nothing but its outcome
(09_control_ports_events_and_the_stored_image.md 9.2, R165). A request is one that no warm reset has
abandoned, or that its port is working on anew (R177, log entry 15). -/
def Obligations.RefusedRequestsChangeOnlyTheirOutcome : Prop :=
  ∀ (s : State) (i : Instr) (cp : CtrlPort) (kind : Nat) (ps : List Byte),
    requestBytes i = some (cp, kind, ps) → Carried s cp i →
    ∃ t, exec i s = .next t ∧
      (∀ r, (t.ctrl cp).outcome = some r → carriedOut r.status = false →
        r.kind = kind ∧ t = s.decide cp kind r.status r.content)

/-- During the image load the marked requests get LOADING and change nothing (R169, R176, Table 64,
notes/assumptions/13.md, notes/assumptions/31.md). That an expiry command acts from its timer's
deadline on, however late, is the model's choice (log entry 13). That the delivered bytes come as
the operand of the command is too (log entry 31). A request is one that no warm reset has abandoned,
or that its port is working on anew (R177, log entry 15). -/
def Obligations.LoadingRequestsWaitForTheImageLoad : Prop :=
  (∀ (s : State) (i : Instr) (cp : CtrlPort) (kind : Nat) (ps : List Byte),
      requestBytes i = some (cp, kind, ps) → Carried s cp i →
      (s.load = .loading → markedLoading kind = true →
        ∃ content, exec i s = .next (s.decide cp kind .loading content)) ∧
      (s.load = .loading → markedLoading kind = false →
        ∃ t r, exec i s = .next t ∧ (t.ctrl cp).outcome = some r ∧ r.kind = kind ∧
          r.status ≠ .loading) ∧
      (s.load ≠ .loading →
        ∃ t, exec i s = .next t ∧ ∀ r, (t.ctrl cp).outcome = some r → r.status ≠ .loading)) ∧
    (∀ s : State,
      (∃ t, exec .fullReset s = .next t ∧ t.load = .loading) ∧
      (s.load = .loading → ∀ bs, ∃ t, exec (.imageLoad bs) s = .next t ∧ LoadPosted s t ∧
        t.load ≠ .absentNoAnswer) ∧
      (s.load = .loading → 12500000 ≤ s.now →
        ∃ t, exec .memoryReadyTimeout s = .next t ∧ LoadPosted s t ∧
          t.load = .absentNoAnswer))

/-- WRITE_SETTINGS with the claim replaces the four settings, the idle limit clamped (R170, Table
65, R181, Table 63, notes/assumptions/65.md). That an OK response carries the values in force is the
model's choice (log entry 65). A request is one that no warm reset has abandoned, or that its port
is working on anew (R177, log entry 15). -/
def Obligations.WriteSettingsIsAppliedWhole : Prop :=
  ∀ (s : State) (cp : CtrlPort) (x : RawSettings), s.load ≠ .loading →
    Carried s cp (.writeSettings cp x) →
    (s.holder .settings = some cp → 0x0600 ≤ x.bundleType → x.bundleType ≤ 0xFFFF →
      x.bundleType ≠ 0x8100 →
      ∃ t status, exec (.writeSettings cp x) s = .next t ∧
        t = { s with settings := t.settings, ctrls := t.ctrls } ∧
        t.settings = ⟨x.east, x.west, x.bundleType, max 1 (min x.idleLimit 60)⟩ ∧
        Answers s t cp [] ⟨3, status, addressBytes x.east ++ addressBytes x.west ++
          bytesOf 2 x.bundleType ++ bytesOf 1 (max 1 (min x.idleLimit 60))⟩ ∧
        status = (if 1 ≤ x.idleLimit ∧ x.idleLimit ≤ 60 then .ok else .clamped)) ∧
    (s.holder .settings ≠ some cp →
      ∃ content, exec (.writeSettings cp x) s = .next (s.decide cp 3 .notHeld content)) ∧
    (s.holder .settings = some cp → x.bundleType < 0x0600 ∨ x.bundleType = 0x8100 →
      ∃ content, exec (.writeSettings cp x) s = .next (s.decide cp 3 .badValue content))

/-- OPEN_EDIT grants a section nobody else holds and CLOSE_EDIT releases it (R22, R171,
notes/assumptions/68.md). That the timing and settings sections are named whatever their number byte
is the model's choice (log entry 68). A request is one that no warm reset has abandoned, or that its
port is working on anew (R177, log entry 15). -/
def Obligations.OpenEditGrantsAndCloseEditReleases : Prop :=
  ∀ (s : State) (cp : CtrlPort) (raw : RawSection), s.load ≠ .loading →
    (∀ i ∈ [Instr.openEdit cp raw, .closeEdit cp raw], Carried s cp i) →
    (raw.typed = none →
      (∃ content, exec (.openEdit cp raw) s = .next (s.decide cp 4 .badValue content)) ∧
      ∃ content, exec (.closeEdit cp raw) s = .next (s.decide cp 5 .badValue content)) ∧
    (∀ sec, raw.typed = some sec →
      (s.holder sec = some cp.other →
        ∃ content, exec (.openEdit cp raw) s =
          .next (s.decide cp 4 .heldElsewhere content)) ∧
      (s.holder sec ≠ some cp.other →
        ∃ t, exec (.openEdit cp raw) s = .next t ∧
          t = { s with claims := t.claims, ctrls := t.ctrls } ∧ t.holder sec = some cp ∧
          (∀ other, other ≠ sec → t.holder other = s.holder other) ∧
          Answers s t cp [] ⟨4, .ok, []⟩) ∧
      (s.holder sec ≠ some cp →
        ∃ content, exec (.closeEdit cp raw) s = .next (s.decide cp 5 .notHeld content)) ∧
      (s.holder sec = some cp → ∀ b, sec = .bundle b → (s.bun b).armed.isSome →
        ∃ content, exec (.closeEdit cp raw) s = .next (s.decide cp 5 .badState content)) ∧
      (s.holder sec = some cp → (∀ b, sec = .bundle b → (s.bun b).armed = none) →
        ∃ t, exec (.closeEdit cp raw) s = .next t ∧
          t = { s with claims := t.claims, bundles := t.bundles, ctrls := t.ctrls } ∧
          t.holder sec = none ∧ (∀ other, other ≠ sec → t.holder other = s.holder other) ∧
          (∀ b, t.bun b = if sec = .bundle b then
            { s.bun b with pending := (s.bun b).active.getD Record.default } else s.bun b) ∧
          Answers s t cp [] ⟨5, .ok, []⟩))

/-- An idle expiry stops the timer and releases every claim of the port but armed bundles' (R22,
R172). That an expiry command acts from its timer's deadline on, however late, is the model's choice
(log entry 13). -/
def Obligations.IdleExpiryReleasesThePortsClaims : Prop :=
  ∀ (s : State) (cp : CtrlPort),
    (¬ Due s (s.ctrl cp).idleTimer → exec (.idleTimerExpiry cp) s = .next s) ∧
    (Due s (s.ctrl cp).idleTimer →
      ∃ t n, exec (.idleTimerExpiry cp) s = .next t ∧
        t = { s with claims := t.claims, bundles := t.bundles, ctrls := t.ctrls } ∧
        n = (allSections.filter fun c => s.holder c == some cp && t.holder c == none).length ∧
        (∀ c, t.holder c =
          if s.holder c = some cp ∧ ∀ b, c = .bundle b → (s.bun b).armed = none then none
          else s.holder c) ∧
        (∀ b, t.bun b =
          if s.holder (.bundle b) = some cp ∧ (s.bun b).armed = none then
            { s.bun b with pending := (s.bun b).active.getD Record.default }
          else s.bun b) ∧
        (∀ dp, t.ctrl dp =
          let c := if dp = cp then { s.ctrl dp with idleTimer := none } else s.ctrl dp
          if n = 0 then c else c.offer (eventNow s .claimExpired (.ctrl cp) n)))

/-- An event joins both queues or is lost; READ_EVENTS removes the oldest eight and marks a loss
(R173, 10_formats.md 10.3). A request is one that no warm reset has abandoned, or that its port is
working on anew (R177, log entry 15). -/
def Obligations.EventsLeaveTheirQueueByReadEvents : Prop :=
  ∀ (s : State) (cp : CtrlPort),
    (∀ kind subject detail dp,
      (((s.ctrl dp).queue.length < 32 →
        (s.post kind subject detail).ctrl dp = { s.ctrl dp with
          queue := (s.ctrl dp).queue ++ [eventNow s kind subject detail] }) ∧
      (32 ≤ (s.ctrl dp).queue.length →
        (s.post kind subject detail).ctrl dp = { s.ctrl dp with
          lost := true
          lostCount := bump (s.ctrl dp).lostCount }))) ∧
    (Carried s cp (.readEvents cp) →
      ∃ t content, exec (.readEvents cp) s = .next t ∧ t = { s with ctrls := t.ctrls } ∧
      t.ctrl cp.other = s.ctrl cp.other ∧
      t.ctrl cp = { s.ctrl cp with
        queue := (s.ctrl cp).queue.drop 8 ++
          (if (s.ctrl cp).lost then
            [eventNow s .eventsLost (.ctrl cp) (s.ctrl cp).lostCount] else [])
        lost := false
        lostCount := if (s.ctrl cp).lost then 0 else (s.ctrl cp).lostCount
        outcome := some ⟨30, .ok, content⟩ } ∧
      content = bytesOf 1 (min 8 (s.ctrl cp).queue.length) ++
        bytesOf 1 ((s.ctrl cp).queue.length - 8) ++
        ((s.ctrl cp).queue.take 8).flatMap Event.bytes)

/-- A fault fills the fault records and posts FAULT; CLEAR_FAULTS empties them (R174,
notes/assumptions/56.md). The bytes of READ_FAULTS, a fault's subject in two bytes among them, are
the model's choice (log entry 56). A request is one that no warm reset has abandoned, or that its
port is working on anew (R177, log entry 15). -/
def Obligations.FaultsAreRecordedAndCleared : Prop :=
  ∀ (s : State) (cp : CtrlPort),
    (∀ kind subject detail, ∃ f n,
      f = (⟨kind, subject, s.eventTime, detail⟩ : FaultRecord) ∧
      n = min (s.faults.count + 1) (max s.faults.count 255) ∧
      s.recordFault kind subject detail =
        { s with
          faults := (s.recordFault kind subject detail).faults
          ctrls := (s.recordFault kind subject detail).ctrls } ∧
      (s.recordFault kind subject detail).faults =
        ⟨some (s.faults.first.getD f), some f, n⟩ ∧
      Posts s (s.recordFault kind subject detail)
        [eventNow s .fault (faultSubject subject) (kind.code * 16777216 + n * 65536)]) ∧
    (Carried s cp (.clearFaults cp) →
      ∃ t, exec (.clearFaults cp) s = .next t ∧
      t = { s with faults := ⟨none, none, 0⟩, ctrls := t.ctrls } ∧
      Answers s t cp [] ⟨32, .ok, []⟩) ∧
    (Carried s cp (.readFaults cp) →
      exec (.readFaults cp) s = .next (s.decide cp 31 .ok
      (faultBytes s.faults.first ++ faultBytes s.faults.latest ++ bytesOf 1 s.faults.count))) ∧
    State.reset.faults = ⟨none, none, 0⟩ ∧
    (∃ t, exec (.warmReset cp) s = .next t ∧ t.faults = s.faults)

/-- SAVE_IMAGE takes a snapshot, and the save ends DONE, or FAILED with an IMAGE_FAULT (R174, R175,
notes/assumptions/13.md, notes/assumptions/31.md). That an expiry command acts from its timer's
deadline on, however late, is the model's choice (log entry 13). The comparison over the snapshot's
length and the bytes as the command's operand are too (log entry 31). The order of events posted
together is the model's choice (log entry 41). A request is one that no warm reset has abandoned, or
that its port is working on anew (R177, log entry 15). -/
def Obligations.SaveTakesASnapshotAndEnds : Prop :=
  ∀ (s : State) (cp : CtrlPort) (bs : List Byte),
    (s.load ≠ .loading → Carried s cp (.saveImage cp) → s.save = none →
      ∃ t, exec (.saveImage cp) s = .next t ∧ t = { s with save := t.save, ctrls := t.ctrls } ∧
        t.save = some ⟨s.imageOf, s.savedBundles.length, s.leftOut,
          some (s.now + 375000000)⟩ ∧
        Answers s t cp [] ⟨33, .ok, []⟩) ∧
    (s.load ≠ .loading → Carried s cp (.saveImage cp) → s.save ≠ none →
      ∃ content, exec (.saveImage cp) s = .next (s.decide cp 33 .busy content)) ∧
    (s.save = none → exec (.saveReadBack bs) s = .next s ∧ exec .saveTimeout s = .next s) ∧
    (∀ x, s.save = some x → bs.take x.image.length = x.image →
      ∃ t, exec (.saveReadBack bs) s = .next t ∧
        t = { s with save := none, lastSave := .done, ctrls := t.ctrls } ∧
        Posts s t [eventNow s .saveDone .none
          (x.image.length * 65536 + x.saved * 256 + x.leftOut)]) ∧
    (∀ x, s.save = some x → bs.take x.image.length ≠ x.image →
      ∃ t, exec (.saveReadBack bs) s = .next t ∧
        t = { s with save := none, lastSave := .failed, faults := t.faults, ctrls := t.ctrls } ∧
        t.faults = s.faults.add ⟨.imageFault, none, s.eventTime, ImageCause.saveVerify.code⟩ ∧
        Posts s t [faultEvent s .imageFault none 1,
          eventNow s .saveFailed .none ImageCause.saveVerify.code]) ∧
    (∀ x, s.save = some x → ¬ Due s x.limit → exec .saveTimeout s = .next s) ∧
    (∀ x, s.save = some x → Due s x.limit →
      ∃ t, exec .saveTimeout s = .next t ∧
        t = { s with save := none, lastSave := .failed, faults := t.faults, ctrls := t.ctrls } ∧
        t.faults = s.faults.add ⟨.imageFault, none, s.eventTime, ImageCause.saveTimeout.code⟩ ∧
        Posts s t [faultEvent s .imageFault none 1,
          eventNow s .saveFailed .none ImageCause.saveTimeout.code])

/-- The image load ends ABSENT or REJECTED with nothing applied, or LOADED with its sections applied
(R18, R42, R81, R164, R170, R176). That an expiry command acts from its timer's deadline on, however
late, is the model's choice (log entry 13). So are the bytes not delivered, fixed layouts too short
and unnamed bundles (log entry 20), clocks that name none (22), the bytes as operand (31), the order
of the checks (59), a configuration's port (61) and the order of the sections (62). The order of
events posted together is the model's choice (log entry 41). -/
def Obligations.ImageLoadEndsAbsentRejectedOrLoaded : Prop :=
  (∀ (bs : List Byte) (n : Nat), fieldAt bs 0 4 = 0xC5A3B816 → n = fieldAt bs 6 2 →
      (byteAt bs 4 ≠ 1 → checkImage bs = .rejected .version) ∧
      (byteAt bs 4 = 1 → (n < 10 ∨ 8192 < n) → checkImage bs = .rejected .length) ∧
      (∀ body : List Byte, byteAt bs 4 = 1 → 10 ≤ n → n ≤ 8192 →
        body = (bs ++ List.replicate n 0xFF).take n →
        ((crc16 (body.take (n - 2))).toNat ≠ fieldAt body (n - 2) 2 →
          checkImage bs = .rejected .crc) ∧
        (∀ (secs : List (Byte × List Byte)) (tail : List Byte),
          (crc16 (body.take (n - 2))).toNat = fieldAt body (n - 2) 2 →
          (∀ x ∈ secs, x.2.length < 65536) →
          (body.take (n - 2)).drop 8 =
            (secs.map fun x => [x.1] ++ bytesOf 2 x.2.length ++ x.2).flatten ++ tail →
          (tail ≠ [] → tail.length < 3 + fieldAt tail 1 2 →
            checkImage bs = .rejected .length) ∧
          ((∃ x ∈ secs, SectionShort x) → checkImage bs = .rejected .length) ∧
          (tail = [] → (∀ x ∈ secs, ¬ SectionShort x) →
            ∃ xs, checkImage bs = .passed xs ∧ xs.length = secs.length)))) ∧
  ∀ (s : State) (bs : List Byte),
    (s.load ≠ .loading →
      exec (.imageLoad bs) s = .next s ∧ exec .memoryReadyTimeout s = .next s) ∧
    (s.load = .loading →
      (s.now < 12500000 → exec .memoryReadyTimeout s = .next s) ∧
      (12500000 ≤ s.now → ∃ t, exec .memoryReadyTimeout s = .next t ∧
        t = { s with load := .absentNoAnswer, ctrls := t.ctrls } ∧
        Posts s t [eventNow s .imageAbsent .none 0]) ∧
      (fieldAt bs 0 4 ≠ 0xC5A3B816 →
        ∃ t, exec (.imageLoad bs) s = .next t ∧
          t = { s with load := .absentNoMarker, ctrls := t.ctrls } ∧
          Posts s t [eventNow s .imageAbsent .none 1]) ∧
      (∀ cause, checkImage bs = .rejected cause →
        ∃ t, exec (.imageLoad bs) s = .next t ∧
          t = { s with load := .rejected cause, faults := t.faults, ctrls := t.ctrls } ∧
          t.faults = s.faults.add ⟨.imageFault, none, s.eventTime, cause.code⟩ ∧
          Posts s t [faultEvent s .imageFault none 1,
            eventNow s .imageRejected .none cause.code]) ∧
      (∀ xs, checkImage bs = .passed xs →
        ∃ t loaded refused, exec (.imageLoad bs) s = .next t ∧
          t.load = .loaded loaded refused ∧
          loaded + refused = (xs.map fun x =>
            match x with
            | .bundles rs => (rs.filter fun r => decide (r.1 < 256)).length
            | _ => 0).sum ∧
          Reported t (eventNow s .imageLoaded .none (loaded * 65536 + refused)) ∧
          t.captures = s.captures ∧ t.save = s.save ∧ t.now = s.now ∧ t.pending = s.pending ∧
          (∀ n, (t.net n).up = (s.net n).up) ∧
          ((∀ x, ImageSection.settings x ∉ xs) → t.settings = s.settings) ∧
          (∀ pre post x, xs = pre ++ .settings x :: post →
            (∀ y, ImageSection.settings y ∉ post) →
            t.settings.east = x.east ∧ t.settings.west = x.west ∧
            t.settings.idleLimit = max 1 (min x.idleLimit 60) ∧
            (0x0600 ≤ x.bundleType → x.bundleType ≤ 0xFFFF → x.bundleType ≠ 0x8100 →
              t.settings.bundleType = x.bundleType)) ∧
          ((∀ raw m c, ImageSection.timing raw m c ∉ xs) → t.timing.mode = s.timing.mode ∧
            ∀ d, (t.timing.candidate d).priority = (s.timing.candidate d).priority ∧
              (t.timing.candidate d).qualify = (s.timing.candidate d).qualify) ∧
          (∀ pre post raw m c, xs = pre ++ .timing raw m c :: post →
            (∀ raw' m' c', ImageSection.timing raw' m' c' ∉ post) →
            (∀ mode, timingModeOf m c = some mode → t.timing.mode = mode) ∧
            ∀ d, (t.timing.candidate d).priority = min raw[d.index].priority 7 ∧
              (t.timing.candidate d).qualify = min raw[d.index].qualify 600) ∧
          ((∀ east west, ImageSection.lists east west ∉ xs) →
            ∀ n, (t.net n).list = (s.net n).list) ∧
          (∀ pre post east west, xs = pre ++ .lists east west :: post →
            (∀ e w, ImageSection.lists e w ∉ post) →
            (t.net .east).list = ((east.filterMap RawEntry.typed).take 48).map (fun e => ⟨e, 0⟩) ∧
            (t.net .west).list =
              ((west.filterMap RawEntry.typed).take 48).map (fun e => ⟨e, 0⟩)) ∧
          (∀ pre post ys ya yb raw cfg, ∀ p : TribId, xs = pre ++ .tribs ys :: post →
            (∀ zs, ImageSection.tribs zs ∉ post) →
            (∀ b, (s.bun b).active = none ∧ (s.bun b).armed = none) →
            ys = ya ++ (p.val, raw) :: yb → (∀ z ∈ yb, z.1 ≠ p.val) →
            raw.typed raw.storedClock = some cfg →
            (t.trib p).cfg = (match cfg.clock with
              | .steered b => if (t.bun b).isOn p then cfg else { cfg with clock := .system }
              | _ => cfg)) ∧
          (∀ b r, (s.bun b).active = some r → (t.bun b).active = some r) ∧
          (∀ b r, (s.bun b).active = none → (t.bun b).active = some r →
            (∃ rs raw r0 clamped, ImageSection.bundles rs ∈ xs ∧ (b.val, raw) ∈ rs ∧
              raw.stored = some (r0, clamped) ∧
              r = { r0 with fpp := r.fpp, maxDepth := r.maxDepth }) ∧
            (t.bun b).pending = r ∧ (t.bun b).check = Config.checkWord r ∧
            (t.bun b).recordFault = false ∧ (t.bun b).armed = none ∧
            (t.bun b).state = if r.autoStart then .filling else .stopped) ∧
          loaded = (allBundles.filter fun b =>
            (t.bun b).active.isSome && (s.bun b).active.isNone).length ∧
          (∀ bs' pre post x y, xs = pre ++ x :: y :: post → DifferentKinds x y →
            checkImage bs' = .passed (pre ++ y :: x :: post) → exec (.imageLoad bs') s = .next t) ∧
          (∀ b raw r clamped,
            (xs.flatMap fun x =>
              match x with
              | .bundles rs => rs
              | _ => []) = [(b.val, raw)] →
            (s.bun b).active = none → raw.stored = some (r, clamped) →
            (∀ r' size, { s with tribs := t.tribs }.validate b r = .ok (r', size) →
              (t.bun b).active = some r' ∧ (t.bun b).ringSize = size ∧ loaded = 1 ∧ refused = 0) ∧
            (∀ status, { s with tribs := t.tribs }.validate b r = .error status →
              (t.bun b).active = none ∧ loaded = 0 ∧ refused = 1 ∧
              Reported t (loadRefusedEvent s b status))) ∧
          (∀ b raw r clamped, xs = [.bundles [(b.val, raw)]] → (s.bun b).active = none →
            raw.stored = some (r, clamped) →
            (∀ r' size, s.validate b r = .ok (r', size) →
              (t.bun b).active = some r' ∧ (t.bun b).ringSize = size ∧
              loaded = 1 ∧ refused = 0 ∧
              Posts s t [bundleStateEvent s b (s.bun b).state (t.bun b).state .activated,
                eventNow s .bundleActivated (.bundle b) 0, eventNow s .imageLoaded .none 65536]) ∧
            (∀ status, s.validate b r = .error status →
              t.bun b = s.bun b ∧ loaded = 0 ∧ refused = 1 ∧
              Posts s t [loadRefusedEvent s b status, eventNow s .imageLoaded .none 1]))))

/-- A warm reset keeps the configuration and resets every other block as its chapter states (R18,
R43, R49, R62, R81, R109). The mark of an abandoned request (log entry 15), the read the requester
has in progress and the prefix of a cut one (67), the kept data-out record (5), the kept last
interval sum (55) and the raw depth 0 where none is formed (51) are the model's choices. -/
def Obligations.WarmResetKeepsConfigurationAndClearsTheRest : Prop :=
  (∀ (s : State) (cp : CtrlPort), s.load ≠ .loading →
      Carried s cp (.warmReset cp) →
      ∃ t, exec (.warmReset cp) s = .next t ∧
      t = { s with
        bundles := t.bundles
        tribs := t.tribs
        nets := t.nets
        captures := t.captures
        timing := t.timing
        ctrls := t.ctrls
        claims := t.claims } ∧
      (∀ c, t.holder c = none) ∧
      (∀ b, (s.bun b).active = none → t.bun b = {
        active := none
        pending := Record.default
        state := .free
        armed := none
        check := 0
        recordFault := false
        ringSize := 0
        assembly := Assembly.start
        playout := Playout.fresh 0
        delay := Delay.zero
        supervisor := Supervisor.zero .p1
        delivery := ⟨0, 0, 0, 0⟩ }) ∧
      (∀ b r x timer, s.bun b = x → x.active = some r →
        timer = some (s.now + r.lossTime * 125000) →
        t.bun b = { x with
          pending := r
          armed := none
          state := if x.state.running then .filling else x.state
          assembly := if x.state.running then Assembly.start
            else { Assembly.start with seq := x.assembly.seq }
          playout := Playout.fresh x.playout.ring.length
          delay := (t.bun b).delay
          supervisor := if x.state.running then
            { Supervisor.zero r.primary with
              path := both { PathRecord.zero with lossTimer := timer }
              startWait := timer }
            else Supervisor.zero r.primary
          delivery := ⟨0, 0, 0, 0⟩ } ∧
        DelayCleared (t.bun b).delay ∧ (t.bun b).delay.record = both DelayRecord.zero ∧
        (x.state ≠ .free →
          (t.bun b).delay.short = false ∧ (t.bun b).delay.long = false ∧
          (t.bun b).delay.rawDepth = 0 ∧
          (t.bun b).delay.target = max r.fpp (min
            (if r.delayMode = .fixed then r.targetDepth else r.initialDepth)
            (min r.maxDepth ((x.ringSize - 2) * r.fpp))))) ∧
      (∀ p x new, s.trib p = x →
        new = (if x.cfg.kind = .disabled then RxState.off else RxState.noSignal) →
        t.trib p = { x with
          rx := new
          recovery := false
          blocks := 0
          aisRun := 0
          errorRun := 0
          alignNext := false
          onesRun := 0
          zerosRun := 0
          remoteAlarm := false
          signalLosses := 0
          aisEntries := 0
          alignLosses := 0
          erroredWords := 0
          odd := false
          txSource := sourceAfter x new
          steer := { x.steer with
            sum := 0, samples := 0, completed := 0, abandoned := 0, clamps := 0 } }) ∧
      (∀ n, t.net n = {
        up := false
        indication := (s.net n).indication
        qualification := if (s.net n).indication then some (s.now + 6250000) else none
        list := (s.net n).list.map (fun e => ⟨e.entry, 0⟩)
        protection := []
        priority := []
        routine := []
        transmitter := .idle
        rx := ⟨0, 0, 0, 0, 0, 0, 0, 0⟩
        tx := ⟨0, 0, 0, 0, 0, 0, 0⟩ }) ∧
      (∀ c : CaptureId, t.captures[c] = ⟨.empty, false⟩) ∧
      (∀ p : TribId, t.timing.candidate (.trib p) = { s.timing.candidate (.trib p) with
        valid := false, whole := false, state := .unavailable, timer := none, losses := 0 }) ∧
      (∀ x, s.timing.candidate .station = x → t.timing.candidate .station =
        if x.valid then { x with losses := 0 }
        else { x with state := .unavailable, timer := none, losses := 0 }) ∧
      t.timing.mode = s.timing.mode ∧ t.timing.holdover = s.timing.holdover ∧
      t.timing.holdoverEntries = 0 ∧ t.timing.state = t.timing.decided ∧
      (s.timing.everLocked = true → t.timing.everLocked = true) ∧
      ((∀ c, t.timing.state ≠ .locked c) → t.timing.everLocked = s.timing.everLocked) ∧
      t.timing.windowEnd = s.timing.windowEnd ∧
      t.ctrl cp = { Ctrl.default with
        dataOut := (s.ctrl cp).dataOut
        reading := (s.ctrl cp).reading
        abandoned := (s.ctrl cp).abandoned
        queue := [eventNow s .warmResetDone (.ctrl cp) 0]
        transfer := .ready ⟨34, .ok, []⟩ (s.ctrl cp).overrun } ∧
      t.ctrl cp.other = { Ctrl.default with
        dataOut := (s.ctrl cp.other).dataOut
        reading := (s.ctrl cp.other).reading.map fun x => { x with cut := true }
        queue := [eventNow s .warmResetDone (.ctrl cp) 0]
        abandoned := (t.ctrl cp.other).abandoned } ∧
      (t.ctrl cp.other).abandoned =
        (s.ctrl cp.other).abandoned ++ (s.ctrl cp.other).handed.toList) ∧
    (∀ (c : Ctrl) (i : Instr), c.handed = some i ↔
      (∃ kind, c.transfer = .working ⟨kind, some i⟩) ∧ c.outcome = none) ∧
    (∀ (s : State) (i : Instr) (cp : CtrlPort) (kind : Nat) (ps : List Byte),
      requestBytes i = some (cp, kind, ps) → i ∈ (s.ctrl cp).abandoned →
      (s.ctrl cp).handed ≠ some i →
      exec i s = .next (s.modCtrl cp fun c => { c with abandoned := c.abandoned.erase i }))

/-- Loss of signal or of the receive clock takes a line to NO_SIGNAL (R4, R10, R11, R151, R158,
Table 7). The order of events posted together is the model's choice (log entry 41). -/
def Obligations.LossOfInputEntersNoSignal : Prop :=
  ∀ (s : State) (p : TribId) (c : Instr), (c = .lossOfSignal p ∨ c = .receiveClockTimeout p) →
    ((s.trib p).rx = .off → exec c s = .next s) ∧
    ((s.trib p).rx = .noSignal →
      ∃ t, exec c s = .next t ∧ t = { s with tribs := t.tribs } ∧ OtherTribs s t p ∧
        t.trib p = { s.trib p with recovery := false }) ∧
    ((s.trib p).rx ≠ .off → (s.trib p).rx ≠ .noSignal →
      ∃ t, exec c s = .next t ∧ LineChange s t p ∧
        t.trib p = { s.trib p with
          rx := .noSignal
          recovery := false
          blocks := 0
          aisRun := 0
          errorRun := 0
          alignNext := false
          onesRun := 0
          zerosRun := 0
          remoteAlarm := false
          signalLosses := bump (s.trib p).signalLosses
          txSource := sourceAfter (s.trib p) .noSignal } ∧
        Posts s t (alarmCleared s p ++ tribStateEvent s p .noSignal ::
          timingChange s t (.trib p)))

/-- The recovery block takes a line from NO_SIGNAL to AIS, SEARCH or PRESENT (R5, R11,
01_tributary_lines.md 1.2). That the completion asks for no begin before it is the model's choice
(log entry 14). The order of events posted together is the model's choice (log entry 41). -/
def Obligations.RecoveryBlockDecidesTheNextState : Prop :=
  ∀ (s : State) (p : TribId) (block : BitVec 512),
    ((s.trib p).rx ≠ .noSignal →
      exec (.recoveryBlockBegins p) s = .next s ∧
        exec (.recoveryBlockComplete p block) s = .next s) ∧
    ((s.trib p).rx = .noSignal →
      (∃ t, exec (.recoveryBlockBegins p) s = .next t ∧ t = { s with tribs := t.tribs } ∧
        OtherTribs s t p ∧ t.trib p = { s.trib p with recovery := true }) ∧
      ∃ t new, exec (.recoveryBlockComplete p block) s = .next t ∧ LineChange s t p ∧
        new = (if zeroBits block < 3 then .ais
          else if (s.trib p).cfg.kind = .framed then .search else .present) ∧
        t.trib p = { s.trib p with
          rx := new
          recovery := false
          blocks := 1
          aisRun := 0
          txSource := sourceAfter (s.trib p) new } ∧
        Posts s t (tribStateEvent s p new :: timingChange s t (.trib p)))

/-- Two consecutive all-ones blocks enter AIS; a block with three zeros leaves it (R6, R10, R11,
Table 7). The order of events posted together is the model's choice (log entry 41). -/
def Obligations.TwoAllOnesBlocksEnterAisAndZerosLeaveIt : Prop :=
  ∀ (s : State) (p : TribId) (block : BitVec 512) (x : Trib), s.trib p = x →
    (x.rx = .off ∨ x.rx = .noSignal → exec (.aisBlockComplete p block) s = .next s) ∧
    (x.rx = .ais → zeroBits block < 3 →
      ∃ t, exec (.aisBlockComplete p block) s = .next t ∧ t = { s with tribs := t.tribs } ∧
        OtherTribs s t p ∧ t.trib p = { x with blocks := x.blocks + 1 }) ∧
    (x.rx = .ais → 3 ≤ zeroBits block →
      ∃ t new, exec (.aisBlockComplete p block) s = .next t ∧ LineChange s t p ∧
        new = (if x.cfg.kind = .framed then .search else .present) ∧
        t.trib p = { x with rx := new, blocks := x.blocks + 1, txSource := sourceAfter x new } ∧
        Posts s t (tribStateEvent s p new :: timingChange s t (.trib p))) ∧
    (x.rx = .search ∨ x.rx = .aligned ∨ x.rx = .present →
      (3 ≤ zeroBits block →
        ∃ t, exec (.aisBlockComplete p block) s = .next t ∧ t = { s with tribs := t.tribs } ∧
          OtherTribs s t p ∧ t.trib p = { x with blocks := x.blocks + 1, aisRun := 0 }) ∧
      (zeroBits block < 3 → x.aisRun = 0 →
        ∃ t, exec (.aisBlockComplete p block) s = .next t ∧ t = { s with tribs := t.tribs } ∧
          OtherTribs s t p ∧ t.trib p = { x with blocks := x.blocks + 1, aisRun := 1 }) ∧
      (zeroBits block < 3 → 1 ≤ x.aisRun →
        ∃ t, exec (.aisBlockComplete p block) s = .next t ∧ LineChange s t p ∧
          t.trib p = { x with
            rx := .ais
            blocks := x.blocks + 1
            aisRun := 0
            errorRun := 0
            alignNext := false
            onesRun := 0
            zerosRun := 0
            remoteAlarm := false
            aisEntries := bump x.aisEntries
            txSource := sourceAfter x .ais } ∧
          Posts s t (alarmCleared s p ++ tribStateEvent s p .ais ::
            timingChange s t (.trib p))))

/-- Alignment is found by both checks of a candidate and lost on the third errored word in a row
(R7, R8, R10, R11, notes/assumptions/14.md). That a word out of its turn does nothing is the model's
choice (log entry 14). The order of events posted together is the model's choice (log entry 41). -/
def Obligations.AlignmentIsFoundAndLostOnTheThirdError : Prop :=
  ∀ (s : State) (p : TribId) (window : BitVec 519) (bits : BitVec 7) (x : Trib), s.trib p = x →
    (x.rx = .search → window.extractLsb' 0 7 = 0b1101100#7 → window.getLsbD 256 = true →
      window.extractLsb' 512 7 = 0b1101100#7 →
      ∃ t, exec (.alignmentFound p window) s = .next t ∧ LineChange s t p ∧
        t.trib p = { x with rx := .aligned, errorRun := 0, alignNext := false } ∧
        Posts s t (tribStateEvent s p .aligned :: timingChange s t (.trib p))) ∧
    (x.rx ≠ .search ∨ window.extractLsb' 0 7 ≠ 0b1101100#7 ∨ window.getLsbD 256 = false ∨
        window.extractLsb' 512 7 ≠ 0b1101100#7 →
      exec (.alignmentFound p window) s = .next s) ∧
    (x.rx ≠ .aligned ∨ x.alignNext = false → exec (.alignmentWord p bits) s = .next s) ∧
    (x.rx = .aligned → x.alignNext = true → bits = 0b1101100#7 →
      ∃ t, exec (.alignmentWord p bits) s = .next t ∧ t = { s with tribs := t.tribs } ∧
        OtherTribs s t p ∧ t.trib p = { x with errorRun := 0, alignNext := false }) ∧
    (x.rx = .aligned → x.alignNext = true → bits ≠ 0b1101100#7 → x.errorRun + 1 < 3 →
      ∃ t, exec (.alignmentWord p bits) s = .next t ∧ t = { s with tribs := t.tribs } ∧
        OtherTribs s t p ∧
        t.trib p = { x with
          errorRun := x.errorRun + 1
          alignNext := false
          erroredWords := bump x.erroredWords }) ∧
    (x.rx = .aligned → x.alignNext = true → bits ≠ 0b1101100#7 → 3 ≤ x.errorRun + 1 →
      ∃ t, exec (.alignmentWord p bits) s = .next t ∧ LineChange s t p ∧
        t.trib p = { x with
          rx := .search
          errorRun := 0
          alignNext := false
          onesRun := 0
          zerosRun := 0
          remoteAlarm := false
          erroredWords := bump x.erroredWords
          alignLosses := bump x.alignLosses
          txSource := sourceAfter x .search } ∧
        Posts s t (alarmCleared s p ++ tribStateEvent s p .search ::
          timingChange s t (.trib p)))

/-- Remote alarm in is set by three reads of 1 in a row and cleared by three of 0 (R7, R10,
notes/assumptions/14.md). That a word out of its turn does nothing is the model's choice (log entry
14). -/
def Obligations.RemoteAlarmFollowsThreeReadsOfBit3 : Prop :=
  ∀ (s : State) (p : TribId) (bit3 : Bool) (x : Trib), s.trib p = x →
    (x.rx ≠ .aligned ∨ x.alignNext = true → exec (.nonAlignmentWord p bit3) s = .next s) ∧
    (x.rx = .aligned → x.alignNext = false →
      ∃ t alarm, exec (.nonAlignmentWord p bit3) s = .next t ∧
        t = { s with tribs := t.tribs, ctrls := t.ctrls } ∧ OtherTribs s t p ∧
        alarm = (if bit3 = true ∧ 3 ≤ x.onesRun + 1 then true
          else if bit3 = false ∧ 3 ≤ x.zerosRun + 1 then false else x.remoteAlarm) ∧
        t.trib p = { x with
          alignNext := true
          onesRun := if bit3 then x.onesRun + 1 else 0
          zerosRun := if bit3 then 0 else x.zerosRun + 1
          remoteAlarm := alarm } ∧
        Posts s t (if alarm = x.remoteAlarm then []
          else [eventNow s .tribRemoteAlarm (.trib p) alarm.toNat]))

/-- TRIB_CONFIG is refused in the order of R1 and otherwise applied whole (R1, R2, R3, R11, R162).
That an OK response carries the values in force is the model's choice (log entry 65). A request is
one that no warm reset has abandoned, or that its port is working on anew (R177, log entry 15). -/
def Obligations.TribConfigIsDecidedInOrder : Prop :=
  ∀ (s : State) (cp : CtrlPort) (n : Nat) (raw : RawTribConfig), s.load ≠ .loading →
    Carried s cp (.tribConfig cp n raw) →
    (8 ≤ n →
      ∃ content, exec (.tribConfig cp n raw) s = .next (s.decide cp 24 .badValue content)) ∧
    (∀ p : TribId, n = p.val →
      (s.holder (.trib p) ≠ some cp →
        ∃ content, exec (.tribConfig cp n raw) s = .next (s.decide cp 24 .notHeld content)) ∧
      (s.holder (.trib p) = some cp →
        (3 ≤ raw.kind ∨ 6 ≤ raw.alert ∨ raw.txClock = none ∨
          ∃ b, raw.txClock = some (.steered b) ∧ (s.trib p).cfg.clock ≠ .steered b ∧
            ((s.bun b).isOn p = false ∨ raw.kind = 0 ∨ (s.trib p).cfg.kind = .disabled)) →
        ∃ content, exec (.tribConfig cp n raw) s = .next (s.decide cp 24 .badValue content)) ∧
      (∀ cfg : TribConfig, s.holder (.trib p) = some cp →
        cfg.kind.code = raw.kind → cfg.alert.code = raw.alert → raw.txClock = some cfg.clock →
        cfg.idle = raw.idle → cfg.aisWhenDown = raw.aisWhenDown →
        cfg.kp = max 6 (min raw.kp 18) → cfg.ki = max 8 (min raw.ki 20) →
        (∀ b, cfg.clock = .steered b →
          (s.trib p).cfg.clock = .steered b ∨ (s.bun b).isOn p = true ∧
            cfg.kind ≠ .disabled ∧ (s.trib p).cfg.kind ≠ .disabled) →
        (cfg.kind ≠ (s.trib p).cfg.kind → Named s p →
          ∃ content, exec (.tribConfig cp n raw) s =
            .next (s.decide cp 24 .badState content)) ∧
        (cfg.kind = (s.trib p).cfg.kind ∨ ¬ Named s p →
          ∃ t es status, exec (.tribConfig cp n raw) s = .next t ∧
            t = { s with tribs := t.tribs, timing := t.timing, ctrls := t.ctrls } ∧
            OtherTribs s t p ∧ Answers s t cp es ⟨24, status, cfg.raw.bytes⟩ ∧
            status = (if cfg.kp = raw.kp ∧ cfg.ki = raw.ki then .ok else .clamped) ∧
            (t.trib p).cfg = cfg ∧
            (t.trib p).steer = (if cfg.clock = (s.trib p).cfg.clock then (s.trib p).steer
              else (s.trib p).steer.abandon) ∧
            (cfg.kind = (s.trib p).cfg.kind → es = [] ∧ t.timing = s.timing ∧
              t.trib p = { s.trib p with cfg := cfg, steer := (t.trib p).steer }) ∧
            (cfg.kind ≠ (s.trib p).cfg.kind →
              (t.trib p).rx = (if cfg.kind = .disabled then .off else .noSignal) ∧
              (t.trib p).recovery = false ∧ (t.trib p).odd = false ∧
              (t.trib p).remoteAlarm = false ∧ (t.trib p).onesRun = 0 ∧
              (t.trib p).zerosRun = 0 ∧
              ((t.trib p).rx ≠ (s.trib p).rx → tribStateEvent s p (t.trib p).rx ∈ es)))))

/-- Every change of receive state, bundle state and link state posts its event to both queues (R11,
R35, R63, R173, R18, R42). -/
def Obligations.EveryChangeOfStateIsPosted : Prop :=
  (∀ (s : State) (c : Instr), c ≠ .fullReset → (∀ cp, c ≠ .warmReset cp) →
    (∀ bs, c ≠ .imageLoad bs) → (∀ p upsets, c ≠ .transmitFrameStart p upsets) →
    ∃ t, exec c s = .next t ∧
      (∀ p, (t.trib p).rx ≠ (s.trib p).rx → Reported t (tribStateEvent s p (t.trib p).rx)) ∧
      (∀ b, (t.bun b).state ≠ (s.bun b).state →
        ∃ cause, Reported t (bundleStateEvent s b (s.bun b).state (t.bun b).state cause)) ∧
      (∀ n, (t.net n).up ≠ (s.net n).up →
        Reported t (eventNow s .linkState (.net n) (t.net n).up.toNat))) ∧
  ∀ (s : State) (bs : List Byte) (xs : List ImageSection), s.load = .loading →
    checkImage bs = .passed xs →
    ∃ t, exec (.imageLoad bs) s = .next t ∧
      (∀ p, (t.trib p).rx ≠ (s.trib p).rx → ∃ old : RxState, old ≠ (t.trib p).rx ∧
        ((xs.flatMap fun x => match x with
            | .tribs ys => ys.filter fun y => y.1 == p.val
            | _ => []).length = 1 → old = (s.trib p).rx) ∧
        Reported t (eventNow s .tribState (.trib p) (old.code * 256 + (t.trib p).rx.code))) ∧
      (∀ b r, (s.bun b).active = none → (t.bun b).active = some r →
        Reported t (bundleStateEvent s b (s.bun b).state (t.bun b).state .activated) ∧
        Reported t (eventNow s .bundleActivated (.bundle b) 0)) ∧
      (∀ b rs raw, ImageSection.bundles rs ∈ xs → (b.val, raw) ∈ rs →
        ((s.bun b).active ≠ none → Reported t (loadRefusedEvent s b .badState)) ∧
        ((s.bun b).active = none → (t.bun b).active = none →
          ∃ status, Reported t (loadRefusedEvent s b status) ∧
            (raw.stored = none → status = .badValue) ∧
            (raw.stored ≠ none → status = .badState ∨ status = .conflict ∨ status = .noSpace)))

/-- A receive frame feeds the running bundles on the ports that release it, and completed packets
are offered (R12, R13, R44, R45, R46, R47). That the ports that release together come as an operand
of the command is the model's choice (log entry 35). -/
def Obligations.ReceiveFramesFeedTheAssemblers : Prop :=
  (∀ (s : State) (p : TribId) (bytes : Vector Byte 32) (others : List TribId),
      ((s.trib p).rx = .off → exec (.receiveFrame ⟨p, others⟩ bytes) s = .next s) ∧
      exec (.receiveFrame ⟨p, others⟩ bytes) s =
        .next (allBundles.foldl (State.collect p bytes others) s) ∧
      allBundles.Pairwise (fun b c => b < c) ∧ (∀ b, b ∈ allBundles) ∧
      ∃ t, exec (.receiveFrame ⟨p, others⟩ bytes) s = .next t ∧
        t = { s with bundles := t.bundles, nets := t.nets } ∧
        (∀ b, t.bun b =
          { s.bun b with assembly := (t.bun b).assembly, delay := (t.bun b).delay }) ∧
        (∀ b, (∀ r, (s.bun b).active = some r → (s.bun b).state.running = true →
            ¬ Releases s p others r.port) →
          (t.bun b).assembly.buffer = (s.bun b).assembly.buffer ∧
          (t.bun b).assembly.frames = (s.bun b).assembly.frames ∧
          (t.bun b).assembly.faultMark = (s.bun b).assembly.faultMark ∧
          (t.bun b).assembly.seq = (s.bun b).assembly.seq ∧
          (t.bun b).assembly.completed = (s.bun b).assembly.completed) ∧
        (∀ b r frame mark, (s.bun b).active = some r → (s.bun b).state.running = true →
          Releases s p others r.port →
          (frame, mark) = (if (s.trib r.port).rx = .aligned ∨ (s.trib r.port).rx = .present
            then (bytes.toList, false) else (List.replicate 32 0xFF, true)) →
          ((s.bun b).assembly.frames + 1 < r.fpp →
            (t.bun b).assembly.buffer =
              (s.bun b).assembly.buffer ++ r.slots.toList.map (fun n => frame.getD n 0) ∧
            (t.bun b).assembly.frames = (s.bun b).assembly.frames + 1 ∧
            (t.bun b).assembly.faultMark = ((s.bun b).assembly.faultMark || mark) ∧
            (t.bun b).assembly.seq = (s.bun b).assembly.seq) ∧
          (r.fpp ≤ (s.bun b).assembly.frames + 1 →
            (t.bun b).assembly.buffer = [] ∧ (t.bun b).assembly.frames = 0 ∧
            (t.bun b).assembly.faultMark = false ∧
            (t.bun b).assembly.seq = (s.bun b).assembly.seq + 1 ∧
            (t.bun b).assembly.completed = bump (s.bun b).assembly.completed ∧
            (t.bun b).assembly.originFaults =
              (if (s.bun b).assembly.faultMark || mark
                then bump (s.bun b).assembly.originFaults
                else (s.bun b).assembly.originFaults)))) ∧
    (∀ (s : State) (p : TribId) (bytes : Vector Byte 32) (others : List TribId) (b : BundleId),
      ((∀ r, (s.bun b).active = some r → (s.bun b).state.running = true →
          ¬ Releases s p others r.port) →
        State.collect p bytes others s b = s) ∧
      (∀ r frame mark a, (s.bun b).active = some r → (s.bun b).state.running = true →
        Releases s p others r.port → (s.bun b).assembly = a →
        (frame, mark) = (if (s.trib r.port).rx = .aligned ∨ (s.trib r.port).rx = .present
          then (bytes.toList, false) else (List.replicate 32 0xFF, true)) →
        (a.frames + 1 < r.fpp → State.collect p bytes others s b = s.modAssembly b fun a =>
          { a with
            buffer := a.buffer ++ r.slots.toList.map (fun n => frame.getD n 0)
            frames := a.frames + 1
            faultMark := a.faultMark || mark }) ∧
        (r.fpp ≤ a.frames + 1 → State.collect p bytes others s b =
          (((s.modAssembly b fun a => { a with
            buffer := []
            frames := 0
            faultMark := false
            seq := a.seq + 1
            completed := bump a.completed
            originFaults := if a.faultMark || mark then bump a.originFaults
              else a.originFaults }).offerPacket b r ⟨a.seq,
            a.buffer ++ r.slots.toList.map (fun n => frame.getD n 0), a.faultMark || mark,
            false, false⟩).arbitrate .east).arbitrate .west))) ∧
    (∀ (s : State) (n : NetPort) (c : PacketClass) (e : QueueEntry) (x : Net), s.net n = x →
      (x.queued < 64 → s.offerCopy n c e = (joined s n c e, true)) ∧
      (∀ rest old, 64 ≤ x.queued → c ≠ .routine → x.routine = rest ++ [old] →
        s.offerCopy n c e = (joined (evicted s n .routine rest old) n c e, true)) ∧
      (∀ rest old, 64 ≤ x.queued → c = .protection → x.routine = [] →
        x.priority = rest ++ [old] →
        s.offerCopy n c e = (joined (evicted s n .priority rest old) n c e, true)) ∧
      (64 ≤ x.queued → (c = .routine ∨ x.routine = [] ∧ (c = .priority ∨ x.priority = [])) →
        s.offerCopy n c e = (s.modNet n fun y =>
          { y with tx := { y.tx with dropped := bump y.tx.dropped } }, false))) ∧
    (∀ (s : State) (b : BundleId) (held : List HeldTx), (s.bun b).assembly.held = held →
      (held.length < 4 → s.supersede b = s) ∧
      (∀ h rest, held = h :: rest → 4 ≤ held.length →
        ∃ t, s.supersede b = t ∧ t = { s with nets := t.nets, bundles := t.bundles } ∧
          OtherBundles s t b ∧
          t.bun b = { s.bun b with assembly := { (s.bun b).assembly with
            held := rest
            superseded := bumpBy (s.bun b).assembly.superseded
              (h.east.toNat + h.west.toNat) } } ∧
          ∀ n, t.net n = { s.net n with
            protection := (s.net n).protection.filter fun e => e.bundle ≠ b ∨ e.seq ≠ h.seq
            priority := (s.net n).priority.filter fun e => e.bundle ≠ b ∨ e.seq ≠ h.seq
            routine := (s.net n).routine.filter fun e => e.bundle ≠ b ∨ e.seq ≠ h.seq })) ∧
    (∀ (s t : State) (b : BundleId) (r : Record) (h : HeldTx) (paths : List Path),
      s.offerPacket b r h = t → h.east = false → h.west = false →
      paths = (if r.pathMode = .single then [.p1] else [.p1, .p2]) →
      ((∀ p ∈ paths, (s.net (r.portMap.portOf p)).up = false) →
        t = notOffered s b paths.length) ∧
      (∀ p q n u took, paths = [p] ∨ paths = [p, q] ∨ paths = [q, p] → p ≠ q →
        n = r.portMap.portOf p → (s.net n).up = true →
        (q ∈ paths → (s.net (r.portMap.portOf q)).up = false) →
        ((notOffered s b (paths.length - 1)).supersede b).offerCopy n r.pclass ⟨b, h.seq, p⟩ =
          (u, took) →
        t = if took then u.modAssembly b (fun a =>
          { a with held := a.held ++ [h.setQueued n true] }) else u) ∧
      (∀ u v east west, r.pathMode ≠ .single → (∀ p, (s.net (r.portMap.portOf p)).up = true) →
        ((notOffered s b 0).supersede b).offerCopy (r.portMap.portOf .p1) r.pclass ⟨b, h.seq, .p1⟩ = (u, east) →
        u.offerCopy (r.portMap.portOf .p2) r.pclass ⟨b, h.seq, .p2⟩ = (v, west) →
        t = if east || west then v.modAssembly b (fun a =>
          { a with held := a.held ++ [(h.setQueued (r.portMap.portOf .p1) east).setQueued
            (r.portMap.portOf .p2) west] }) else v))

/-- A transmit frame alternates the parity and carries the generated slot 0, or all ones (R14, R15,
R16, R29, R158, R161). The order within the frame start is the model's choice (log entry 24). -/
def Obligations.TransmitFramesAlternateParityAndCarrySlotZero : Prop :=
  ∀ (s : State) (p : TribId) (upsets : List Upset),
    ((s.trib p).cfg.kind = .disabled → exec (.transmitFrameStart p upsets) s = .next s) ∧
    ((s.trib p).cfg.kind ≠ .disabled →
      ∃ t u, exec (.transmitFrameStart p upsets) s = .next t ∧ u = s.openFrame p upsets ∧
      (∀ b, (u.bun b).active = (if ((s.bun b).armedRecord.map fun r => r.port) = some p
        then (s.bun b).armedRecord else (s.bun b).active)) ∧
      (∀ b, (u.bun b).armed = (if ((s.bun b).armedRecord.map fun r => r.port) = some p
        then none else (s.bun b).armed)) ∧
        t.nets.map (fun n => n.up) = s.nets.map (fun n => n.up) ∧ t.timing = s.timing ∧
        t.settings = s.settings ∧ t.load = s.load ∧ t.save = s.save ∧
        t.captures = s.captures ∧
        (∀ q, q ≠ p → t.trib q = { s.trib q with steer := (t.trib q).steer }) ∧
        t.trib p = { s.trib p with
          odd := !(s.trib p).odd
          txFrame := (t.trib p).txFrame
          txAllOnes := (t.trib p).txAllOnes
          txSource := (t.trib p).txSource
          txOffset := (t.trib p).txOffset
          steer := (t.trib p).steer } ∧
        ((s.trib p).cfg.clock = .system →
          (t.trib p).txSource = .system ∧ (t.trib p).txOffset = 0) ∧
        ((s.trib p).cfg.clock = .loop → (t.trib p).txOffset = 0 ∧ (t.trib p).txSource =
          if (s.trib p).rx = .aligned ∨ (s.trib p).rx = .present then .line else .system) ∧
        (∀ b v, (s.trib p).cfg.clock = .steered b → exec (.steeringIntervalEnd p) s = .next v →
          (t.trib p).txSource = .steered ∧ (t.trib p).txOffset = (v.trib p).steer.offset) ∧
        (t.trib p).txFrame.length = 32 ∧
        ((t.trib p).txAllOnes = true → (t.trib p).txFrame = List.replicate 32 0xFF) ∧
        ((∀ b, (s.bun b).playout.atStart = .none) →
          ((t.trib p).txAllOnes = true ↔
            (s.trib p).cfg.aisWhenDown = true ∧ (∃ b, (u.bun b).isOn p = true) ∧
            ∀ b, (u.bun b).isOn p = true → (u.bun b).state ≠ .playing) ∧
          ((t.trib p).txAllOnes = false → (s.trib p).cfg.kind = .framed →
            (t.trib p).txFrame[0]? = some
              (if (s.trib p).odd then
                (if (s.trib p).rx = .aligned then 0xDF else 0xFF) -
                  (if u.portDelayAlert p then alertMask (s.trib p).cfg.alert else 0)
              else 0x9B))))

/-- A transmit slot carries its bundle's playout output or the idle byte, each bundle playing one
frame (R14, R29, R92, R97, R98, R99). The order within the frame start (log entry 24) and a start or
step made ahead of it (log entry 4), the start count's run past the start value in DOWN (log entry
37) and residence at a parity frame (log entry 33) are the model's choices. -/
def Obligations.TransmitSlotsCarryPlayoutOrIdle : Prop :=
  (∀ (s : State) (p : TribId) (upsets : List Upset), (s.trib p).cfg.kind ≠ .disabled →
      SlotsExclusive s →
      (∀ b r, InForce s b r → r.slots.toList.Nodup ∧ ∀ n ∈ r.slots.toList, n < 32) →
      ∃ t u, exec (.transmitFrameStart p upsets) s = .next t ∧ u = s.openFrame p upsets ∧
      (∀ b, (u.bun b).active = (if ((s.bun b).armedRecord.map fun r => r.port) = some p
        then (s.bun b).armedRecord else (s.bun b).active)) ∧
      (∀ b, (u.bun b).armed = (if ((s.bun b).armedRecord.map fun r => r.port) = some p
        then none else (s.bun b).armed)) ∧
      (∀ b, t.bun b = if (u.bun b).isOn p then ((u.sampleOn p b).playBundle b).bun b
        else u.bun b) ∧
      ((t.trib p).txAllOnes = false → ∀ n, n < 32 →
        ((s.trib p).cfg.kind = .framed → n ≠ 0) →
        (∀ (b : BundleId) (r : Record) (i : Nat) (v : Byte), (u.bun b).active = some r →
          r.port = p → (u.bun b).state.running = true →
          r.slots.toList[i]? = some n → (t.bun b).playout.out[i]? = some v →
          (t.trib p).txFrame[n]? = some v) ∧
        ((∀ b r, (u.bun b).active = some r → r.port = p → (u.bun b).state.running = true →
            n ∉ r.slots.toList) →
          (t.trib p).txFrame[n]? = some (s.trib p).cfg.idle))) ∧
    (∀ (s t : State) (b : BundleId) (r : Record) (x : Bundle) (p : Playout), s.bun b = x →
      x.playout = p → x.active = some r → s.playBundle b = t →
      (x.state.running = false → t = s) ∧
      (p.atStart = .none → (x.state = .down ∨ x.state = .filling ∧
          (p.phase ≠ .countdown ∨ p.startCount < x.delay.target - r.fpp)) →
        t = { s with bundles := t.bundles } ∧ OtherBundles s t b ∧
        t.bun b = { x with playout := { p with
          out := List.replicate r.slots.count r.fillByte
          startCount := if p.phase = .waitPacket then p.startCount
            else min (p.startCount + 1) 65535 } }) ∧
      (p.atStart = .none → x.state = .filling → p.phase = .countdown →
        x.delay.target - r.fpp ≤ p.startCount →
        t = ((s.startPlayout b r).playFrame b r).setAtStart b .none) ∧
      (x.state = .playing → p.atStart = .none → p.adjust = none →
        t = (s.playFrame b r).setAtStart b .none) ∧
      (∀ a, x.state = .playing → p.atStart = .none → p.adjust = some a →
        a.pace + 1 < 2 ^ r.pace →
        t = ((s.modPlayout b fun q => { q with adjust := some { a with pace := a.pace + 1 } }).playFrame
          b r).setAtStart b .none) ∧
      (∀ a u, x.state = .playing → p.atStart = .none → p.adjust = some a →
        2 ^ r.pace ≤ a.pace + 1 → s.adjustStep b r a = u →
        t = (u.finishStart b r).setAtStart b .none) ∧
      (x.state = .playing → (p.atStart = .started ∨ p.atStart = .skipped ∨ p.atStart = .ended) →
        t = (s.playFrame b r).setAtStart b .none) ∧
      (x.state = .playing → p.atStart = .inserted →
        t = { s with bundles := t.bundles } ∧ OtherBundles s t b ∧
        t.bun b = { x with playout := { p with out := substituted p r, atStart := .none } }) ∧
      (x.state = .filling → p.atStart = .underran →
        t = { s with bundles := t.bundles } ∧ OtherBundles s t b ∧
        t.bun b = { x with playout := { p with
          out := List.replicate r.slots.count r.fillByte, atStart := .none } })) ∧
    (∀ (s t : State) (b : BundleId) (r : Record) (x : Bundle) (p q : Playout), s.bun b = x →
      x.playout = p → s.playFrame b r = t → (t.bun b).playout = q →
      OtherBundles s t b ∧
      t = { s with
        bundles := t.bundles, tribs := t.tribs, ctrls := t.ctrls, faults := t.faults } ∧
      (p.period = .none → (∀ y ∈ p.ring, y = none) →
        q.out = List.replicate r.slots.count r.fillByte ∧ q.lastByte = p.lastByte ∧
        q.ring = p.ring ∧ q.head = p.head ∧ q.adjust = none ∧ q.phase = .waitPacket ∧
        q.startCount = 0 ∧
        q.counters = { p.counters with underruns := bump p.counters.underruns } ∧
        (t.bun b).state = .filling ∧ t.faults = s.faults ∧
        Reported t (eventNow s .playoutUnderrun (.bundle b) (p.head.getD 0).toNat) ∧
        Reported t (bundleStateEvent s b x.state .filling .underrun)) ∧
      (∀ h k, p.head = some h → p.slotFor h = some k → p.period ≠ .missing →
        (t.bun b).state = x.state ∧
        (k.frameSound r.slots.count p.played = true →
          q.out = (k.payload.drop (p.played * r.slots.count)).take r.slots.count ∧
          q.lastByte = q.out.map some ∧ t.faults = s.faults ∧ t.ctrls = s.ctrls ∧
          q.counters.parityFrames = p.counters.parityFrames) ∧
        (k.frameSound r.slots.count p.played = false →
          q.out = substituted p r ∧ q.lastByte = p.lastByte ∧
          q.counters.parityFrames = bump p.counters.parityFrames ∧
          t.faults = s.faults.add ⟨.storeParity, some b, s.eventTime, h.toNat⟩) ∧
        q.residence = (if p.played = 0 then widen p.residence (s.timeCount - k.arrival).toNat
          else p.residence) ∧
        q.counters.originFaultPlayed = (if p.period = .none ∧ k.originFault = true
          then bump p.counters.originFaultPlayed else p.counters.originFaultPlayed) ∧
        q.counters.missing = p.counters.missing ∧
        (p.played + 1 < r.fpp →
          q.played = p.played + 1 ∧ q.period = .packet ∧ q.head = some h ∧ q.ring = p.ring ∧
          q.counters.played = p.counters.played) ∧
        (r.fpp ≤ p.played + 1 →
          q.played = 0 ∧ q.period = .none ∧ q.head = some (h + 1) ∧
          q.ring = p.ring.set (h.toNat % p.ring.length) none ∧
          q.counters.played = bump p.counters.played ∧
          q.counters.playedPath1 = (if k.path = .p1 then bump p.counters.playedPath1
            else p.counters.playedPath1) ∧
          q.counters.playedPath2 = (if k.path = .p2 then bump p.counters.playedPath2
            else p.counters.playedPath2))) ∧
      (∀ h, p.head = some h → p.slotFor h = none →
        (p.period = .missing ∨ p.period = .none ∧ ∃ y ∈ p.ring, y ≠ none) →
        t = { s with bundles := t.bundles } ∧ (t.bun b).state = x.state ∧
        q.out = substituted p r ∧ q.lastByte = p.lastByte ∧ q.ring = p.ring ∧
        q.residence = p.residence ∧
        q.counters = (if p.period = .none
          then { p.counters with missing := bump p.counters.missing } else p.counters) ∧
        (p.played + 1 < r.fpp →
          q.played = p.played + 1 ∧ q.period = .missing ∧ q.head = some h) ∧
        (r.fpp ≤ p.played + 1 →
          q.played = 0 ∧ q.period = .none ∧ q.head = some (h + 1))))

/-- A candidate that becomes valid qualifies for its time and is then AVAILABLE; one not valid is
UNAVAILABLE (R151, R152, R153, notes/assumptions/13.md, notes/assumptions/41.md, Table 73a). That an
expiry command acts from its timer's deadline on, however late, is the model's choice (log entry
13). The order of events posted together is the model's choice (log entry 41). -/
def Obligations.CandidatesQualifyAndAreLost : Prop :=
  ∀ (s : State) (c : Candidate) (x : CandidateRecord), s.timing.candidate c = x →
    (x.valid = false → x.state = .unavailable →
      ∃ t, s.setValidity c true = t ∧
        t = { s with timing := t.timing, ctrls := t.ctrls } ∧
        OnlyCandidate s.timing t.timing c ∧ t.timing.candidate c = qualified s x ∧
        t.timing.state = t.timing.decided ∧
        Posts s t (timingChange s t c)) ∧
    ((x.state ≠ .qualifying ∨ ¬ Due s x.timer) → exec (.qualifyTimerExpiry c) s = .next s) ∧
    (x.state = .qualifying → Due s x.timer →
      ∃ t, exec (.qualifyTimerExpiry c) s = .next t ∧
        t = { s with timing := t.timing, ctrls := t.ctrls } ∧
        OnlyCandidate s.timing t.timing c ∧
        t.timing.candidate c = { x with state := .available, timer := none } ∧
        t.timing.state = t.timing.decided ∧
        Posts s t (timingChange s t c)) ∧
    (c = .station → x.valid = false →
      exec .stationActivityLoss s =
        .next { s with timing := { s.timing with stationGap := true } }) ∧
    (c = .station → x.valid = true → x.state ≠ .unavailable →
      ∃ t, exec .stationActivityLoss s = .next t ∧
        t = { s with timing := t.timing, ctrls := t.ctrls } ∧
        OnlyCandidate s.timing t.timing .station ∧ t.timing.stationGap = true ∧
        t.timing.candidate .station = lostCandidate x ∧
        t.timing.state = t.timing.decided ∧
        Posts s t (timingChange s t .station)) ∧
    (∀ v, x.valid = v → s.setValidity c v = s) ∧
    (x.valid = true → x.state ≠ .unavailable →
      ∃ t, s.setValidity c false = t ∧
        t = { s with timing := t.timing, ctrls := t.ctrls } ∧
        OnlyCandidate s.timing t.timing c ∧ t.timing.candidate c = lostCandidate x ∧
        t.timing.state = t.timing.decided ∧ Posts s t (timingChange s t c))

/-- The selector decides the best AVAILABLE candidate of AUTO, the forced one, or none (R153, Table
59). -/
def Obligations.SelectorDecisionFollowsTable59 : Prop :=
  (∀ x : Timing,
      (x.mode = .free → x.decided = .freeRun) ∧
      (∀ c, x.mode = .forced c → (x.candidate c).state = .available → x.decided = .locked c) ∧
      (∀ c, x.mode = .forced c → (x.candidate c).state ≠ .available →
        x.decided = if x.everLocked then .holdover else .freeRun) ∧
      (x.mode = .auto →
        (∀ c, x.decided = .locked c →
          (x.candidate c).state = .available ∧ (x.candidate c).priority ≠ 0 ∧
          ∀ d, (x.candidate d).state = .available → (x.candidate d).priority ≠ 0 →
            (x.candidate c).priority < (x.candidate d).priority ∨
              (x.candidate c).priority = (x.candidate d).priority ∧ c.index ≤ d.index) ∧
        ((∀ c, x.decided ≠ .locked c) →
          (∀ d, (x.candidate d).state ≠ .available ∨ (x.candidate d).priority = 0) ∧
            x.decided = if x.everLocked then .holdover else .freeRun))) ∧
    (∀ (s t : State) (c : Instr), exec c s = .next t →
      t.timing.state = t.timing.decided ∨
        t.timing.state = s.timing.state ∧ t.timing.mode = s.timing.mode ∧
          t.timing.everLocked = s.timing.everLocked ∧
          ∀ d, (t.timing.candidate d).state = (s.timing.candidate d).state ∧
            (t.timing.candidate d).priority = (s.timing.candidate d).priority) ∧
    (∀ (s t : State) (c : Instr), s.timing.state = s.timing.decided → exec c s = .next t →
      t.timing.state = t.timing.decided) ∧
    State.reset.timing.state = State.reset.timing.decided ∧
    (∀ x : Timing, x.warm.state = x.warm.decided) ∧
    (∀ s : State, s.evaluateTiming.timing.state = s.timing.decided ∧
      (∀ c, s.timing.decided = .locked c → (s.timing.candidate c).state = .available ∧
        (s.timing.mode = .auto → (s.timing.candidate c).priority ≠ 0)) ∧
      s.evaluateTiming =
        { s with timing := s.evaluateTiming.timing, ctrls := s.evaluateTiming.ctrls } ∧
      s.evaluateTiming.timing.holdover = s.timing.holdover ∧
      s.evaluateTiming.timing.everLocked = (s.timing.everLocked || (s.timing.state !=
        s.timing.decided && match s.timing.decided with
          | .locked _ => true
          | _ => false)) ∧
      s.evaluateTiming.timing.candidates = s.timing.candidates ∧
      s.evaluateTiming.timing.mode = s.timing.mode ∧
      (∀ c, s.timing.decided = .locked c → s.timing.state ≠ .locked c →
        s.evaluateTiming.timing.everLocked = true) ∧
      (s.timing.decided ≠ s.timing.state →
        Posts s s.evaluateTiming [eventNow s .timingState .selector
          (s.timing.decided.param * 65536 + s.timing.state.code * 256 + s.timing.decided.code)] ∧
        s.evaluateTiming.timing.holdoverEntries =
          (if s.timing.decided = .holdover then bump s.timing.holdoverEntries
            else s.timing.holdoverEntries)) ∧
      (s.timing.decided = s.timing.state → s.evaluateTiming = s))

/-- TIMING_CONFIG and TIMING_COMMAND need the claim and evaluate the selector (R153, R156, R157,
R181, Table 63, Table 73a). That an OK response carries the values in force is the model's choice
(log entry 65). A request is one that no warm reset has abandoned, or that its port is working on
anew (R177, log entry 15). -/
def Obligations.TimingRequestsEvaluateTheSelector : Prop :=
  ∀ (s : State) (cp : CtrlPort) (raw : Vector RawPriority 9) (m c : Nat), s.load ≠ .loading →
    (∀ i ∈ [Instr.timingConfig cp raw, .timingCommand cp m c], Carried s cp i) →
    (s.holder .timing ≠ some cp →
      (∃ content, exec (.timingConfig cp raw) s = .next (s.decide cp 27 .notHeld content)) ∧
      ∃ content, exec (.timingCommand cp m c) s = .next (s.decide cp 28 .notHeld content)) ∧
    (s.holder .timing = some cp →
      (∃ t status, exec (.timingConfig cp raw) s = .next t ∧
        t = { s with timing := t.timing, ctrls := t.ctrls } ∧
        (∀ d, t.timing.candidate d = { s.timing.candidate d with
          priority := min raw[d.index].priority 7
          qualify := min raw[d.index].qualify 600 }) ∧
        t.timing.mode = s.timing.mode ∧ t.timing.holdover = s.timing.holdover ∧
        t.timing.state = t.timing.decided ∧
        Answers s t cp (selectorChange s t) ⟨27, status,
          (raw.toList.map fun y => bytesOf 1 (min y.priority 7) ++ bytesOf 2 (min y.qualify 600)).flatten⟩ ∧
        (status = .ok ↔ ∀ d : Fin 9, raw[d].priority ≤ 7 ∧ raw[d].qualify ≤ 600) ∧
        (status = .ok ∨ status = .clamped)) ∧
      (timingModeOf m c = none →
        ∃ content, exec (.timingCommand cp m c) s = .next (s.decide cp 28 .badValue content)) ∧
      (∀ mode, timingModeOf m c = some mode →
        ∃ t, exec (.timingCommand cp m c) s = .next t ∧
          t = { s with timing := t.timing, ctrls := t.ctrls } ∧
          t.timing.candidates = s.timing.candidates ∧ t.timing.mode = mode ∧
          t.timing.holdover = s.timing.holdover ∧ t.timing.state = t.timing.decided ∧
          Answers s t cp (selectorChange s t) ⟨28, .ok,
            bytesOf 1 t.timing.state.code ++ bytesOf 1 t.timing.state.param⟩))

/-- A measurement window of 128,000,000 ticks stores the frequencies of whole candidates and the
holdover register (R151, R152, R153, R154, notes/assumptions/13.md, notes/assumptions/28.md). That a
window's end is taken however late, one window a command (log entry 13), and that the measurements
come as operands of the command (log entry 28) are the model's choices. The order of events posted
together is the model's choice (log entry 41). -/
def Obligations.MeasurementWindowsStoreFrequencies : Prop :=
  (∃ t, exec .fullReset State.reset = .next t ∧ t.now = 0 ∧ t.timing.windowEnd = 128000000) ∧
    ∀ (s : State) (station : Option Int) (lines : Vector Int 8),
      (s.now < s.timing.windowEnd → exec (.measurementWindowEnd station lines) s = .next s) ∧
      (s.timing.windowEnd ≤ s.now →
        ∃ t measured, exec (.measurementWindowEnd station lines) s = .next t ∧
        t = { s with timing := t.timing, ctrls := t.ctrls } ∧
        t.timing.windowEnd = s.timing.windowEnd + 128000000 ∧
        measured = (if s.timing.stationGap then none else station) ∧
        (∀ p : TribId, t.timing.candidate (.trib p) = { s.timing.candidate (.trib p) with
          whole := (s.timing.candidate (.trib p)).valid
          frequency := if (s.timing.candidate (.trib p)).whole then some lines[p]
            else (s.timing.candidate (.trib p)).frequency }) ∧
        (∀ x y, s.timing.candidate .station = x →
          y = { x with frequency := measured.orElse fun _ => x.frequency } →
          (measured = none ∨ (∃ f, measured = some f ∧
              (x.valid = true ↔ -51200 ≤ f ∧ f ≤ 51200)) →
            t.timing.candidate .station = { y with whole := x.valid } ∧
            t.timing.state = s.timing.state ∧ t.ctrls = s.ctrls) ∧
          (∀ f, measured = some f → -51200 ≤ f ∧ f ≤ 51200 → x.valid = false →
            x.state = .unavailable →
            t.timing.candidate .station = { qualified s y with whole := true } ∧
            t.timing.state = t.timing.decided ∧ Posts s t (timingChange s t .station)) ∧
          (∀ f, measured = some f → ¬ (-51200 ≤ f ∧ f ≤ 51200) → x.valid = true →
            x.state ≠ .unavailable →
            t.timing.candidate .station = lostCandidate y ∧
            t.timing.state = t.timing.decided ∧ Posts s t (timingChange s t .station))) ∧
        (measured = none → (t.timing.candidate .station).valid =
          (s.timing.candidate .station).valid) ∧
        (∀ f, measured = some f →
          ((t.timing.candidate .station).valid = true ↔ -51200 ≤ f ∧ f ≤ 51200)) ∧
        t.timing.mode = s.timing.mode ∧ t.timing.stationGap = false ∧ t.timing.lockWhole = true ∧
        (∀ p : TribId, s.timing.state = .locked (.trib p) → s.timing.lockWhole = true →
          (s.timing.candidate (.trib p)).whole = true → t.timing.holdover = lines[p]) ∧
        (s.timing.state = .locked .station → measured = none →
          t.timing.holdover = s.timing.holdover) ∧
        (∀ f, s.timing.state = .locked .station → s.timing.lockWhole = true →
          (s.timing.candidate .station).whole = true → measured = some f →
          t.timing.holdover = f) ∧
        (s.timing.lockWhole = false ∨ (∀ c, s.timing.state ≠ .locked c) ∨
          (∃ c, s.timing.state = .locked c ∧ (s.timing.candidate c).whole = false) →
          t.timing.holdover = s.timing.holdover))

/-- A running port sums the fill against its target; a full interval recomputes the offset with
floored shifts (R159, R160, R161, R162, Table 61, notes/assumptions/4.md). The order within the
frame start (log entry 24) and that a full interval waits for its command (log entry 25) and no
sample after a start or step made ahead (log entry 4) are the model's choices. -/
def Obligations.SteeringIntervalEndRecomputesTheOffset : Prop :=
  (∀ (s : State) (p : TribId) (x : Steering) (i o : Int), (s.trib p).steer = x →
    i = max (-65536) (min (x.integrator + x.sum >>> (s.trib p).cfg.ki) 65536) →
    o = max (-65536) (min (i + x.sum >>> (s.trib p).cfg.kp) 65536) →
    (x.samples < 8192 → exec (.steeringIntervalEnd p) s = .next s) ∧
    (8192 ≤ x.samples →
      ∃ t, exec (.steeringIntervalEnd p) s = .next t ∧ t = { s with tribs := t.tribs } ∧
        OtherTribs s t p ∧ t.trib p = { s.trib p with steer := {
          integrator := i
          offset := o
          sum := 0
          samples := 0
          lastSum := x.sum
          completed := bump x.completed
          abandoned := x.abandoned
          clamps := if i = x.integrator + x.sum >>> (s.trib p).cfg.ki ∧
              o = i + x.sum >>> (s.trib p).cfg.kp then x.clamps else bump x.clamps } })) ∧
    (∀ (s u : State) (p : TribId) (upsets : List Upset), (s.trib p).cfg.kind ≠ .disabled →
      s.openFrame p upsets = u →
      ∃ t, exec (.transmitFrameStart p upsets) s = .next t ∧
        (∀ b r x, (u.trib p).cfg.clock = .steered b → (u.bun b).active = some r →
          r.port = p → (u.bun b).state = .playing → (u.bun b).playout.adjust = none →
          x = (if (u.bun b).playout.atStart = .none then
            { (u.trib p).steer with
              sum := (u.trib p).steer.sum +
                (((u.bun b).playout.fill r.fpp : Int) - (u.bun b).delay.target)
              samples := (u.trib p).steer.samples + 1 }
            else (u.trib p).steer) →
          (t.trib p).steer = if (t.bun b).state = .playing then x else x.abandon) ∧
        (u.steeringStatus p ≠ .running →
          (t.trib p).steer = (u.trib p).steer ∨
            (t.trib p).steer = (u.trib p).steer.abandon))

/-- WRITE_PENDING is refused in the order of R20 and otherwise stores the clamped, sorted record
(R20, R21, Table 10, R177, notes/assumptions/11.md, notes/assumptions/15.md). The codes of yes and
no in the response are the model's reading (log entry 11). That an OK response carries the values in
force is the model's choice (log entry 65). A request is one that no warm reset has abandoned, or
that its port is working on anew (R177, log entry 15). -/
def Obligations.WritePendingStoresTheClampedRecord : Prop :=
  ∀ (s : State) (cp : CtrlPort) (n : Nat) (raw : RawRecord),
    Carried s cp (.writePending cp n raw) →
    (s.load = .loading →
      ∃ content, exec (.writePending cp n raw) s = .next (s.decide cp 7 .loading content)) ∧
    (s.load ≠ .loading → 64 ≤ n →
      ∃ content, exec (.writePending cp n raw) s = .next (s.decide cp 7 .badValue content)) ∧
    (s.load ≠ .loading → ∀ b : BundleId, n = b.val →
      (s.holder (.bundle b) ≠ some cp →
        ∃ content, exec (.writePending cp n raw) s = .next (s.decide cp 7 .notHeld content)) ∧
      (s.holder (.bundle b) = some cp → (s.bun b).armed ≠ none →
        ∃ content, exec (.writePending cp n raw) s = .next (s.decide cp 7 .badState content)) ∧
      (s.holder (.bundle b) = some cp → (s.bun b).armed = none → StructuralFault raw →
        ∃ content, exec (.writePending cp n raw) s = .next (s.decide cp 7 .badValue content)) ∧
      (s.holder (.bundle b) = some cp → (s.bun b).armed = none → ¬ StructuralFault raw →
        ∃ t r status, exec (.writePending cp n raw) s = .next t ∧
          t = { s with bundles := t.bundles, ctrls := t.ctrls } ∧ OtherBundles s t b ∧
          t.bun b = { s.bun b with pending := r } ∧ r.raw = clampedRecord raw ∧
          Answers s t cp [] ⟨7, status, r.raw.bytes⟩ ∧
          status = (if clampedRecord raw = { raw with slots := raw.slots.sorted } then .ok
            else .clamped)))

/-- ACTIVATE is refused by the first failing check and otherwise arms the clamped record with its
ring size (R23, R24, R25, R26, R27, R28). That an OK response carries the values in force is the
model's choice (log entry 65). A request is one that no warm reset has abandoned, or that its port
is working on anew (R177, log entry 15). -/
def Obligations.ActivateValidatesAndArms : Prop :=
  ∀ (s : State) (cp : CtrlPort) (n : Nat), s.load ≠ .loading →
    Carried s cp (.activate cp n) →
    (64 ≤ n →
      ∃ content, exec (.activate cp n) s = .next (s.decide cp 8 .badValue content)) ∧
    (∀ (b : BundleId) (p : Record), n = b.val → p = (s.bun b).pending → 1 ≤ p.fpp →
      (s.holder (.bundle b) ≠ some cp →
        ∃ content, exec (.activate cp n) s = .next (s.decide cp 8 .notHeld content)) ∧
      (s.holder (.bundle b) = some cp → (s.bun b).armed ≠ none →
        ∃ content, exec (.activate cp n) s = .next (s.decide cp 8 .badState content)) ∧
      (s.holder (.bundle b) = some cp → (s.bun b).armed = none →
        kindMatches (s.trib p.port).cfg.kind p.slots = false →
        ∃ content, exec (.activate cp n) s = .next (s.decide cp 8 .badState content)) ∧
      (s.holder (.bundle b) = some cp → (s.bun b).armed = none →
        kindMatches (s.trib p.port).cfg.kind p.slots = true →
        (∃ c o, c ≠ b ∧ InForce s c o ∧ o.port = p.port ∧
          ∃ m ∈ p.slots.toList, m ∈ o.slots.toList) →
        ∃ content, exec (.activate cp n) s = .next (s.decide cp 8 .conflict content)) ∧
      (s.holder (.bundle b) = some cp → (s.bun b).armed = none →
        kindMatches (s.trib p.port).cfg.kind p.slots = true →
        (¬ ∃ c o, c ≠ b ∧ InForce s c o ∧ o.port = p.port ∧
          ∃ m ∈ p.slots.toList, m ∈ o.slots.toList) →
        ∀ fpp depth need R sum,
          fpp = (if 512 < p.slots.count * p.fpp then 512 / p.slots.count else p.fpp) → 1 ≤ fpp →
          depth = max p.maxDepth fpp → need = (depth + fpp - 1) / fpp + 2 →
          (R = 16 ∨ R = 32 ∨ R = 64 ∨ R = 128 ∨ R = 256) →
          (R = 16 ∨ R / 2 < need) → (R = 256 ∨ need ≤ R) →
          sum = (allBundles.map fun o =>
            if o = b then max (s.bun o).ringSize R else (s.bun o).poolCharge).sum →
          (4096 < sum →
            ∃ content, exec (.activate cp n) s = .next (s.decide cp 8 .noSpace content)) ∧
          (sum ≤ 4096 →
            ∃ t r status, exec (.activate cp n) s = .next t ∧
              t = { s with bundles := t.bundles, ctrls := t.ctrls } ∧ OtherBundles s t b ∧
              r = { p with
                fpp := fpp
                maxDepth := if need ≤ 256 then depth else 254 * fpp } ∧
              t.bun b = { s.bun b with pending := r, armed := some R } ∧
              Answers s t cp [] ⟨8, status, r.raw.bytes⟩ ∧
              status = (if r = p then .ok else .clamped))))

/-- An armed record becomes the active record with the effects of its class of change (R29, R30,
R31, R32, R33, Table 10). That ACTIVATION_TAKES_EFFECT acts at any instant, not only at a transmit
frame start of its port, is the model's choice (log entry 47). -/
def Obligations.ActivationsTakeEffectByTheirClass : Prop :=
  ∀ (s : State) (b : BundleId),
    ((s.bun b).armed = none → exec (.activationTakesEffect b) s = .next s) ∧
    (∀ R r x cls, s.bun b = x → x.armed = some R → x.pending = r → x.changeClass r = cls →
      ∃ t, exec (.activationTakesEffect b) s = .next t ∧
        t = { s with
          bundles := t.bundles
          tribs := t.tribs
          nets := t.nets
          ctrls := t.ctrls
          claims := t.claims } ∧
        OtherBundles s t b ∧ (∀ p, t.trib p = { s.trib p with steer := (t.trib p).steer }) ∧
        (∀ c, t.holder c = if c = .bundle b then none else s.holder c) ∧
        (t.bun b).active = some r ∧ (t.bun b).pending = r ∧ (t.bun b).armed = none ∧
        (t.bun b).check = Config.checkWord r ∧ (t.bun b).recordFault = false ∧
        (t.bun b).poolCharge = R ∧ (t.bun b).delivery = x.delivery ∧
        Reported t (eventNow s .bundleActivated (.bundle b) cls.code) ∧
        (x.active = none →
          cls = .new ∧ (t.bun b).state = (if r.autoStart then .filling else .stopped) ∧
          RingEmpty (t.bun b).playout R ∧ (t.bun b).assembly = Assembly.start ∧
          DelayCleared (t.bun b).delay ∧ PathsFresh (t.bun b).supervisor r ∧
          (r.autoStart = true → PathsTimed s (t.bun b).supervisor r) ∧
          Reported t (bundleStateEvent s b x.state (t.bun b).state .activated)) ∧
        (∀ old, x.active = some old → ¬ HardSame old r → x.state.running = true →
          cls = .restart ∧ (t.bun b).state = .filling ∧ RingEmpty (t.bun b).playout R ∧
          (t.bun b).assembly = Assembly.start ∧ NothingQueued t b ∧
          DelayCleared (t.bun b).delay ∧ PathsFresh (t.bun b).supervisor r ∧
          PathsTimed s (t.bun b).supervisor r ∧
          (x.state ≠ .filling →
            Reported t (bundleStateEvent s b x.state .filling .restart))) ∧
        (∀ old, x.active = some old → ¬ HardSame old r → x.state.running = false →
          cls = .rebuilt ∧ (t.bun b).state = x.state ∧ RingEmpty (t.bun b).playout R ∧
          DelayCleared (t.bun b).delay ∧ PathsFresh (t.bun b).supervisor r ∧
          (t.bun b).supervisor.startWait = none ∧ t.nets = s.nets) ∧
        (∀ old, x.active = some old → HardSame old r →
          cls = .inPlace ∧ (t.bun b).state = x.state ∧
          (t.bun b).playout.ring = x.playout.ring ∧ (t.bun b).playout.head = x.playout.head ∧
          (t.bun b).assembly = x.assembly ∧ (t.bun b).delay.record = x.delay.record ∧
          (t.bun b).delay.echo = x.delay.echo ∧
          (t.bun b).supervisor.path = x.supervisor.path ∧ t.nets = s.nets))

/-- START takes a sound STOPPED bundle to FILLING, STOP a running one to STOPPED, FREE a STOPPED one
to FREE (R34, R36, R37, R38). The order of events posted together is the model's choice (log entry
41). A request is one that no warm reset has abandoned, or that its port is working on anew (R177,
log entry 15). -/
def Obligations.StartStopAndFreeMoveTheBundle : Prop :=
  ∀ (s : State) (cp : CtrlPort) (n : Nat), s.load ≠ .loading →
    (∀ i ∈ [Instr.start cp n, .stop cp n, .free cp n], Carried s cp i) →
    (64 ≤ n →
      (∃ content, exec (.start cp n) s = .next (s.decide cp 9 .badValue content)) ∧
      (∃ content, exec (.stop cp n) s = .next (s.decide cp 10 .badValue content)) ∧
      ∃ content, exec (.free cp n) s = .next (s.decide cp 11 .badValue content)) ∧
    (∀ (b : BundleId) (x : Bundle), n = b.val → s.bun b = x →
      ((x.active = none ∨ x.state ≠ .stopped ∨ x.recordFault = true ∨
          ∃ r, x.active = some r ∧ (s.trib r.port).cfg.kind = .disabled) →
        ∃ content, exec (.start cp n) s = .next (s.decide cp 9 .badState content)) ∧
      (∀ r, x.active = some r → x.state = .stopped → x.recordFault = false →
        (s.trib r.port).cfg.kind ≠ .disabled →
        ∃ t es, exec (.start cp n) s = .next t ∧
          t = { s with bundles := t.bundles, nets := t.nets, ctrls := t.ctrls } ∧
          OtherBundles s t b ∧ (t.bun b).state = .filling ∧ (t.bun b).active = x.active ∧
          (t.bun b).pending = x.pending ∧ (t.bun b).armed = x.armed ∧
          (t.bun b).assembly = Assembly.start ∧ NothingQueued t b ∧
          (t.bun b).playout = Playout.fresh x.playout.ring.length ∧
          DelayCleared (t.bun b).delay ∧ PathsFresh (t.bun b).supervisor r ∧
          PathsTimed s (t.bun b).supervisor r ∧
          Answers s t cp (bundleStateEvent s b .stopped .filling .start :: es) ⟨9, .ok, []⟩) ∧
      (x.state = .free →
        ∃ content, exec (.stop cp n) s = .next (s.decide cp 10 .badState content)) ∧
      (x.state = .stopped → exec (.stop cp n) s = .next (s.decide cp 10 .ok [])) ∧
      (x.state.running = true →
        ∃ t es, exec (.stop cp n) s = .next t ∧
          t = { s with
            bundles := t.bundles, nets := t.nets, tribs := t.tribs, ctrls := t.ctrls } ∧
          OtherBundles s t b ∧ (∀ p, t.trib p = { s.trib p with steer := (t.trib p).steer }) ∧
          (x.state = .playing → SteeringAbandoned s t b) ∧
          (x.state ≠ .playing → t.tribs = s.tribs) ∧
          (t.bun b).state = .stopped ∧ (t.bun b).active = x.active ∧
          (t.bun b).pending = x.pending ∧ (t.bun b).armed = x.armed ∧
          RingEmpty (t.bun b).playout x.playout.ring.length ∧
          (t.bun b).assembly.buffer = [] ∧ (t.bun b).assembly.held = [] ∧ NothingQueued t b ∧
          DelayCleared (t.bun b).delay ∧ (t.bun b).supervisor.startWait = none ∧
          (∀ p, ((t.bun b).supervisor.path.atPath p).lossTimer = none ∧
            ((t.bun b).supervisor.path.atPath p).state = (x.supervisor.path.atPath p).state) ∧
          (t.bun b).supervisor.selector.mismatch = false ∧
          bundleStateEvent s b x.state .stopped .stop ∈ es ∧
          Answers s t cp es ⟨10, .ok, []⟩) ∧
      (s.holder (.bundle b) = some cp.other →
        ∃ content, exec (.free cp n) s = .next (s.decide cp 11 .heldElsewhere content)) ∧
      (s.holder (.bundle b) ≠ some cp.other → x.armed ≠ none ∨ x.state ≠ .stopped →
        ∃ content, exec (.free cp n) s = .next (s.decide cp 11 .badState content)) ∧
      (s.holder (.bundle b) ≠ some cp.other → x.armed = none → x.state = .stopped →
        ∃ t, exec (.free cp n) s = .next t ∧
          t = { s with bundles := t.bundles, claims := t.claims, ctrls := t.ctrls } ∧
          OtherBundles s t b ∧ (t.bun b).state = .free ∧ (t.bun b).active = none ∧
          (t.bun b).pending = Record.default ∧ (t.bun b).recordFault = false ∧
          (t.bun b).check = 0 ∧ (t.bun b).poolCharge = 0 ∧ (t.bun b).playout.ring = [] ∧
          (t.bun b).delivery = x.delivery ∧
          (∀ c, t.holder c = if c = .bundle b then none else s.holder c) ∧
          Answers s t cp [bundleStateEvent s b .stopped .free .freed] ⟨11, .ok, []⟩))

/-- The record patrol stops every bundle whose active record fails its check word (R37, R40, R105,
R150, R162, R174). The model's choices: the changed records as an operand of the command (log entry
18), the bundles in ascending number (66), the pending record left as it was beside a changed active
one (45), and the frames collected set to 0 and the fault mark cleared at the entry to STOPPED (48).
-/
def Obligations.RecordPatrolStopsAFaultedBundle : Prop :=
  ∀ (s u : State) (reads : List (BundleId × Record)), reads.foldl State.readRecord s = u →
    u = { s with bundles := u.bundles } ∧
    (∀ b, ((s.bun b).active = none ∨ (s.bun b).recordFault = true ∨ ∀ r, (b, r) ∉ reads) →
      u.bun b = s.bun b) ∧
    (∀ b r pre post, reads = pre ++ (b, r) :: post → (∀ r', (b, r') ∉ post) →
      (s.bun b).active ≠ none → (s.bun b).recordFault = false →
      u.bun b = { s.bun b with active := some r }) ∧
    ∃ t, exec (.recordPatrol reads) s = .next t ∧
      t.faults = (allBundles.filter fun b => (u.bun b).mismatched).foldl
        (fun f b => f.add ⟨.recordCheck, some b, s.eventTime, 0⟩) s.faults ∧
      (∀ b k, (u.bun b).mismatched = true →
        k = (allBundles.filter fun c => decide (c ≤ b) && (u.bun c).mismatched).length →
        Reported t (faultEvent s .recordCheck (some b) k)) ∧
      t = { s with
        bundles := t.bundles
        tribs := t.tribs
        nets := t.nets
        ctrls := t.ctrls
        faults := t.faults } ∧
      (∀ p, ((∀ b, (s.trib p).cfg.clock = .steered b → (u.bun b).mismatched = false ∨
            (s.bun b).state ≠ .playing) → t.trib p = s.trib p) ∧
        (∀ b, (s.trib p).cfg.clock = .steered b → (u.bun b).mismatched = true →
          (s.bun b).state = .playing →
          t.trib p = { s.trib p with steer := (s.trib p).steer.abandon })) ∧
      (∀ (n : NetPort) (keep : QueueEntry → Bool), keep = (fun e =>
          !((u.bun e.bundle).mismatched && (s.bun e.bundle).state.running)) →
        t.net n = { s.net n with
          protection := (s.net n).protection.filter keep
          priority := (s.net n).priority.filter keep
          routine := (s.net n).routine.filter keep
          tx := { (s.net n).tx with withdrawn := (t.net n).tx.withdrawn } }) ∧
      (∀ b, (u.bun b).mismatched = true → (s.bun b).state.running = false →
        t.bun b = { u.bun b with recordFault := true, state := .stopped }) ∧
      (∀ b x y, (u.bun b).mismatched = true → (s.bun b).state.running = true → u.bun b = x →
        t.bun b = y →
        y = { x with
          recordFault := true
          state := .stopped
          assembly := { x.assembly with buffer := [], frames := 0, faultMark := false, held := [] }
          playout := y.playout
          delay := y.delay
          supervisor := y.supervisor } ∧
        RingEmpty y.playout x.playout.ring.length ∧ y.playout.period = .none ∧
        y.playout.phase = .waitPacket ∧ y.playout.estimateWait = none ∧
        y.playout.counters = x.playout.counters ∧ DelayCleared y.delay ∧ NothingQueued t b ∧
        (∀ p, y.supervisor.path.atPath p = { x.supervisor.path.atPath p with lossTimer := none }) ∧
        y.supervisor.startWait = none ∧
        y.supervisor.selector = { x.supervisor.selector with
          holdOff := none, restore := none, mismatchTimer := none, mismatch := false } ∧
        (x.playout.adjust ≠ none →
          Reported t (eventNow s .depthAdjust (.bundle b) (3 * 67108864))) ∧
        (x.supervisor.selector.mismatch = true →
          Reported t (eventNow s .pathMismatch (.bundle b) (x.supervisor.selector.active.code * 256 +
            announcementCode x.supervisor.selector.announcement)))) ∧
      (∀ b, (u.bun b).mismatched = false → t.bun b = u.bun b) ∧
      (∀ b r, (u.bun b).active = some r → (u.bun b).recordFault = false →
        Config.checkWord r ≠ (u.bun b).check →
        (t.bun b).recordFault = true ∧ (t.bun b).state = .stopped ∧
        (t.bun b).active = some r ∧ (t.bun b).poolCharge = (u.bun b).poolCharge ∧
        Reported t (bundleStateEvent s b (s.bun b).state .stopped .recordFault)) ∧
      (s.faults.count ≤ 255 → t.faults.count =
        min 255 (s.faults.count + (allBundles.filter fun b => (u.bun b).mismatched).length))

/-- A sent frame is followed by the gap, after which the head of the highest class begins (R52, R55,
R56, R57, R58, R60). The algorithm of the frame check sequence (log entry 10) and the eight bytes
before the first of the frame (log entry 23) are the model's, and so is that either command does
nothing in another state (log entry 14). -/
def Obligations.TransmitterStartsTheHighestClassAndRests : Prop :=
  ∀ (s : State) (n : NetPort) (x : Net), s.net n = x →
    ((∀ f, x.transmitter ≠ .sending f) → exec (.frameSent n) s = .next s) ∧
    (∀ f, x.transmitter = .sending f →
      ∃ t, exec (.frameSent n) s = .next t ∧ t = { s with nets := t.nets } ∧
        OtherNets s t n ∧
        t.net n = { x with transmitter := .gap, tx := { x.tx with sent := bump x.tx.sent } }) ∧
    (x.transmitter ≠ .gap → exec (.interFrameGapEnd n) s = .next s) ∧
    (x.transmitter = .gap → x.up = false ∨ x.queued = 0 →
      ∃ t, exec (.interFrameGapEnd n) s = .next t ∧ t = { s with nets := t.nets } ∧
        OtherNets s t n ∧ t.net n = { x with transmitter := .idle }) ∧
    (∀ c e rest r h, x.transmitter = .gap → x.up = true → x.queue c = e :: rest →
      (c = .priority → x.protection = []) →
      (c = .routine → x.protection = [] ∧ x.priority = []) →
      (s.bun e.bundle).active = some r →
      (s.bun e.bundle).assembly.held.find? (fun k => k.seq == e.seq) = some h →
      ∃ (t : State) (header : Header) (frame : List Byte) (echo : Echo) (dwell : Time),
        exec (.interFrameGapEnd n) s = .next t ∧
        t = { s with nets := t.nets, bundles := t.bundles } ∧ OtherNets s t n ∧
        OtherBundles s t e.bundle ∧
        t.net n = { x.setQueue c rest with transmitter := .sending frame } ∧
        frame = sealFrame (addressBytes r.farStation ++ addressBytes (s.settings.station n) ++
          tagBytes r.tag ++ bytesOf 2 s.settings.bundleType ++ header.bytes ++ h.payload) ∧
        echo = (s.bun e.bundle).delay.echo.atPath e.path ∧ dwell = s.timeCount + 8 - echo.arrival ∧
        header.path = e.path ∧ header.seq = h.seq ∧ header.label = r.txLabel ∧
        header.length = h.payload.length ∧ header.originFault = h.originFault ∧
        header.origin = s.timeCount + 8 ∧
        header.rxFault =
          (((s.bun e.bundle).supervisor.path.atPath e.path).state != .up) ∧
        header.playing = playingPath (s.bun e.bundle).state r.pathMode
          (s.bun e.bundle).supervisor.selector.active ∧
        (echo.valid = true ∧ dwell.toNat ≤ 125000000 →
          header.echoValid = true ∧ header.echoOrigin = echo.origin ∧
          header.echoDwell = dwell) ∧
        (echo.valid = false ∨ 125000000 < dwell.toNat →
          header.echoValid = false ∧ header.echoOrigin = 0 ∧ header.echoDwell = 0 ∧
          ((t.bun e.bundle).delay.echo.atPath e.path).valid = false) ∧
        (t.bun e.bundle).assembly.held =
          (s.bun e.bundle).assembly.held.filterMap fun k =>
            if k.seq = e.seq then k.lose n else some k) ∧
    (x.transmitter ≠ .idle ∨ x.up = false ∨ x.queued = 0 → s.arbitrate n = s) ∧
    (x.transmitter = .idle →
      exec (.interFrameGapEnd n) (s.modNet n fun y => { y with transmitter := .gap }) =
        .next (s.arbitrate n))

/-- A link comes UP after 50 ms of indication and falls at once with everything queued flushed (R54,
R63, R64, notes/assumptions/13.md). That an expiry command acts from its timer's deadline on,
however late, is the model's choice (log entry 13). -/
def Obligations.LinksQualifyAndFallWithTheirQueues : Prop :=
  ∀ (s : State) (n : NetPort) (cut back : Bool) (x : Net), s.net n = x →
    (x.indication = true → exec (.linkIndicationAppears n) s = .next s) ∧
    (x.indication = false →
      ∃ t, exec (.linkIndicationAppears n) s = .next t ∧ t = { s with nets := t.nets } ∧
        OtherNets s t n ∧ t.net n = { x with
          indication := true
          qualification := if x.up then x.qualification else some (s.now + 6250000) }) ∧
    (x.up = true ∨ x.indication = false ∨ ¬ Due s x.qualification →
      exec (.linkQualificationExpiry n) s = .next s) ∧
    (x.up = false → x.indication = true → Due s x.qualification →
      ∃ t, exec (.linkQualificationExpiry n) s = .next t ∧
        t = { s with nets := t.nets, ctrls := t.ctrls } ∧ OtherNets s t n ∧
        t.net n = { x with up := true, qualification := none } ∧
        Posts s t [eventNow s .linkState (.net n) 1]) ∧
    (x.up = false → x.indication = false →
      exec (.linkIndicationLost n cut back) s = .next s) ∧
    (x.up = true ∨ x.indication = true →
      ∃ t rx qualification, exec (.linkIndicationLost n cut back) s = .next t ∧
        t = { s with nets := t.nets, bundles := t.bundles, ctrls := t.ctrls } ∧
        OtherNets s t n ∧
        rx = (if cut then { x.rx with whileDown := bump x.rx.whileDown } else x.rx) ∧
        qualification = (if back then some (s.now + 6250000) else none) ∧
        (x.up = false → t.bundles = s.bundles ∧ t.ctrls = s.ctrls ∧
          t.net n = { x with indication := back, qualification := qualification, rx := rx }) ∧
        (x.up = true →
          Posts s t [eventNow s .linkState (.net n) 0] ∧
          (∀ b, t.bun b = { s.bun b with assembly := (s.bun b).assembly.losePort n }) ∧
          t.net n = { x with
            up := false
            indication := back
            qualification := qualification
            rx := rx
            protection := []
            priority := []
            routine := []
            transmitter := .idle
            tx := { x.tx with
              aborted := if x.transmitter = .idle ∨ x.transmitter = .gap then x.tx.aborted
                else bump x.tx.aborted
              flushed := bumpBy x.tx.flushed x.queued } }))

/-- A taken frame increments one receive counter of its port, its verdict's, and fills its capture
slot (R64, R66, R67, R69, R70, R75). The algorithm of the frame check sequence (log entry 10) and
the frame's length of one tick a byte (log entry 23) are the model's. That a frame to a group or
broadcast address passes check 2 where that address is set is the model's choice (log entry 63). -/
def Obligations.EachFrameIncrementsOnePortCounter : Prop :=
  ∀ (s : State) (n : NetPort) (at_ : Time) (err : Bool) (bytes bs : List Byte) (fcs : Vector Byte 4)
    (x : Net) (after type : Nat) (rest : List Byte), s.net n = x → bs = bytes ++ fcs.toList →
    after = (if fieldAt bytes 12 2 = 0x8100 then 16 else 12) → type = fieldAt bytes after 2 →
    rest = bytes.drop (after + 2) →
    at_ = s.timeCount - BitVec.ofNat 32 bs.length →
    ∃ t, exec (.frameTaken n fcs err bytes) s = .next t ∧ OtherNets s t n ∧
      (x.up = false → t = { s with nets := t.nets } ∧
        t.net n = { x with rx := { x.rx with whileDown := bump x.rx.whileDown } }) ∧
      (x.up = true → CheckOneFails err bs → t = { s with nets := t.nets } ∧
        t.net n = { x with rx := { x.rx with fcsError := bump x.rx.fcsError } }) ∧
      (x.up = true → ¬ CheckOneFails err bs →
        BitVec.ofNat 48 (fieldAt bs 0 6) ≠ s.settings.station n → t = { s with nets := t.nets } ∧
        t.net n = { x with rx := { x.rx with notMine := bump x.rx.notMine } }) ∧
      (x.up = true → ¬ CheckOneFails err bs →
        BitVec.ofNat 48 (fieldAt bs 0 6) = s.settings.station n →
        type ≠ s.settings.bundleType → t = { s with nets := t.nets } ∧
        t.net n = { x with rx := { x.rx with otherType := bump x.rx.otherType } }) ∧
      (x.up = true → ¬ CheckOneFails err bs →
        BitVec.ofNat 48 (fieldAt bs 0 6) = s.settings.station n →
        type = s.settings.bundleType →
        HeaderFails bs.length rest → t = { s with nets := t.nets } ∧
        t.net n = { x with rx := { x.rx with malformed := bump x.rx.malformed } }) ∧
      (¬ CheckOneFails err bs → BitVec.ofNat 48 (fieldAt bs 0 6) = s.settings.station n →
        type = s.settings.bundleType → ¬ HeaderFails bs.length rest →
        ∃ k, s.checkFrame n at_ err bs = .passed k ∧ k.raw = rest.take 20 ∧
          Header.ofBytes k.raw = some k.header ∧
          k.payload = (rest.drop 20).take k.header.length ∧ k.port = n ∧
          k.source = BitVec.ofNat 48 (fieldAt bs 6 6) ∧
          k.tag = if after = 16 then some (BitVec.ofNat 16 (fieldAt bs 14 2)) else none) ∧
      (∀ k, s.checkFrame n at_ err bs = .passed k → k.arrival = at_) ∧
      (∀ k, x.up = true → s.checkFrame n at_ err bs = .passed k →
        (x.list.any fun e => e.entry.enabled && e.entry.covers k.header.label) = false →
        t = { s with nets := t.nets } ∧
        t.net n = { x with rx := { x.rx with unmatched := bump x.rx.unmatched } }) ∧
      (∀ k pos e, x.up = true → s.checkFrame n at_ err bs = .passed k →
        x.list[pos]? = some e → e.entry.enabled = true →
        e.entry.label &&& e.entry.mask = k.header.label &&& e.entry.mask →
        (∀ i d, i < pos → x.list[i]? = some d → d.entry.enabled = true →
          d.entry.label &&& d.entry.mask ≠ k.header.label &&& d.entry.mask) →
        (t.net n).list = x.list.set pos ⟨e.entry, bump e.hits⟩ ∧
        (∀ c : CaptureId, e.entry.capture ≠ some c → t.captures[c] = s.captures[c]) ∧
        (∀ c : CaptureId, e.entry.capture = some c →
          (s.captures[c].state = .empty → t.captures[c] = s.captures[c]) ∧
          (∀ y, s.captures[c].state = .full y → t.captures[c] = ⟨.full y, true⟩) ∧
          (s.captures[c].state = .armed →
            ∃ y, t.captures[c] = ⟨.full y, false⟩ ∧ y.port = n ∧ y.position = pos ∧
              y.action = e.entry.action ∧
              (y.outcome, y.chosen) = s.judge k (s.act e.entry.action k.header.label) ∧
              y.arrival = at_ ∧ y.source = k.source ∧ y.tag = k.tag ∧ y.header = k.raw ∧
              y.payload = k.payload.take 64 ++ List.replicate (64 - k.payload.length) 0 ∧
              Reported t (eventNow s .captureFull (.capture c) (n.code * 256 + pos)))) ∧
        (e.entry.action = .discard → t.bundles = s.bundles ∧
          (t.net n).rx = { x.rx with listDiscard := bump x.rx.listDiscard }) ∧
        (e.entry.action = .deliverByLabel →
          (∀ b r, (s.bun b).active = some r → r.rxLabel ≠ k.header.label) →
          t.bundles = s.bundles ∧
          (t.net n).rx = { x.rx with unmatched := bump x.rx.unmatched }) ∧
        (∀ b, (e.entry.action = .deliverFixed b ∨ e.entry.action = .deliverByLabel ∧
            (∃ r, (s.bun b).active = some r ∧ r.rxLabel = k.header.label) ∧
            ∀ c r, c < b → (s.bun c).active = some r → r.rxLabel ≠ k.header.label) →
          (t.net n).rx = { x.rx with delivered := bump x.rx.delivered } ∧
          OtherBundles s t b ∧
          (((s.bun b).active = none ∨ (s.bun b).state.running = false) →
            t.bun b = { s.bun b with delivery := { (s.bun b).delivery with
              inactive := bump (s.bun b).delivery.inactive } }) ∧
          (∀ r, (s.bun b).active = some r → (s.bun b).state.running = true →
            (k.header.path ≠ r.portMap.pathOf n →
              t.bun b = { s.bun b with delivery := { (s.bun b).delivery with
                misrouted := bump (s.bun b).delivery.misrouted } }) ∧
            (k.header.path = r.portMap.pathOf n →
              k.header.length ≠ r.slots.count * r.fpp →
              t.bun b = { s.bun b with delivery := { (s.bun b).delivery with
                wrongSize := bump (s.bun b).delivery.wrongSize } }) ∧
            (k.header.path = r.portMap.pathOf n →
              k.header.length = r.slots.count * r.fpp →
              (t.bun b).delivery = { (s.bun b).delivery with
                accepted := bump (s.bun b).delivery.accepted } ∧
              ∃ u, u = { s with
                  bundles := u.bundles, nets := t.nets, captures := t.captures, ctrls := u.ctrls } ∧
                OtherBundles s u b ∧
                u.bun b = { s.bun b with delivery := { (s.bun b).delivery with
                  accepted := bump (s.bun b).delivery.accepted } } ∧
                t = u.accept b k))))

/-- An accepted packet goes to the delay unit, its path's record and the playout store, and lifts
DOWN (R78, R111, R113, R134, R136, R139). That the three blocks take the packet in the order delay,
paths, playout is the model's choice (log entry 3). -/
def Obligations.AcceptedPacketsReachTheThreeBlocks : Prop :=
  ∀ (s : State) (b : BundleId) (k : Packet) (r : Record) (x : Bundle), s.bun b = x →
    x.active = some r → x.state.running = true →
    ∀ t, s.accept b k = t →
      t = ((s.measure b r k).acceptOnPath b r k.header.path k.header.rxFault
        k.header.playing).place b r k ∧
      t = { s with bundles := t.bundles, tribs := t.tribs, ctrls := t.ctrls } ∧
      OtherBundles s t b ∧ (∀ p, t.trib p = { s.trib p with steer := (t.trib p).steer }) ∧
      (t.bun b).active = x.active ∧ (t.bun b).pending = x.pending ∧
      (t.bun b).armed = x.armed ∧ (t.bun b).assembly = x.assembly ∧
      (t.bun b).delivery = x.delivery ∧ (t.bun b).state.running = true ∧
      (x.state = .down → x.supervisor.downCondition r.pathMode = true →
        (t.bun b).state = .filling) ∧
      (t.bun b).delay.echo.atPath k.header.path = ⟨k.header.origin, k.arrival, true⟩ ∧
      (t.bun b).delay.echo.atPath k.header.path.other =
        x.delay.echo.atPath k.header.path.other ∧
      (∀ y, x.supervisor.path.atPath k.header.path = y →
        (t.bun b).supervisor.path.atPath k.header.path = { y with
          state := .up
          lossTimer := some (s.now + r.lossTime * 125000)
          farFlag := k.header.rxFault
          ups := if y.state = .up then y.ups else bump y.ups
          onsets := if k.header.rxFault = true ∧ y.farFlag = false then bump y.onsets
            else y.onsets } ∧
        (y.state ≠ .up → Reported t (eventNow s .pathState (.bundlePath b k.header.path)
          (y.state.code * 256 + 1)))) ∧
      (t.bun b).supervisor.path.atPath k.header.path.other =
        x.supervisor.path.atPath k.header.path.other ∧
      (t.bun b).supervisor.selector.announcement = some k.header.playing ∧
      (k.header.echoValid = false →
        (t.bun b).delay.record.atPath k.header.path =
          { x.delay.record.atPath k.header.path with
            unechoed := bump (x.delay.record.atPath k.header.path).unechoed }) ∧
      (∀ rtt, k.header.echoValid = true →
        rtt = (k.arrival - k.header.echoOrigin - k.header.echoDwell).toNat →
        (125000000 < rtt →
          (t.bun b).delay.record.atPath k.header.path =
            { x.delay.record.atPath k.header.path with
              implausible := bump (x.delay.record.atPath k.header.path).implausible }) ∧
        (rtt ≤ 125000000 →
          (t.bun b).delay.record.atPath k.header.path =
            ((x.delay.record.atPath k.header.path).sample r rtt).1))

/-- A frame as a transmitter composes it passes the checks of the port it is sent to, every field
unchanged (R56, R65, R66, R67, R179, 10_formats.md 10.1). The algorithm of the frame check sequence
is the model's (log entry 10), and so is that a station address that is a group or broadcast address
passes (log entry 63). -/
def Obligations.TransmittedFramesPassTheReceiveChecks : Prop :=
  ∀ (s : State) (n : NetPort) (arrival : Time) (source : Address) (tag : Option Tag) (h : Header)
    (payload : List Byte) (unused : Fin 8) (last : Byte),
    0x0600 ≤ s.settings.bundleType → s.settings.bundleType ≤ 0xFFFF →
    s.settings.bundleType ≠ 0x8100 → h.label < 16384 → h.length = payload.length →
    1 ≤ payload.length → payload.length ≤ 512 →
    h.bytes.length = 20 ∧ Header.ofBytes h.bytes = some h ∧
    Header.ofBytes
      ((h.bytes.set 5 (byteAt h.bytes 5 ||| BitVec.ofNat 8 (unused.val * 4))).set 19 last) =
      some h ∧
    s.checkFrame n arrival false
      (sealFrame (addressBytes (s.settings.station n) ++ addressBytes source ++ tagBytes tag ++
        bytesOf 2 s.settings.bundleType ++ h.bytes ++ payload)) =
      .passed ⟨n, arrival, source, tag.map (fun g => BitVec.ofNat 16 g.word), h.bytes, h,
        payload⟩

/-- A list edit changes the one position it names, and CAPTURE_ARM arms its slot (R71, R72, R74,
R177, notes/assumptions/12.md, notes/assumptions/15.md). The class and number that name a list as a
section are the model's reading (log entry 12). A request is one that no warm reset has abandoned,
or that its port is working on anew (R177, log entry 15). -/
def Obligations.ListEditsAndCaptureArmingAreExact : Prop :=
  (∀ (s : State) (cp : CtrlPort) (port q : Nat) (raw : RawEntry),
      (∀ i ∈ [Instr.listInsert cp port q raw, .listRemove cp port q, .listReplace cp port q raw], Carried s cp i) →
      (s.load = .loading →
        (∃ c, exec (.listInsert cp port q raw) s = .next (s.decide cp 18 .loading c)) ∧
        (∃ c, exec (.listRemove cp port q) s = .next (s.decide cp 19 .loading c)) ∧
        ∃ c, exec (.listReplace cp port q raw) s = .next (s.decide cp 20 .loading c)) ∧
      (raw.typed = none ↔ 16383 < raw.label ∨ 16383 < raw.mask ∨ 3 ≤ raw.action ∨
        raw.action = 0 ∧ 64 ≤ raw.actionArg ∨ ∃ c, raw.capture = some c ∧ 4 ≤ c) ∧
      (s.load ≠ .loading → netOf port = none →
        (∃ c, exec (.listInsert cp port q raw) s = .next (s.decide cp 18 .badValue c)) ∧
        (∃ c, exec (.listRemove cp port q) s = .next (s.decide cp 19 .badValue c)) ∧
        ∃ c, exec (.listReplace cp port q raw) s = .next (s.decide cp 20 .badValue c)) ∧
      (∀ n xs, s.load ≠ .loading → netOf port = some n → (s.net n).list = xs →
        (∀ num, netOf num = some n → s.holder (.list n) = some cp →
          Carried s cp (.closeEdit cp ⟨2, num⟩) →
          ∃ t, exec (.closeEdit cp ⟨2, num⟩) s = .next t ∧ t.nets = s.nets ∧
            t.holder (.list n) = none ∧ Answers s t cp [] ⟨5, .ok, []⟩) ∧
        (s.holder (.list n) ≠ some cp →
          (∃ c, exec (.listInsert cp port q raw) s = .next (s.decide cp 18 .notHeld c)) ∧
          (∃ c, exec (.listRemove cp port q) s = .next (s.decide cp 19 .notHeld c)) ∧
          ∃ c, exec (.listReplace cp port q raw) s = .next (s.decide cp 20 .notHeld c)) ∧
        (s.holder (.list n) = some cp → xs.length < q ∨ raw.typed = none →
          ∃ c, exec (.listInsert cp port q raw) s = .next (s.decide cp 18 .badValue c)) ∧
        (s.holder (.list n) = some cp → xs.length ≤ q →
          ∃ c, exec (.listRemove cp port q) s = .next (s.decide cp 19 .badValue c)) ∧
        (s.holder (.list n) = some cp → xs.length ≤ q ∨ raw.typed = none →
          ∃ c, exec (.listReplace cp port q raw) s = .next (s.decide cp 20 .badValue c)) ∧
        (∀ e, s.holder (.list n) = some cp → raw.typed = some e →
          (q ≤ xs.length → 48 ≤ xs.length →
            ∃ c, exec (.listInsert cp port q raw) s = .next (s.decide cp 18 .noSpace c)) ∧
          (q ≤ xs.length → xs.length < 48 →
            ∃ t, exec (.listInsert cp port q raw) s = .next t ∧
              t = { s with nets := t.nets, ctrls := t.ctrls } ∧ OtherNets s t n ∧
              t.net n = { s.net n with list := (t.net n).list } ∧
              (t.net n).list.length = xs.length + 1 ∧ (t.net n).list[q]? = some ⟨e, 0⟩ ∧
              (∀ i, i < q → (t.net n).list[i]? = xs[i]?) ∧
              (∀ i, q ≤ i → (t.net n).list[i + 1]? = xs[i]?) ∧
              Answers s t cp [] ⟨18, .ok, bytesOf 1 (xs.length + 1)⟩) ∧
          (q < xs.length →
            ∃ t, exec (.listReplace cp port q raw) s = .next t ∧
              t = { s with nets := t.nets, ctrls := t.ctrls } ∧ OtherNets s t n ∧
              t.net n = { s.net n with list := (t.net n).list } ∧
              (∀ i, (t.net n).list[i]? = if i = q then some ⟨e, 0⟩ else xs[i]?) ∧
              Answers s t cp [] ⟨20, .ok, bytesOf 1 xs.length⟩)) ∧
        (s.holder (.list n) = some cp → q < xs.length →
          ∃ t, exec (.listRemove cp port q) s = .next t ∧
            t = { s with nets := t.nets, ctrls := t.ctrls } ∧ OtherNets s t n ∧
            t.net n = { s.net n with list := (t.net n).list } ∧
            (∀ i, i < q → (t.net n).list[i]? = xs[i]?) ∧
            (∀ i, q ≤ i → (t.net n).list[i]? = xs[i + 1]?) ∧
            Answers s t cp [] ⟨19, .ok, bytesOf 1 (xs.length - 1)⟩))) ∧
    (∀ (s : State) (cp : CtrlPort),
      (∀ m, 4 ≤ m → Carried s cp (.captureArm cp m) →
        ∃ c, exec (.captureArm cp m) s = .next (s.decide cp 22 .badValue c)) ∧
      (∀ c : CaptureId, Carried s cp (.captureArm cp c.val) → ∃ t, exec (.captureArm cp c.val) s = .next t ∧
        t = { s with captures := t.captures, ctrls := t.ctrls } ∧
        (∀ d : CaptureId, t.captures[d] = if d = c then ⟨.armed, false⟩ else s.captures[d]) ∧
        Answers s t cp [] ⟨22, .ok, []⟩))

/-- A packet is LATE, EARLY, a copy, a duplicate or stored by its distance from the head, and slips
a full ring (R39, R83, R84, R85, R86, R87). The order of events posted together is the model's
choice (log entry 41). -/
def Obligations.PlacementFollowsTable37 : Prop :=
  ∀ (s : State) (b : BundleId) (r : Record) (k : Packet) (x : Bundle) (p : Playout),
    s.bun b = x → x.playout = p → x.active = some r →
    ∀ t, s.place b r k = t →
      OtherBundles s t b ∧ t = { s with bundles := t.bundles, tribs := t.tribs, ctrls := t.ctrls } ∧
      ((x.state ≠ .playing ∨ p.earlyRun + 1 < 8 ∨
          r.pathMode = .selected ∧ k.header.path ≠ x.supervisor.selector.active ∨ p.head = none ∨
          ∃ h, p.head = some h ∧ (k.header.seq - h).toNat < p.ring.length) →
        t.tribs = s.tribs) ∧
      (r.pathMode = .selected → k.header.path ≠ x.supervisor.selector.active →
        t.tribs = s.tribs ∧ t.ctrls = s.ctrls ∧
        t.bun b = { x with playout := { p with counters := { p.counters with
          standby := bump p.counters.standby } } }) ∧
      ((r.pathMode ≠ .selected ∨ k.header.path = x.supervisor.selector.active) →
        (∀ h d, p.head = some h → d = (k.header.seq - h).toNat →
          (32768 ≤ d ∨ d = 0 ∧ 1 ≤ p.played →
            t.tribs = s.tribs ∧ t.ctrls = s.ctrls ∧
            t.bun b = { x with playout := { p with counters := { p.counters with
              late := bump p.counters.late } } }) ∧
          (d < 32768 → (d ≠ 0 ∨ p.played = 0) → p.ring.length ≤ d → p.earlyRun + 1 < 8 →
            t.tribs = s.tribs ∧ t.ctrls = s.ctrls ∧
            t.bun b = { x with playout := { p with
              earlyRun := p.earlyRun + 1
              counters := { p.counters with early := bump p.counters.early } } }) ∧
          (d < 32768 → (d ≠ 0 ∨ p.played = 0) → p.ring.length ≤ d → 8 ≤ p.earlyRun + 1 →
            Resynced s t b k.header.seq h) ∧
          (∀ y, d < 32768 → (d ≠ 0 ∨ p.played = 0) → d < p.ring.length →
            p.slotFor k.header.seq = some y →
            t.tribs = s.tribs ∧ t.ctrls = s.ctrls ∧
            t.bun b = { x with playout := { p with counters :=
              if y.path = k.header.path
                then { p.counters with duplicate := bump p.counters.duplicate }
                else { p.counters with mergeCopy := bump p.counters.mergeCopy } } }) ∧
          (d < 32768 → (d ≠ 0 ∨ p.played = 0) → d < p.ring.length →
            p.slotFor k.header.seq = none →
            StoredBy s t b r k p)) ∧
        (p.head = none →
          StoredBy s t b r k p))

/-- PLAYOUT_START takes a counted-down bundle to PLAYING, its fill trimmed; the estimate wait ends
in COUNTDOWN (R39, R90, R91, R93, R94, R95). That a frame start holds one PLAYOUT_START (log entry
4) and that the start count goes back to 0 (log entry 40) are the model's choices. That an expiry
command acts from its timer's deadline on, however late, is the model's choice (log entry 13). The
order of events posted together is the model's choice (log entry 41). -/
def Obligations.PlayoutStartsWhenTheCountIsReached : Prop :=
  ∀ (s : State) (b : BundleId) (x : Bundle), s.bun b = x →
    ((x.active = none ∨ x.state ≠ .filling ∨ x.playout.phase ≠ .countdown ∨
        x.playout.atStart ≠ .none ∨
        ∃ r, x.active = some r ∧ x.playout.startCount < x.delay.target - r.fpp) →
      exec (.playoutStart b) s = .next s) ∧
    (∀ r, x.active = some r → x.state = .filling → x.playout.phase = .countdown →
      x.playout.atStart = .none → x.delay.target - r.fpp ≤ x.playout.startCount →
      1 ≤ r.fpp → RingSound x.playout →
      ∃ t es, exec (.playoutStart b) s = .next t ∧
        t = { s with bundles := t.bundles, ctrls := t.ctrls } ∧ OtherBundles s t b ∧
        t.bun b = { x with state := .playing, playout := (t.bun b).playout } ∧
        Posts s t (es ++ [bundleStateEvent s b .filling .playing .playoutStart]) ∧
        (x.playout.fill r.fpp < x.delay.target + r.fpp → es = [] ∧
          (t.bun b).playout = { x.playout with
            sample := x.playout.fill r.fpp
            phase := .waitPacket
            startCount := 0
            atStart := .started }) ∧
        (x.delay.target + r.fpp ≤ x.playout.fill r.fpp →
          (∀ q, (t.bun b).playout = q → ∃ h0 h n, x.playout.head = some h0 ∧
            q = { x.playout with
              ring := q.ring
              head := q.head
              period := .none
              played := 0
              sample := x.playout.fill r.fpp
              phase := .waitPacket
              startCount := 0
              atStart := .started
              counters := { x.playout.counters with
                slipped := bumpBy x.playout.counters.slipped n } } ∧
            Slipped x.playout q r.fpp (x.delay.target + r.fpp - 1) h h0 h ∧
            n + q.heldSlots.length = x.playout.heldSlots.length ∧
            es = [eventNow s .depthSlip (.bundle b) (n * 65536 + h.toNat)]) ∧
          (t.bun b).playout.fill r.fpp < x.delay.target + r.fpp ∧
          x.delay.target ≤ (t.bun b).playout.fill r.fpp)) ∧
    ((x.playout.phase ≠ .waitEstimate ∨ ¬ Due s x.playout.estimateWait) →
      exec (.estimateWaitExpiry b) s = .next s) ∧
    (x.playout.phase = .waitEstimate → Due s x.playout.estimateWait →
      ∃ t, exec (.estimateWaitExpiry b) s = .next t ∧ t = { s with bundles := t.bundles } ∧
        OtherBundles s t b ∧
        t.bun b = { x with playout := { x.playout with
          phase := .countdown
          estimateWait := none } })

/-- A depth adjustment's step ends the adjustment within the tolerance, inserts below the target or
skips above (R104, R105). That a frame start holds one ADJUST_STEP, ahead of its frame, is the
model's choice (log entry 4). -/
def Obligations.AdjustStepInsertsSkipsOrEnds : Prop :=
  ∀ (s : State) (b : BundleId) (x : Bundle) (p : Playout), s.bun b = x → x.playout = p →
    ((x.active = none ∨ p.adjust = none ∨ x.state ≠ .playing ∨ p.atStart ≠ .none ∨
        ∃ r a, x.active = some r ∧ p.adjust = some a ∧ a.pace + 1 < 2 ^ r.pace) →
      exec (.adjustStep b) s = .next s) ∧
    (∀ r a fill, x.active = some r → p.adjust = some a → x.state = .playing →
      p.atStart = .none → 2 ^ r.pace ≤ a.pace + 1 → fill = p.fill r.fpp →
      ∃ t, exec (.adjustStep b) s = .next t ∧
        t = { s with bundles := t.bundles, ctrls := t.ctrls } ∧ OtherBundles s t b ∧
        (fill < a.target + (r.fpp / 2 + 1) → a.target < fill + (r.fpp / 2 + 1) →
          t.bun b = { x with playout := { p with
            adjust := none, sample := fill, atStart := .ended } } ∧
          Posts s t [eventNow s .depthAdjust (.bundle b) (adjustDetail 2 fill a.target)]) ∧
        (fill + (r.fpp / 2 + 1) ≤ a.target →
          t.bun b = { x with playout := { p with
            adjust := some ⟨a.target, 0, some .insert⟩
            sample := fill
            atStart := .inserted
            counters := { p.counters with inserted := bump p.counters.inserted } } } ∧
          t.ctrls = s.ctrls) ∧
        (a.target + (r.fpp / 2 + 1) ≤ fill →
          (t.bun b).state = .playing ∧ t.ctrls = s.ctrls ∧
          (t.bun b).playout.adjust = some ⟨a.target, 0, some .skip⟩ ∧
          (t.bun b).playout.counters.skipped = bump p.counters.skipped ∧
          (p.played + 1 < r.fpp →
            (t.bun b).playout.played = p.played + 1 ∧ (t.bun b).playout.head = p.head ∧
            (t.bun b).playout.ring = p.ring) ∧
          (r.fpp ≤ p.played + 1 →
            (t.bun b).playout.played = 0 ∧
            (t.bun b).playout.head = p.head.map (fun h => h + 1))))

/-- A round-trip sample starts a record, moves its baseline by difference / 2^k, or completes a
route step (R114, R115, R116, R117). -/
def Obligations.RoundTripSamplesMoveTheBaseline : Prop :=
  (∀ (x y : DelayRecord) (r : Record) (rtt : Nat) (stepped : Bool),
      x.sample r rtt = (y, stepped) →
      (x.tracking = false → stepped = false ∧
        y = { x with
          tracking := true
          lastRtt := rtt
          baseline := rtt
          difference := 0
          minimum := rtt
          maximum := rtt
          stepRun := 0
          samples := bump x.samples }) ∧
      (∀ diff : Int, x.tracking = true → diff = (rtt : Int) - x.baseline →
        y.tracking = true ∧ y.lastRtt = rtt ∧ y.difference = diff ∧
        y.minimum = min x.minimum rtt ∧ y.maximum = max x.maximum rtt ∧
        y.samples = bump x.samples ∧ y.implausible = x.implausible ∧
        y.unechoed = x.unechoed ∧ y.echoExpiries = x.echoExpiries ∧
        (stepped = true ↔ r.stepCount ≤
          if (r.stepThreshold * 125 : Int) ≤ diff ∨ diff ≤ -(r.stepThreshold * 125 : Int)
            then x.stepRun + 1 else 0) ∧
        (stepped = true →
          y.baseline = rtt ∧ y.stepRun = 0 ∧ y.routeSteps = bump x.routeSteps) ∧
        (stepped = false →
          (y.baseline : Int) = x.baseline + diff >>> r.shiftK ∧
          y.routeSteps = x.routeSteps ∧
          y.stepRun = if (r.stepThreshold * 125 : Int) ≤ diff ∨
              diff ≤ -(r.stepThreshold * 125 : Int) then x.stepRun + 1 else 0))) ∧
    (∀ (s : State) (b : BundleId) (r : Record) (p : Path) (rtt : Nat), 125000000 < rtt →
      s.takeSample b r p rtt = { s with bundles := (s.takeSample b r p rtt).bundles } ∧
      OtherBundles s (s.takeSample b r p rtt) b ∧
      (s.takeSample b r p rtt).bun b = { s.bun b with delay := { (s.bun b).delay with
        record := (s.bun b).delay.record.setPath p
          { (s.bun b).delay.record.atPath p with
            implausible := bump ((s.bun b).delay.record.atPath p).implausible } } }) ∧
    (∀ (s : State) (b : BundleId) (r : Record) (p : Path) (rtt : Nat) (x y : DelayRecord)
        (stepped : Bool), rtt ≤ 125000000 → (s.bun b).active = some r →
      (s.bun b).delay.record.atPath p = x → x.sample r rtt = (y, stepped) →
      ∃ u, s.takeSample b r p rtt = u.computeTarget b ∧
        u = { s with bundles := u.bundles, ctrls := u.ctrls } ∧ OtherBundles s u b ∧
        u.bun b = { s.bun b with delay := { (s.bun b).delay with
          record := (s.bun b).delay.record.setPath p y
          alertTimer := if stepped then some (s.now + r.alertHold * 125000000)
            else (s.bun b).delay.alertTimer } } ∧
        Posts s u (if stepped then
          [eventNow s .routeStep (.bundlePath b p) (x.baseline / 2000 * 65536 + rtt / 2000)]
          else []))

/-- A target computation gives the clamped or equalised depth, adopted at once or by deadband and
apply (R93, R103, R121, R122, R123, R125). That the raw depth held is 0 where the computation formed
none (log entry 51) and that a START gives the fill last sampled (log entry 27) are the model's
choices. The order of events posted together is the model's choice (log entry 41). -/
def Obligations.TargetComputationsAreAdoptedByState : Prop :=
  ∀ (s t : State) (b : BundleId) (r : Record) (x : Bundle) (est : Option Nat) (top target : Nat),
    s.bun b = x → x.active = some r → s.computeTarget b = t →
    est = x.delay.estimate r.pathMode x.supervisor.selector.active →
    top = min r.maxDepth ((x.ringSize - 2) * r.fpp) → r.fpp ≤ top →
    (r.delayMode = .fixed → target = max r.fpp (min r.targetDepth top)) →
    (r.delayMode = .equalised → est = none → target = max r.fpp (min r.initialDepth top)) →
    (∀ (n : Nat) (raw : Int), r.delayMode = .equalised → est = some n →
      raw = ((r.targetDelay : Int) - n - 60 + 62) / 125 →
      (target : Int) = max (r.fpp : Int) (min raw (top : Int))) →
    OtherBundles s t b ∧ (t.bun b).state = x.state ∧ (t.bun b).active = some r ∧
    t = { s with bundles := t.bundles, tribs := t.tribs, ctrls := t.ctrls } ∧
    t.bun b = { x with
      delay := { x.delay with
        target := (t.bun b).delay.target
        proposed := (t.bun b).delay.proposed
        short := (t.bun b).delay.short
        long := (t.bun b).delay.long
        rawDepth := (t.bun b).delay.rawDepth }
      playout := { x.playout with
        adjust := (t.bun b).playout.adjust
        phase := if est ≠ none ∧ x.playout.phase = .waitEstimate then .countdown
          else x.playout.phase
        estimateWait := if est ≠ none ∧ x.playout.phase = .waitEstimate then none
          else x.playout.estimateWait } } ∧
    (∀ (n : Nat) (raw : Int), r.delayMode = .equalised → est = some n →
      raw = ((r.targetDelay : Int) - n - 60 + 62) / 125 →
      (t.bun b).delay.short = decide (raw < r.fpp) ∧
      (t.bun b).delay.long = decide ((top : Int) < raw) ∧ (t.bun b).delay.rawDepth = raw) ∧
    (r.delayMode = .fixed ∨ est = none →
      (t.bun b).delay.short = false ∧ (t.bun b).delay.long = false ∧
      (t.bun b).delay.rawDepth = 0) ∧
    (∀ (d : Delay) (flags : List Event), (t.bun b).delay = d →
      flags = (if d.short = x.delay.short then []
          else [eventNow s .equaliseShort (.bundle b)
            (d.short.toNat * 2147483648 + (d.rawDepth % 65536).toNat)]) ++
        (if d.long = x.delay.long then []
          else [eventNow s .equaliseLong (.bundle b)
            (d.long.toNat * 2147483648 + (d.rawDepth % 65536).toNat)]) →
      ∃ more, Posts s t (flags ++ more) ∧
        (x.state ≠ .playing → more = [] ∧ t.tribs = s.tribs ∧
          (t.bun b).playout.adjust = x.playout.adjust ∧ d.proposed = x.delay.proposed) ∧
        (∀ due : Bool, x.state = .playing →
          due = (match r.delayMode with
            | .equalised => decide (x.delay.target + r.deadband ≤ target ∨
                target + r.deadband ≤ x.delay.target)
            | .fixed => decide (target ≠ x.delay.target)) →
          (due = true → r.eqApply = .auto → d.proposed = x.delay.proposed ∧
            (x.playout.adjust = none → (t.bun b).playout.adjust = some ⟨target, 0, none⟩ ∧
              SteeringAbandoned s t b ∧
              more = [eventNow s .depthAdjust (.bundle b)
                (x.playout.sample % 8192 * 8192 + target % 8192)]) ∧
            (∀ a, x.playout.adjust = some a → t.tribs = s.tribs ∧
              (t.bun b).playout.adjust = some { a with target := target } ∧
              more = [eventNow s .depthAdjust (.bundle b) (67108864 + target % 8192)])) ∧
          (due = true → r.eqApply = .held → t.tribs = s.tribs ∧
            more = if x.delay.proposed = some target then []
              else [eventNow s .equalisePending (.bundle b) (x.delay.target * 65536 + target)]) ∧
          (due = false → t.tribs = s.tribs ∧
            more = if x.delay.proposed = none then []
              else [eventNow s .equalisePending (.bundle b)
                (x.delay.target * 65536 + x.delay.target)]))) ∧
    (x.state = .stopped ∨ x.state = .filling ∨ x.state = .down →
      (t.bun b).delay.target = target) ∧
    (∀ due : Bool, x.state = .playing →
      due = (match r.delayMode with
        | .equalised => decide (x.delay.target + r.deadband ≤ target ∨
            target + r.deadband ≤ x.delay.target)
        | .fixed => decide (target ≠ x.delay.target)) →
      (due = true → r.eqApply = .auto → (t.bun b).delay.target = target ∧
        ∃ a, (t.bun b).playout.adjust = some a ∧ a.target = target) ∧
      (due = true → r.eqApply = .held → (t.bun b).delay.target = x.delay.target ∧
        (t.bun b).delay.proposed = some target ∧
        (t.bun b).playout.adjust = x.playout.adjust) ∧
      (due = false → (t.bun b).delay.target = x.delay.target ∧
        (t.bun b).delay.proposed = none ∧ (t.bun b).playout.adjust = x.playout.adjust))

/-- CLEAR_DELAY_EXTREMES sets the extremes to the last RTT; APPLY_EQUALISATION adopts; the alert
timer stops (R103, R118, R128, R130, R162, Table 73a). That an expiry command acts from its timer's
deadline on, however late, is the model's choice (log entry 13). That a START gives the fill last
sampled is the model's choice (log entry 27). A request is one that no warm reset has abandoned, or
that its port is working on anew (R177, log entry 15). -/
def Obligations.DelayRequestsAndTheAlertTimer : Prop :=
  (∀ (s : State) (cp : CtrlPort) (n q : Nat), Carried s cp (.clearDelayExtremes cp n q) →
      (64 ≤ n ∨ pathOf q = none →
        ∃ c, exec (.clearDelayExtremes cp n q) s = .next (s.decide cp 14 .badValue c)) ∧
      (∀ (b : BundleId) (p : Path) (x y : DelayRecord), n = b.val → pathOf q = some p →
        (s.bun b).delay.record.atPath p = x →
        y = (if x.tracking then { x with minimum := x.lastRtt, maximum := x.lastRtt } else x) →
        ∃ t, exec (.clearDelayExtremes cp n q) s = .next t ∧
          t = { s with bundles := t.bundles, ctrls := t.ctrls } ∧ OtherBundles s t b ∧
          t.bun b = { s.bun b with delay := { (s.bun b).delay with
            record := (s.bun b).delay.record.setPath p y } } ∧
          Answers s t cp [] ⟨14, .ok, []⟩)) ∧
    (∀ (s : State) (cp : CtrlPort) (n : Nat), s.load ≠ .loading →
      Carried s cp (.applyEqualisation cp n) →
      (64 ≤ n →
        ∃ c, exec (.applyEqualisation cp n) s = .next (s.decide cp 15 .badValue c)) ∧
      (∀ b : BundleId, n = b.val → (s.bun b).delay.proposed = none →
        ∃ c, exec (.applyEqualisation cp n) s = .next (s.decide cp 15 .badState c)) ∧
      (∀ (b : BundleId) (target : Nat) (a : Adjust), n = b.val →
        (s.bun b).delay.proposed = some target →
        a = (match (s.bun b).playout.adjust with
          | none => ⟨target, 0, none⟩
          | some old => ⟨target, old.pace, old.lastStep⟩) →
        ∃ t, exec (.applyEqualisation cp n) s = .next t ∧
          t = { s with bundles := t.bundles, tribs := t.tribs, ctrls := t.ctrls } ∧
          OtherBundles s t b ∧
          t.bun b = { s.bun b with
            delay := { (s.bun b).delay with target := target, proposed := none }
            playout := { (s.bun b).playout with adjust := some a } } ∧
          ((s.bun b).playout.adjust = none → SteeringAbandoned s t b) ∧
          ((s.bun b).playout.adjust ≠ none → t.tribs = s.tribs) ∧
          Answers s t cp [eventNow s .depthAdjust (.bundle b)
            (match (s.bun b).playout.adjust with
              | none => (s.bun b).playout.sample % 8192 * 8192 + target % 8192
              | some _ => 67108864 + target % 8192)]
            ⟨15, .ok, bytesOf 2 target⟩)) ∧
    (∀ (s : State) (b : BundleId), ¬ Due s (s.bun b).delay.alertTimer →
      exec (.alertTimerExpiry b) s = .next s) ∧
    (∀ (s : State) (b : BundleId), Due s (s.bun b).delay.alertTimer →
      ∃ t, exec (.alertTimerExpiry b) s = .next t ∧ t = { s with bundles := t.bundles } ∧
        OtherBundles s t b ∧
        t.bun b = { s.bun b with delay := { (s.bun b).delay with alertTimer := none } })

/-- A loss timer's expiry loses the path; a down condition found then, or at the start wait, enters
DOWN (R39, R96, R135, R138, R145, notes/assumptions/13.md). That an expiry command acts from its
timer's deadline on, however late, is the model's choice (log entry 13). -/
def Obligations.LostPathsAndTheStartWaitReportDown : Prop :=
  ∀ (s : State) (b : BundleId) (p : Path) (r : Record) (x : Bundle), s.bun b = x →
    x.active = some r →
    (¬ Due s (x.supervisor.path.atPath p).lossTimer →
      exec (.lossTimerExpiry b p) s = .next s) ∧
    (Due s (x.supervisor.path.atPath p).lossTimer →
      ∃ t y, exec (.lossTimerExpiry b p) s = .next t ∧ t.bun b = y ∧
        t = { s with bundles := t.bundles, tribs := t.tribs, ctrls := t.ctrls } ∧
        OtherBundles s t b ∧
        y.supervisor.path.atPath p = { x.supervisor.path.atPath p with
          state := .lost
          lossTimer := none
          farFlag := false
          losses := if (x.supervisor.path.atPath p).state = .lost
            then (x.supervisor.path.atPath p).losses
            else bump (x.supervisor.path.atPath p).losses } ∧
        y.supervisor.path.atPath p.other = x.supervisor.path.atPath p.other ∧
        y.supervisor.selector.announcement =
          (if (x.supervisor.path.atPath p.other).state = .up
            then x.supervisor.selector.announcement else none) ∧
        ((x.supervisor.path.atPath p).state ≠ .lost →
          Reported t (eventNow s .pathState (.bundlePath b p)
            ((x.supervisor.path.atPath p).state.code * 256 + 2))) ∧
        y.state = (if x.supervisor.startWait = none ∧
            x.supervisor.downCondition r.pathMode = false ∧
            y.supervisor.downCondition r.pathMode = true ∧
            (x.state = .filling ∨ x.state = .playing) then .down else x.state) ∧
        (y.state ≠ x.state → RingEmpty y.playout x.playout.ring.length ∧
          Reported t (bundleStateEvent s b x.state .down .pathDown))) ∧
    (¬ Due s x.supervisor.startWait → exec (.startWaitExpiry b) s = .next s) ∧
    (Due s x.supervisor.startWait →
      ∃ t, exec (.startWaitExpiry b) s = .next t ∧
        t = { s with bundles := t.bundles, tribs := t.tribs, ctrls := t.ctrls } ∧
        OtherBundles s t b ∧
        (t.bun b).supervisor = { x.supervisor with startWait := none } ∧
        (t.bun b).state = (if x.supervisor.downCondition r.pathMode = true ∧
            (x.state = .filling ∨ x.state = .playing) then .down else x.state) ∧
        ((t.bun b).state = x.state → t.bun b =
          { x with supervisor := { x.supervisor with startWait := none } }) ∧
        ((t.bun b).state ≠ x.state → RingEmpty (t.bun b).playout x.playout.ring.length ∧
          Reported t (bundleStateEvent s b x.state .down .pathDown)))

/-- The selector decides by the levels of Table 53, at an evaluation and at its timers' expiries; a
switch and the mismatch flag follow R147 and R146 (R33, R140, R141, R142, R143, R144). That an
expiry command acts from its timer's deadline on, however late, is the model's choice (log entry
13). That a running timer outlasts a field of 0 is read from R33 (log entry 43). The order of events
posted together is the model's choice (log entry 41). -/
def Obligations.SelectorTimersSwitchOrFlag : Prop :=
  ∀ (s : State) (b : BundleId) (x : Bundle) (v : Selector), s.bun b = x →
    x.supervisor.selector = v →
    (¬ Due s v.holdOff → exec (.holdOffExpiry b) s = .next s) ∧
    (¬ Due s v.restore → exec (.waitToRestoreExpiry b) s = .next s) ∧
    (¬ Due s v.mismatchTimer → exec (.mismatchTimerExpiry b) s = .next s) ∧
    (Due s v.holdOff → (∀ r, x.active = some r → r.pathMode ≠ .selected ∨
        x.state.running = false) →
      ∃ t, exec (.holdOffExpiry b) s = .next t ∧ t = { s with bundles := t.bundles } ∧
        OtherBundles s t b ∧ t.bun b = { x with supervisor := { x.supervisor with
          selector := { v with holdOff := none } } }) ∧
    (Due s v.restore → (∀ r, x.active = some r → r.pathMode ≠ .selected ∨
        x.state.running = false) →
      ∃ t, exec (.waitToRestoreExpiry b) s = .next t ∧ t = { s with bundles := t.bundles } ∧
        OtherBundles s t b ∧ t.bun b = { x with supervisor := { x.supervisor with
          selector := { v with restore := none } } }) ∧
    (∀ r, Due s v.holdOff → x.active = some r → r.pathMode = .selected →
      x.state.running = true → v.request ≠ .lockout → (∀ q, v.request ≠ .forced q) →
      x.supervisor.signalFail v.active = true →
      x.supervisor.signalFail v.active.other = false →
      ∃ t, exec (.holdOffExpiry b) s = .next t ∧
        t = { s with bundles := t.bundles, tribs := t.tribs, ctrls := t.ctrls } ∧
        OtherBundles s t b ∧ (t.bun b).state = x.state ∧
        (t.bun b).supervisor.path = x.supervisor.path ∧
        (t.bun b).supervisor.selector.active = v.active.other ∧
        (t.bun b).supervisor.selector.switches = bump v.switches ∧
        (t.bun b).supervisor.selector.holdOff = none ∧
        (t.bun b).supervisor.selector.restore = none ∧
        Reported t (eventNow s .pathSwitch (.bundle b)
          (2 * 65536 + v.active.code * 256 + v.active.other.code)) ∧
        Switched s t b r v.active.other .signalFail) ∧
    (∀ r, Due s v.restore → x.active = some r → r.pathMode = .selected →
      x.state.running = true → r.revertive = true → v.request = .none →
      v.active ≠ r.primary → (∀ q, x.supervisor.signalFail q = false) →
      (r.authority = .main ∨ announcedPath v.announcement = none) →
      ∃ t, exec (.waitToRestoreExpiry b) s = .next t ∧
        t = { s with bundles := t.bundles, tribs := t.tribs, ctrls := t.ctrls } ∧
        OtherBundles s t b ∧ (t.bun b).state = x.state ∧
        (t.bun b).supervisor.path = x.supervisor.path ∧
        (t.bun b).supervisor.selector.active = r.primary ∧
        (t.bun b).supervisor.selector.switches = bump v.switches ∧
        (t.bun b).supervisor.selector.holdOff = none ∧
        (t.bun b).supervisor.selector.restore = none ∧
        Reported t (eventNow s .pathSwitch (.bundle b)
          (4 * 65536 + v.active.code * 256 + r.primary.code)) ∧
        Switched s t b r r.primary .waitToRestore) ∧
    (Due s v.mismatchTimer →
      ∃ t, exec (.mismatchTimerExpiry b) s = .next t ∧
        t = { s with bundles := t.bundles, ctrls := t.ctrls } ∧ OtherBundles s t b ∧
        t.bun b = { x with supervisor := { x.supervisor with selector := { v with
          mismatchTimer := none
          mismatch := true
          mismatches := if v.mismatch then v.mismatches else bump v.mismatches } } } ∧
        Posts s t (if v.mismatch then [] else
          [eventNow s .pathMismatch (.bundle b)
            (2147483648 + v.active.code * 256 + announcementCode v.announcement)])) ∧
    (∀ r, Due s v.holdOff → x.active = some r → r.pathMode = .selected →
      x.state.running = true →
      (v.request = .lockout ∨ (∃ q, v.request = .forced q) ∨ NoFailSwitch x.supervisor) →
      ∃ u, exec (.holdOffExpiry b) s = .next (u.evaluateSelector b .none) ∧
        u = { s with bundles := u.bundles } ∧ OtherBundles s u b ∧
        u.bun b = { x with supervisor := { x.supervisor with
          selector := { v with holdOff := none } } }) ∧
    (∀ r, Due s v.restore → x.active = some r → r.pathMode = .selected →
      x.state.running = true →
      (r.revertive = false ∨ v.request ≠ .none ∨ v.active = r.primary ∨
        (∃ q, x.supervisor.signalFail q = true) ∨
        r.authority = .follower ∧ announcedPath v.announcement ≠ none) →
      ∃ u, exec (.waitToRestoreExpiry b) s = .next (u.evaluateSelector b .none) ∧
        u = { s with bundles := u.bundles } ∧ OtherBundles s u b ∧
        u.bun b = { x with supervisor := { x.supervisor with
          selector := { v with restore := none } } }) ∧
    ((∀ r, x.active = some r → r.pathMode ≠ .selected ∨ x.state.running = false) →
      s.evaluateSelector b .none = s) ∧
    (∀ r t, s.evaluateSelector b .none = t → x.active = some r → r.pathMode = .selected →
      x.state.running = true →
      (v.request = .lockout →
        if v.active = r.primary then Waits s t b r none none
        else Switched s t b r r.primary .lockout) ∧
      (∀ q, v.request = .forced q →
        if v.active = q then Waits s t b r none none else Switched s t b r q .forced) ∧
      (v.request ≠ .lockout → (∀ q, v.request ≠ .forced q) →
        x.supervisor.signalFail v.active = true →
        x.supervisor.signalFail v.active.other = false →
        (∀ e, v.holdOff = some e → Waits s t b r (some e) none) ∧
        (v.holdOff = none → r.holdOff ≠ 0 →
          Waits s t b r (some (s.now + r.holdOff * 12500000)) none) ∧
        (v.holdOff = none → r.holdOff = 0 →
          Switched s t b r v.active.other .signalFail)) ∧
      (∀ q, NoFailSwitch x.supervisor → v.request = .manual q →
        if x.supervisor.signalFail q = true ∨ v.active = q then Waits s t b r none none
        else Switched s t b r q .manual) ∧
      (NoFailSwitch x.supervisor → v.request = .none →
        (∃ q, x.supervisor.signalFail q = true) → Waits s t b r none none) ∧
      (v.request = .none → (∀ q, x.supervisor.signalFail q = false) →
        (r.revertive = true → v.active ≠ r.primary →
          (r.authority = .main ∨ announcedPath v.announcement = none) →
          (∀ e, v.restore = some e → Waits s t b r none (some e)) ∧
          (v.restore = none → r.waitRestore ≠ 0 →
            Waits s t b r none (some (s.now + r.waitRestore * 125000000))) ∧
          (v.restore = none → r.waitRestore = 0 →
            Switched s t b r r.primary .waitToRestore)) ∧
        (∀ q, r.authority = .follower → announcedPath v.announcement = some q →
          q ≠ v.active → Switched s t b r q .follow) ∧
        ((r.revertive = false ∨ v.active = r.primary ∨
            r.authority = .follower ∧ announcedPath v.announcement ≠ none) →
          (r.authority = .main ∨ ¬ Disagrees v) → Waits s t b r none none)))

/-- PATH_COMMAND is refused by precedence or signal fail and otherwise replaces the request and
decides (R140, R141, R142, R143, R146, R147). The order of events posted together is the model's
choice (log entry 41). A request is one that no warm reset has abandoned, or that its port is
working on anew (R177, log entry 15). -/
def Obligations.PathCommandsObeyPrecedence : Prop :=
  ∀ (s : State) (cp : CtrlPort) (n req q : Nat), s.load ≠ .loading →
    Carried s cp (.pathCommand cp n req q) →
    (64 ≤ n ∨ localRequestOf req q = none →
      ∃ c, exec (.pathCommand cp n req q) s = .next (s.decide cp 17 .badValue c)) ∧
    (∀ (b : BundleId) (x : Bundle) (l : LocalRequest), n = b.val → s.bun b = x →
      localRequestOf req q = some l →
      ((∀ r, x.active = some r → r.pathMode ≠ .selected ∨ x.state.running = false) →
        ∃ c, exec (.pathCommand cp n req q) s = .next (s.decide cp 17 .badState c)) ∧
      (l.precedence < x.supervisor.selector.request.precedence ∧ l ≠ .none →
        ∃ c, exec (.pathCommand cp n req q) s = .next (s.decide cp 17 .badState c)) ∧
      (∀ p, l = .manual p → x.supervisor.signalFail p = true →
        ∃ c, exec (.pathCommand cp n req q) s = .next (s.decide cp 17 .badState c)) ∧
      (∀ r, x.active = some r → r.pathMode = .selected → x.state.running = true →
        (l = .none ∨ x.supervisor.selector.request.precedence ≤ l.precedence) →
        (∀ p, l = .manual p → x.supervisor.signalFail p = false) →
        ∃ t es, exec (.pathCommand cp n req q) s = .next t ∧
          t = { s with bundles := t.bundles, tribs := t.tribs, ctrls := t.ctrls } ∧
          OtherBundles s t b ∧ (t.bun b).state = x.state ∧
          (t.bun b).supervisor.path = x.supervisor.path ∧
          Answers s t cp es
            ⟨17, .ok, bytesOf 1 (t.bun b).supervisor.selector.active.code⟩ ∧
          (∃ u z, u = { s with bundles := u.bundles } ∧ OtherBundles s u b ∧
            u.bun b = { x with supervisor := { x.supervisor with
              selector := { x.supervisor.selector with request := l } } } ∧
            z = u.evaluateSelector b .none ∧
            t = z.decide cp 17 .ok (bytesOf 1 (z.bun b).supervisor.selector.active.code) ∧
            (l = .lockout → if x.supervisor.selector.active = r.primary
              then Waits u z b r none none else Switched u z b r r.primary .lockout) ∧
            (∀ p, l = .forced p → if x.supervisor.selector.active = p
              then Waits u z b r none none else Switched u z b r p .forced) ∧
            (∀ p, l = .manual p → NoFailSwitch x.supervisor →
              if x.supervisor.selector.active = p then Waits u z b r none none
              else Switched u z b r p .manual) ∧
            (∀ p, l = .manual p → ¬ NoFailSwitch x.supervisor →
              x.supervisor.selector.holdOff = none → r.holdOff = 0 →
              Switched u z b r p .signalFail)) ∧
          (l = .none ∨ l = .lockout ∨ (∃ p, l = .forced p) →
            (t.bun b).supervisor.selector.request = l) ∧
          (l = .lockout → (t.bun b).supervisor.selector.active = r.primary) ∧
          (∀ p, l = .forced p → (t.bun b).supervisor.selector.active = p) ∧
          (∀ p, l = .manual p →
            x.supervisor.signalFail x.supervisor.selector.active = false →
            (t.bun b).supervisor.selector.active = p ∧
            (t.bun b).supervisor.selector.request = l)))
end

