-- ==== Sys2Proof/Laws/State.lean ====
section
/-!
SUPPORT. Laws of State: for each update of the state, one lemma per field it leaves alone. A proof reads
a field after an update with these and never unfolds the update.
-/

namespace Sys2Proof.Machine.State

variable (s : State)

/-! ## modBun -/

@[simp] theorem modBun_now (b : BundleId) (f : Bundle → Bundle) : (s.modBun b f).now = s.now := rfl
@[simp] theorem modBun_tribs (b : BundleId) (f : Bundle → Bundle) :
    (s.modBun b f).tribs = s.tribs := rfl
@[simp] theorem modBun_nets (b : BundleId) (f : Bundle → Bundle) :
    (s.modBun b f).nets = s.nets := rfl
@[simp] theorem modBun_captures (b : BundleId) (f : Bundle → Bundle) :
    (s.modBun b f).captures = s.captures := rfl
@[simp] theorem modBun_timing (b : BundleId) (f : Bundle → Bundle) :
    (s.modBun b f).timing = s.timing := rfl
@[simp] theorem modBun_ctrls (b : BundleId) (f : Bundle → Bundle) :
    (s.modBun b f).ctrls = s.ctrls := rfl
@[simp] theorem modBun_claims (b : BundleId) (f : Bundle → Bundle) :
    (s.modBun b f).claims = s.claims := rfl
@[simp] theorem modBun_settings (b : BundleId) (f : Bundle → Bundle) :
    (s.modBun b f).settings = s.settings := rfl
@[simp] theorem modBun_faults (b : BundleId) (f : Bundle → Bundle) :
    (s.modBun b f).faults = s.faults := rfl
@[simp] theorem modBun_load (b : BundleId) (f : Bundle → Bundle) :
    (s.modBun b f).load = s.load := rfl
@[simp] theorem modBun_save (b : BundleId) (f : Bundle → Bundle) :
    (s.modBun b f).save = s.save := rfl
@[simp] theorem modBun_lastSave (b : BundleId) (f : Bundle → Bundle) :
    (s.modBun b f).lastSave = s.lastSave := rfl
@[simp] theorem modBun_pending (b : BundleId) (f : Bundle → Bundle) :
    (s.modBun b f).pending = s.pending := rfl

/-! ## modTrib -/

@[simp] theorem modTrib_now (p : TribId) (f : Trib → Trib) : (s.modTrib p f).now = s.now := rfl
@[simp] theorem modTrib_bundles (p : TribId) (f : Trib → Trib) :
    (s.modTrib p f).bundles = s.bundles := rfl
@[simp] theorem modTrib_nets (p : TribId) (f : Trib → Trib) : (s.modTrib p f).nets = s.nets := rfl
@[simp] theorem modTrib_captures (p : TribId) (f : Trib → Trib) :
    (s.modTrib p f).captures = s.captures := rfl
@[simp] theorem modTrib_timing (p : TribId) (f : Trib → Trib) :
    (s.modTrib p f).timing = s.timing := rfl
@[simp] theorem modTrib_ctrls (p : TribId) (f : Trib → Trib) :
    (s.modTrib p f).ctrls = s.ctrls := rfl
@[simp] theorem modTrib_claims (p : TribId) (f : Trib → Trib) :
    (s.modTrib p f).claims = s.claims := rfl
@[simp] theorem modTrib_settings (p : TribId) (f : Trib → Trib) :
    (s.modTrib p f).settings = s.settings := rfl
@[simp] theorem modTrib_faults (p : TribId) (f : Trib → Trib) :
    (s.modTrib p f).faults = s.faults := rfl
@[simp] theorem modTrib_load (p : TribId) (f : Trib → Trib) : (s.modTrib p f).load = s.load := rfl
@[simp] theorem modTrib_save (p : TribId) (f : Trib → Trib) : (s.modTrib p f).save = s.save := rfl
@[simp] theorem modTrib_lastSave (p : TribId) (f : Trib → Trib) :
    (s.modTrib p f).lastSave = s.lastSave := rfl
@[simp] theorem modTrib_pending (p : TribId) (f : Trib → Trib) :
    (s.modTrib p f).pending = s.pending := rfl

/-! ## modNet -/

@[simp] theorem modNet_now (n : NetPort) (f : Net → Net) : (s.modNet n f).now = s.now := rfl
@[simp] theorem modNet_bundles (n : NetPort) (f : Net → Net) :
    (s.modNet n f).bundles = s.bundles := rfl
@[simp] theorem modNet_tribs (n : NetPort) (f : Net → Net) : (s.modNet n f).tribs = s.tribs := rfl
@[simp] theorem modNet_captures (n : NetPort) (f : Net → Net) :
    (s.modNet n f).captures = s.captures := rfl
@[simp] theorem modNet_timing (n : NetPort) (f : Net → Net) :
    (s.modNet n f).timing = s.timing := rfl
@[simp] theorem modNet_ctrls (n : NetPort) (f : Net → Net) : (s.modNet n f).ctrls = s.ctrls := rfl
@[simp] theorem modNet_claims (n : NetPort) (f : Net → Net) :
    (s.modNet n f).claims = s.claims := rfl
@[simp] theorem modNet_settings (n : NetPort) (f : Net → Net) :
    (s.modNet n f).settings = s.settings := rfl
@[simp] theorem modNet_faults (n : NetPort) (f : Net → Net) :
    (s.modNet n f).faults = s.faults := rfl
@[simp] theorem modNet_load (n : NetPort) (f : Net → Net) : (s.modNet n f).load = s.load := rfl
@[simp] theorem modNet_save (n : NetPort) (f : Net → Net) : (s.modNet n f).save = s.save := rfl
@[simp] theorem modNet_lastSave (n : NetPort) (f : Net → Net) :
    (s.modNet n f).lastSave = s.lastSave := rfl
@[simp] theorem modNet_pending (n : NetPort) (f : Net → Net) :
    (s.modNet n f).pending = s.pending := rfl

/-! ## modCtrl -/

@[simp] theorem modCtrl_now (cp : CtrlPort) (f : Ctrl → Ctrl) : (s.modCtrl cp f).now = s.now := rfl
@[simp] theorem modCtrl_bundles (cp : CtrlPort) (f : Ctrl → Ctrl) :
    (s.modCtrl cp f).bundles = s.bundles := rfl
@[simp] theorem modCtrl_tribs (cp : CtrlPort) (f : Ctrl → Ctrl) :
    (s.modCtrl cp f).tribs = s.tribs := rfl
@[simp] theorem modCtrl_nets (cp : CtrlPort) (f : Ctrl → Ctrl) :
    (s.modCtrl cp f).nets = s.nets := rfl
@[simp] theorem modCtrl_captures (cp : CtrlPort) (f : Ctrl → Ctrl) :
    (s.modCtrl cp f).captures = s.captures := rfl
@[simp] theorem modCtrl_timing (cp : CtrlPort) (f : Ctrl → Ctrl) :
    (s.modCtrl cp f).timing = s.timing := rfl
@[simp] theorem modCtrl_claims (cp : CtrlPort) (f : Ctrl → Ctrl) :
    (s.modCtrl cp f).claims = s.claims := rfl
@[simp] theorem modCtrl_settings (cp : CtrlPort) (f : Ctrl → Ctrl) :
    (s.modCtrl cp f).settings = s.settings := rfl
@[simp] theorem modCtrl_faults (cp : CtrlPort) (f : Ctrl → Ctrl) :
    (s.modCtrl cp f).faults = s.faults := rfl
@[simp] theorem modCtrl_load (cp : CtrlPort) (f : Ctrl → Ctrl) :
    (s.modCtrl cp f).load = s.load := rfl
@[simp] theorem modCtrl_save (cp : CtrlPort) (f : Ctrl → Ctrl) :
    (s.modCtrl cp f).save = s.save := rfl
@[simp] theorem modCtrl_lastSave (cp : CtrlPort) (f : Ctrl → Ctrl) :
    (s.modCtrl cp f).lastSave = s.lastSave := rfl
@[simp] theorem modCtrl_pending (cp : CtrlPort) (f : Ctrl → Ctrl) :
    (s.modCtrl cp f).pending = s.pending := rfl

/-! ## modAssembly -/

@[simp] theorem modAssembly_now (b : BundleId) (f : Assembly → Assembly) :
    (s.modAssembly b f).now = s.now := rfl
@[simp] theorem modAssembly_tribs (b : BundleId) (f : Assembly → Assembly) :
    (s.modAssembly b f).tribs = s.tribs := rfl
@[simp] theorem modAssembly_nets (b : BundleId) (f : Assembly → Assembly) :
    (s.modAssembly b f).nets = s.nets := rfl
@[simp] theorem modAssembly_captures (b : BundleId) (f : Assembly → Assembly) :
    (s.modAssembly b f).captures = s.captures := rfl
@[simp] theorem modAssembly_timing (b : BundleId) (f : Assembly → Assembly) :
    (s.modAssembly b f).timing = s.timing := rfl
@[simp] theorem modAssembly_ctrls (b : BundleId) (f : Assembly → Assembly) :
    (s.modAssembly b f).ctrls = s.ctrls := rfl
@[simp] theorem modAssembly_claims (b : BundleId) (f : Assembly → Assembly) :
    (s.modAssembly b f).claims = s.claims := rfl
@[simp] theorem modAssembly_settings (b : BundleId) (f : Assembly → Assembly) :
    (s.modAssembly b f).settings = s.settings := rfl
@[simp] theorem modAssembly_faults (b : BundleId) (f : Assembly → Assembly) :
    (s.modAssembly b f).faults = s.faults := rfl
@[simp] theorem modAssembly_load (b : BundleId) (f : Assembly → Assembly) :
    (s.modAssembly b f).load = s.load := rfl
@[simp] theorem modAssembly_save (b : BundleId) (f : Assembly → Assembly) :
    (s.modAssembly b f).save = s.save := rfl
@[simp] theorem modAssembly_lastSave (b : BundleId) (f : Assembly → Assembly) :
    (s.modAssembly b f).lastSave = s.lastSave := rfl
@[simp] theorem modAssembly_pending (b : BundleId) (f : Assembly → Assembly) :
    (s.modAssembly b f).pending = s.pending := rfl

/-! ## modPlayout -/

@[simp] theorem modPlayout_now (b : BundleId) (f : Playout → Playout) :
    (s.modPlayout b f).now = s.now := rfl
@[simp] theorem modPlayout_tribs (b : BundleId) (f : Playout → Playout) :
    (s.modPlayout b f).tribs = s.tribs := rfl
@[simp] theorem modPlayout_nets (b : BundleId) (f : Playout → Playout) :
    (s.modPlayout b f).nets = s.nets := rfl
@[simp] theorem modPlayout_captures (b : BundleId) (f : Playout → Playout) :
    (s.modPlayout b f).captures = s.captures := rfl
@[simp] theorem modPlayout_timing (b : BundleId) (f : Playout → Playout) :
    (s.modPlayout b f).timing = s.timing := rfl
@[simp] theorem modPlayout_ctrls (b : BundleId) (f : Playout → Playout) :
    (s.modPlayout b f).ctrls = s.ctrls := rfl
@[simp] theorem modPlayout_claims (b : BundleId) (f : Playout → Playout) :
    (s.modPlayout b f).claims = s.claims := rfl
@[simp] theorem modPlayout_settings (b : BundleId) (f : Playout → Playout) :
    (s.modPlayout b f).settings = s.settings := rfl
@[simp] theorem modPlayout_faults (b : BundleId) (f : Playout → Playout) :
    (s.modPlayout b f).faults = s.faults := rfl
@[simp] theorem modPlayout_load (b : BundleId) (f : Playout → Playout) :
    (s.modPlayout b f).load = s.load := rfl
@[simp] theorem modPlayout_save (b : BundleId) (f : Playout → Playout) :
    (s.modPlayout b f).save = s.save := rfl
@[simp] theorem modPlayout_lastSave (b : BundleId) (f : Playout → Playout) :
    (s.modPlayout b f).lastSave = s.lastSave := rfl
@[simp] theorem modPlayout_pending (b : BundleId) (f : Playout → Playout) :
    (s.modPlayout b f).pending = s.pending := rfl

/-! ## modDelay -/

@[simp] theorem modDelay_now (b : BundleId) (f : Delay → Delay) :
    (s.modDelay b f).now = s.now := rfl
@[simp] theorem modDelay_tribs (b : BundleId) (f : Delay → Delay) :
    (s.modDelay b f).tribs = s.tribs := rfl
@[simp] theorem modDelay_nets (b : BundleId) (f : Delay → Delay) :
    (s.modDelay b f).nets = s.nets := rfl
@[simp] theorem modDelay_captures (b : BundleId) (f : Delay → Delay) :
    (s.modDelay b f).captures = s.captures := rfl
@[simp] theorem modDelay_timing (b : BundleId) (f : Delay → Delay) :
    (s.modDelay b f).timing = s.timing := rfl
@[simp] theorem modDelay_ctrls (b : BundleId) (f : Delay → Delay) :
    (s.modDelay b f).ctrls = s.ctrls := rfl
@[simp] theorem modDelay_claims (b : BundleId) (f : Delay → Delay) :
    (s.modDelay b f).claims = s.claims := rfl
@[simp] theorem modDelay_settings (b : BundleId) (f : Delay → Delay) :
    (s.modDelay b f).settings = s.settings := rfl
@[simp] theorem modDelay_faults (b : BundleId) (f : Delay → Delay) :
    (s.modDelay b f).faults = s.faults := rfl
@[simp] theorem modDelay_load (b : BundleId) (f : Delay → Delay) :
    (s.modDelay b f).load = s.load := rfl
@[simp] theorem modDelay_save (b : BundleId) (f : Delay → Delay) :
    (s.modDelay b f).save = s.save := rfl
@[simp] theorem modDelay_lastSave (b : BundleId) (f : Delay → Delay) :
    (s.modDelay b f).lastSave = s.lastSave := rfl
@[simp] theorem modDelay_pending (b : BundleId) (f : Delay → Delay) :
    (s.modDelay b f).pending = s.pending := rfl

/-! ## modSupervisor -/

@[simp] theorem modSupervisor_now (b : BundleId) (f : Supervisor → Supervisor) :
    (s.modSupervisor b f).now = s.now := rfl
@[simp] theorem modSupervisor_tribs (b : BundleId) (f : Supervisor → Supervisor) :
    (s.modSupervisor b f).tribs = s.tribs := rfl
@[simp] theorem modSupervisor_nets (b : BundleId) (f : Supervisor → Supervisor) :
    (s.modSupervisor b f).nets = s.nets := rfl
@[simp] theorem modSupervisor_captures (b : BundleId) (f : Supervisor → Supervisor) :
    (s.modSupervisor b f).captures = s.captures := rfl
@[simp] theorem modSupervisor_timing (b : BundleId) (f : Supervisor → Supervisor) :
    (s.modSupervisor b f).timing = s.timing := rfl
@[simp] theorem modSupervisor_ctrls (b : BundleId) (f : Supervisor → Supervisor) :
    (s.modSupervisor b f).ctrls = s.ctrls := rfl
@[simp] theorem modSupervisor_claims (b : BundleId) (f : Supervisor → Supervisor) :
    (s.modSupervisor b f).claims = s.claims := rfl
@[simp] theorem modSupervisor_settings (b : BundleId) (f : Supervisor → Supervisor) :
    (s.modSupervisor b f).settings = s.settings := rfl
@[simp] theorem modSupervisor_faults (b : BundleId) (f : Supervisor → Supervisor) :
    (s.modSupervisor b f).faults = s.faults := rfl
@[simp] theorem modSupervisor_load (b : BundleId) (f : Supervisor → Supervisor) :
    (s.modSupervisor b f).load = s.load := rfl
@[simp] theorem modSupervisor_save (b : BundleId) (f : Supervisor → Supervisor) :
    (s.modSupervisor b f).save = s.save := rfl
@[simp] theorem modSupervisor_lastSave (b : BundleId) (f : Supervisor → Supervisor) :
    (s.modSupervisor b f).lastSave = s.lastSave := rfl
@[simp] theorem modSupervisor_pending (b : BundleId) (f : Supervisor → Supervisor) :
    (s.modSupervisor b f).pending = s.pending := rfl

/-! ## modSelector -/

@[simp] theorem modSelector_now (b : BundleId) (f : Selector → Selector) :
    (s.modSelector b f).now = s.now := rfl
@[simp] theorem modSelector_tribs (b : BundleId) (f : Selector → Selector) :
    (s.modSelector b f).tribs = s.tribs := rfl
@[simp] theorem modSelector_nets (b : BundleId) (f : Selector → Selector) :
    (s.modSelector b f).nets = s.nets := rfl
@[simp] theorem modSelector_captures (b : BundleId) (f : Selector → Selector) :
    (s.modSelector b f).captures = s.captures := rfl
@[simp] theorem modSelector_timing (b : BundleId) (f : Selector → Selector) :
    (s.modSelector b f).timing = s.timing := rfl
@[simp] theorem modSelector_ctrls (b : BundleId) (f : Selector → Selector) :
    (s.modSelector b f).ctrls = s.ctrls := rfl
@[simp] theorem modSelector_claims (b : BundleId) (f : Selector → Selector) :
    (s.modSelector b f).claims = s.claims := rfl
@[simp] theorem modSelector_settings (b : BundleId) (f : Selector → Selector) :
    (s.modSelector b f).settings = s.settings := rfl
@[simp] theorem modSelector_faults (b : BundleId) (f : Selector → Selector) :
    (s.modSelector b f).faults = s.faults := rfl
@[simp] theorem modSelector_load (b : BundleId) (f : Selector → Selector) :
    (s.modSelector b f).load = s.load := rfl
@[simp] theorem modSelector_save (b : BundleId) (f : Selector → Selector) :
    (s.modSelector b f).save = s.save := rfl
@[simp] theorem modSelector_lastSave (b : BundleId) (f : Selector → Selector) :
    (s.modSelector b f).lastSave = s.lastSave := rfl
@[simp] theorem modSelector_pending (b : BundleId) (f : Selector → Selector) :
    (s.modSelector b f).pending = s.pending := rfl

/-! ## modPlay -/

@[simp] theorem modPlay_now (b : BundleId) (f : PlayCounters → PlayCounters) :
    (s.modPlay b f).now = s.now := rfl
@[simp] theorem modPlay_tribs (b : BundleId) (f : PlayCounters → PlayCounters) :
    (s.modPlay b f).tribs = s.tribs := rfl
@[simp] theorem modPlay_nets (b : BundleId) (f : PlayCounters → PlayCounters) :
    (s.modPlay b f).nets = s.nets := rfl
@[simp] theorem modPlay_captures (b : BundleId) (f : PlayCounters → PlayCounters) :
    (s.modPlay b f).captures = s.captures := rfl
@[simp] theorem modPlay_timing (b : BundleId) (f : PlayCounters → PlayCounters) :
    (s.modPlay b f).timing = s.timing := rfl
@[simp] theorem modPlay_ctrls (b : BundleId) (f : PlayCounters → PlayCounters) :
    (s.modPlay b f).ctrls = s.ctrls := rfl
@[simp] theorem modPlay_claims (b : BundleId) (f : PlayCounters → PlayCounters) :
    (s.modPlay b f).claims = s.claims := rfl
@[simp] theorem modPlay_settings (b : BundleId) (f : PlayCounters → PlayCounters) :
    (s.modPlay b f).settings = s.settings := rfl
@[simp] theorem modPlay_faults (b : BundleId) (f : PlayCounters → PlayCounters) :
    (s.modPlay b f).faults = s.faults := rfl
@[simp] theorem modPlay_load (b : BundleId) (f : PlayCounters → PlayCounters) :
    (s.modPlay b f).load = s.load := rfl
@[simp] theorem modPlay_save (b : BundleId) (f : PlayCounters → PlayCounters) :
    (s.modPlay b f).save = s.save := rfl
@[simp] theorem modPlay_lastSave (b : BundleId) (f : PlayCounters → PlayCounters) :
    (s.modPlay b f).lastSave = s.lastSave := rfl
@[simp] theorem modPlay_pending (b : BundleId) (f : PlayCounters → PlayCounters) :
    (s.modPlay b f).pending = s.pending := rfl

/-! ## modTx -/

@[simp] theorem modTx_now (n : NetPort) (f : TxCounters → TxCounters) :
    (s.modTx n f).now = s.now := rfl
@[simp] theorem modTx_bundles (n : NetPort) (f : TxCounters → TxCounters) :
    (s.modTx n f).bundles = s.bundles := rfl
@[simp] theorem modTx_tribs (n : NetPort) (f : TxCounters → TxCounters) :
    (s.modTx n f).tribs = s.tribs := rfl
@[simp] theorem modTx_captures (n : NetPort) (f : TxCounters → TxCounters) :
    (s.modTx n f).captures = s.captures := rfl
@[simp] theorem modTx_timing (n : NetPort) (f : TxCounters → TxCounters) :
    (s.modTx n f).timing = s.timing := rfl
@[simp] theorem modTx_ctrls (n : NetPort) (f : TxCounters → TxCounters) :
    (s.modTx n f).ctrls = s.ctrls := rfl
@[simp] theorem modTx_claims (n : NetPort) (f : TxCounters → TxCounters) :
    (s.modTx n f).claims = s.claims := rfl
@[simp] theorem modTx_settings (n : NetPort) (f : TxCounters → TxCounters) :
    (s.modTx n f).settings = s.settings := rfl
@[simp] theorem modTx_faults (n : NetPort) (f : TxCounters → TxCounters) :
    (s.modTx n f).faults = s.faults := rfl
@[simp] theorem modTx_load (n : NetPort) (f : TxCounters → TxCounters) :
    (s.modTx n f).load = s.load := rfl
@[simp] theorem modTx_save (n : NetPort) (f : TxCounters → TxCounters) :
    (s.modTx n f).save = s.save := rfl
@[simp] theorem modTx_lastSave (n : NetPort) (f : TxCounters → TxCounters) :
    (s.modTx n f).lastSave = s.lastSave := rfl
@[simp] theorem modTx_pending (n : NetPort) (f : TxCounters → TxCounters) :
    (s.modTx n f).pending = s.pending := rfl

/-! ## modRx -/

@[simp] theorem modRx_now (n : NetPort) (f : RxCounters → RxCounters) :
    (s.modRx n f).now = s.now := rfl
@[simp] theorem modRx_bundles (n : NetPort) (f : RxCounters → RxCounters) :
    (s.modRx n f).bundles = s.bundles := rfl
@[simp] theorem modRx_tribs (n : NetPort) (f : RxCounters → RxCounters) :
    (s.modRx n f).tribs = s.tribs := rfl
@[simp] theorem modRx_captures (n : NetPort) (f : RxCounters → RxCounters) :
    (s.modRx n f).captures = s.captures := rfl
@[simp] theorem modRx_timing (n : NetPort) (f : RxCounters → RxCounters) :
    (s.modRx n f).timing = s.timing := rfl
@[simp] theorem modRx_ctrls (n : NetPort) (f : RxCounters → RxCounters) :
    (s.modRx n f).ctrls = s.ctrls := rfl
@[simp] theorem modRx_claims (n : NetPort) (f : RxCounters → RxCounters) :
    (s.modRx n f).claims = s.claims := rfl
@[simp] theorem modRx_settings (n : NetPort) (f : RxCounters → RxCounters) :
    (s.modRx n f).settings = s.settings := rfl
@[simp] theorem modRx_faults (n : NetPort) (f : RxCounters → RxCounters) :
    (s.modRx n f).faults = s.faults := rfl
@[simp] theorem modRx_load (n : NetPort) (f : RxCounters → RxCounters) :
    (s.modRx n f).load = s.load := rfl
@[simp] theorem modRx_save (n : NetPort) (f : RxCounters → RxCounters) :
    (s.modRx n f).save = s.save := rfl
@[simp] theorem modRx_lastSave (n : NetPort) (f : RxCounters → RxCounters) :
    (s.modRx n f).lastSave = s.lastSave := rfl
@[simp] theorem modRx_pending (n : NetPort) (f : RxCounters → RxCounters) :
    (s.modRx n f).pending = s.pending := rfl

/-! ## post -/

@[simp] theorem post_now (k : EventKind) (j : Subject) (d : Nat) : (s.post k j d).now = s.now := rfl
@[simp] theorem post_bundles (k : EventKind) (j : Subject) (d : Nat) :
    (s.post k j d).bundles = s.bundles := rfl
@[simp] theorem post_tribs (k : EventKind) (j : Subject) (d : Nat) :
    (s.post k j d).tribs = s.tribs := rfl
@[simp] theorem post_nets (k : EventKind) (j : Subject) (d : Nat) :
    (s.post k j d).nets = s.nets := rfl
@[simp] theorem post_captures (k : EventKind) (j : Subject) (d : Nat) :
    (s.post k j d).captures = s.captures := rfl
@[simp] theorem post_timing (k : EventKind) (j : Subject) (d : Nat) :
    (s.post k j d).timing = s.timing := rfl
@[simp] theorem post_claims (k : EventKind) (j : Subject) (d : Nat) :
    (s.post k j d).claims = s.claims := rfl
@[simp] theorem post_settings (k : EventKind) (j : Subject) (d : Nat) :
    (s.post k j d).settings = s.settings := rfl
@[simp] theorem post_faults (k : EventKind) (j : Subject) (d : Nat) :
    (s.post k j d).faults = s.faults := rfl
@[simp] theorem post_load (k : EventKind) (j : Subject) (d : Nat) :
    (s.post k j d).load = s.load := rfl
@[simp] theorem post_save (k : EventKind) (j : Subject) (d : Nat) :
    (s.post k j d).save = s.save := rfl
@[simp] theorem post_lastSave (k : EventKind) (j : Subject) (d : Nat) :
    (s.post k j d).lastSave = s.lastSave := rfl
@[simp] theorem post_pending (k : EventKind) (j : Subject) (d : Nat) :
    (s.post k j d).pending = s.pending := rfl

/-! ## decide -/

@[simp] theorem decide_now (cp : CtrlPort) (k : Nat) (x : Status) (bs : List Byte) :
    (s.decide cp k x bs).now = s.now := rfl
@[simp] theorem decide_bundles (cp : CtrlPort) (k : Nat) (x : Status) (bs : List Byte) :
    (s.decide cp k x bs).bundles = s.bundles := rfl
@[simp] theorem decide_tribs (cp : CtrlPort) (k : Nat) (x : Status) (bs : List Byte) :
    (s.decide cp k x bs).tribs = s.tribs := rfl
@[simp] theorem decide_nets (cp : CtrlPort) (k : Nat) (x : Status) (bs : List Byte) :
    (s.decide cp k x bs).nets = s.nets := rfl
@[simp] theorem decide_captures (cp : CtrlPort) (k : Nat) (x : Status) (bs : List Byte) :
    (s.decide cp k x bs).captures = s.captures := rfl
@[simp] theorem decide_timing (cp : CtrlPort) (k : Nat) (x : Status) (bs : List Byte) :
    (s.decide cp k x bs).timing = s.timing := rfl
@[simp] theorem decide_claims (cp : CtrlPort) (k : Nat) (x : Status) (bs : List Byte) :
    (s.decide cp k x bs).claims = s.claims := rfl
@[simp] theorem decide_settings (cp : CtrlPort) (k : Nat) (x : Status) (bs : List Byte) :
    (s.decide cp k x bs).settings = s.settings := rfl
@[simp] theorem decide_faults (cp : CtrlPort) (k : Nat) (x : Status) (bs : List Byte) :
    (s.decide cp k x bs).faults = s.faults := rfl
@[simp] theorem decide_load (cp : CtrlPort) (k : Nat) (x : Status) (bs : List Byte) :
    (s.decide cp k x bs).load = s.load := rfl
@[simp] theorem decide_save (cp : CtrlPort) (k : Nat) (x : Status) (bs : List Byte) :
    (s.decide cp k x bs).save = s.save := rfl
@[simp] theorem decide_lastSave (cp : CtrlPort) (k : Nat) (x : Status) (bs : List Byte) :
    (s.decide cp k x bs).lastSave = s.lastSave := rfl
@[simp] theorem decide_pending (cp : CtrlPort) (k : Nat) (x : Status) (bs : List Byte) :
    (s.decide cp k x bs).pending = s.pending := rfl

/-! ## refuse -/

@[simp] theorem refuse_now (cp : CtrlPort) (k : Nat) (x : Status) :
    (s.refuse cp k x).now = s.now := rfl
@[simp] theorem refuse_bundles (cp : CtrlPort) (k : Nat) (x : Status) :
    (s.refuse cp k x).bundles = s.bundles := rfl
@[simp] theorem refuse_tribs (cp : CtrlPort) (k : Nat) (x : Status) :
    (s.refuse cp k x).tribs = s.tribs := rfl
@[simp] theorem refuse_nets (cp : CtrlPort) (k : Nat) (x : Status) :
    (s.refuse cp k x).nets = s.nets := rfl
@[simp] theorem refuse_captures (cp : CtrlPort) (k : Nat) (x : Status) :
    (s.refuse cp k x).captures = s.captures := rfl
@[simp] theorem refuse_timing (cp : CtrlPort) (k : Nat) (x : Status) :
    (s.refuse cp k x).timing = s.timing := rfl
@[simp] theorem refuse_claims (cp : CtrlPort) (k : Nat) (x : Status) :
    (s.refuse cp k x).claims = s.claims := rfl
@[simp] theorem refuse_settings (cp : CtrlPort) (k : Nat) (x : Status) :
    (s.refuse cp k x).settings = s.settings := rfl
@[simp] theorem refuse_faults (cp : CtrlPort) (k : Nat) (x : Status) :
    (s.refuse cp k x).faults = s.faults := rfl
@[simp] theorem refuse_load (cp : CtrlPort) (k : Nat) (x : Status) :
    (s.refuse cp k x).load = s.load := rfl
@[simp] theorem refuse_save (cp : CtrlPort) (k : Nat) (x : Status) :
    (s.refuse cp k x).save = s.save := rfl
@[simp] theorem refuse_lastSave (cp : CtrlPort) (k : Nat) (x : Status) :
    (s.refuse cp k x).lastSave = s.lastSave := rfl
@[simp] theorem refuse_pending (cp : CtrlPort) (k : Nat) (x : Status) :
    (s.refuse cp k x).pending = s.pending := rfl

/-! ## recordFault -/

@[simp] theorem recordFault_now (k : FaultKind) (j : Option BundleId) (d : Nat) :
    (s.recordFault k j d).now = s.now := rfl
@[simp] theorem recordFault_bundles (k : FaultKind) (j : Option BundleId) (d : Nat) :
    (s.recordFault k j d).bundles = s.bundles := rfl
@[simp] theorem recordFault_tribs (k : FaultKind) (j : Option BundleId) (d : Nat) :
    (s.recordFault k j d).tribs = s.tribs := rfl
@[simp] theorem recordFault_nets (k : FaultKind) (j : Option BundleId) (d : Nat) :
    (s.recordFault k j d).nets = s.nets := rfl
@[simp] theorem recordFault_captures (k : FaultKind) (j : Option BundleId) (d : Nat) :
    (s.recordFault k j d).captures = s.captures := rfl
@[simp] theorem recordFault_timing (k : FaultKind) (j : Option BundleId) (d : Nat) :
    (s.recordFault k j d).timing = s.timing := rfl
@[simp] theorem recordFault_claims (k : FaultKind) (j : Option BundleId) (d : Nat) :
    (s.recordFault k j d).claims = s.claims := rfl
@[simp] theorem recordFault_settings (k : FaultKind) (j : Option BundleId) (d : Nat) :
    (s.recordFault k j d).settings = s.settings := rfl
@[simp] theorem recordFault_load (k : FaultKind) (j : Option BundleId) (d : Nat) :
    (s.recordFault k j d).load = s.load := rfl
@[simp] theorem recordFault_save (k : FaultKind) (j : Option BundleId) (d : Nat) :
    (s.recordFault k j d).save = s.save := rfl
@[simp] theorem recordFault_lastSave (k : FaultKind) (j : Option BundleId) (d : Nat) :
    (s.recordFault k j d).lastSave = s.lastSave := rfl
@[simp] theorem recordFault_pending (k : FaultKind) (j : Option BundleId) (d : Nat) :
    (s.recordFault k j d).pending = s.pending := rfl

/-! ## setHolder -/

@[simp] theorem setHolder_now (c : Machine.Section) (h : Option CtrlPort) :
    (s.setHolder c h).now = s.now := rfl
@[simp] theorem setHolder_bundles (c : Machine.Section) (h : Option CtrlPort) :
    (s.setHolder c h).bundles = s.bundles := rfl
@[simp] theorem setHolder_tribs (c : Machine.Section) (h : Option CtrlPort) :
    (s.setHolder c h).tribs = s.tribs := rfl
@[simp] theorem setHolder_nets (c : Machine.Section) (h : Option CtrlPort) :
    (s.setHolder c h).nets = s.nets := rfl
@[simp] theorem setHolder_captures (c : Machine.Section) (h : Option CtrlPort) :
    (s.setHolder c h).captures = s.captures := rfl
@[simp] theorem setHolder_timing (c : Machine.Section) (h : Option CtrlPort) :
    (s.setHolder c h).timing = s.timing := rfl
@[simp] theorem setHolder_ctrls (c : Machine.Section) (h : Option CtrlPort) :
    (s.setHolder c h).ctrls = s.ctrls := rfl
@[simp] theorem setHolder_settings (c : Machine.Section) (h : Option CtrlPort) :
    (s.setHolder c h).settings = s.settings := rfl
@[simp] theorem setHolder_faults (c : Machine.Section) (h : Option CtrlPort) :
    (s.setHolder c h).faults = s.faults := rfl
@[simp] theorem setHolder_load (c : Machine.Section) (h : Option CtrlPort) :
    (s.setHolder c h).load = s.load := rfl
@[simp] theorem setHolder_save (c : Machine.Section) (h : Option CtrlPort) :
    (s.setHolder c h).save = s.save := rfl
@[simp] theorem setHolder_lastSave (c : Machine.Section) (h : Option CtrlPort) :
    (s.setHolder c h).lastSave = s.lastSave := rfl
@[simp] theorem setHolder_pending (c : Machine.Section) (h : Option CtrlPort) :
    (s.setHolder c h).pending = s.pending := rfl

/-! ## abandonSteering -/

@[simp] theorem abandonSteering_now (b : BundleId) : (s.abandonSteering b).now = s.now := rfl
@[simp] theorem abandonSteering_bundles (b : BundleId) :
    (s.abandonSteering b).bundles = s.bundles := rfl
@[simp] theorem abandonSteering_nets (b : BundleId) : (s.abandonSteering b).nets = s.nets := rfl
@[simp] theorem abandonSteering_captures (b : BundleId) :
    (s.abandonSteering b).captures = s.captures := rfl
@[simp] theorem abandonSteering_timing (b : BundleId) :
    (s.abandonSteering b).timing = s.timing := rfl
@[simp] theorem abandonSteering_ctrls (b : BundleId) : (s.abandonSteering b).ctrls = s.ctrls := rfl
@[simp] theorem abandonSteering_claims (b : BundleId) :
    (s.abandonSteering b).claims = s.claims := rfl
@[simp] theorem abandonSteering_settings (b : BundleId) :
    (s.abandonSteering b).settings = s.settings := rfl
@[simp] theorem abandonSteering_faults (b : BundleId) :
    (s.abandonSteering b).faults = s.faults := rfl
@[simp] theorem abandonSteering_load (b : BundleId) : (s.abandonSteering b).load = s.load := rfl
@[simp] theorem abandonSteering_save (b : BundleId) : (s.abandonSteering b).save = s.save := rfl
@[simp] theorem abandonSteering_lastSave (b : BundleId) :
    (s.abandonSteering b).lastSave = s.lastSave := rfl
@[simp] theorem abandonSteering_pending (b : BundleId) :
    (s.abandonSteering b).pending = s.pending := rfl

/-! ## push -/

@[simp] theorem push_now (c : Instr) : (s.push c).now = s.now := rfl
@[simp] theorem push_bundles (c : Instr) : (s.push c).bundles = s.bundles := rfl
@[simp] theorem push_tribs (c : Instr) : (s.push c).tribs = s.tribs := rfl
@[simp] theorem push_nets (c : Instr) : (s.push c).nets = s.nets := rfl
@[simp] theorem push_captures (c : Instr) : (s.push c).captures = s.captures := rfl
@[simp] theorem push_timing (c : Instr) : (s.push c).timing = s.timing := rfl
@[simp] theorem push_ctrls (c : Instr) : (s.push c).ctrls = s.ctrls := rfl
@[simp] theorem push_claims (c : Instr) : (s.push c).claims = s.claims := rfl
@[simp] theorem push_settings (c : Instr) : (s.push c).settings = s.settings := rfl
@[simp] theorem push_faults (c : Instr) : (s.push c).faults = s.faults := rfl
@[simp] theorem push_load (c : Instr) : (s.push c).load = s.load := rfl
@[simp] theorem push_save (c : Instr) : (s.push c).save = s.save := rfl
@[simp] theorem push_lastSave (c : Instr) : (s.push c).lastSave = s.lastSave := rfl

/-! ## postIf -/

@[simp] theorem postIf_now (c : Bool) (k : EventKind) (j : Subject) (d : Nat) :
    (s.postIf c k j d).now = s.now := by cases c <;> rfl
@[simp] theorem postIf_bundles (c : Bool) (k : EventKind) (j : Subject) (d : Nat) :
    (s.postIf c k j d).bundles = s.bundles := by cases c <;> rfl
@[simp] theorem postIf_tribs (c : Bool) (k : EventKind) (j : Subject) (d : Nat) :
    (s.postIf c k j d).tribs = s.tribs := by cases c <;> rfl
@[simp] theorem postIf_nets (c : Bool) (k : EventKind) (j : Subject) (d : Nat) :
    (s.postIf c k j d).nets = s.nets := by cases c <;> rfl
@[simp] theorem postIf_captures (c : Bool) (k : EventKind) (j : Subject) (d : Nat) :
    (s.postIf c k j d).captures = s.captures := by cases c <;> rfl
@[simp] theorem postIf_timing (c : Bool) (k : EventKind) (j : Subject) (d : Nat) :
    (s.postIf c k j d).timing = s.timing := by cases c <;> rfl
@[simp] theorem postIf_claims (c : Bool) (k : EventKind) (j : Subject) (d : Nat) :
    (s.postIf c k j d).claims = s.claims := by cases c <;> rfl
@[simp] theorem postIf_settings (c : Bool) (k : EventKind) (j : Subject) (d : Nat) :
    (s.postIf c k j d).settings = s.settings := by cases c <;> rfl
@[simp] theorem postIf_faults (c : Bool) (k : EventKind) (j : Subject) (d : Nat) :
    (s.postIf c k j d).faults = s.faults := by cases c <;> rfl
@[simp] theorem postIf_load (c : Bool) (k : EventKind) (j : Subject) (d : Nat) :
    (s.postIf c k j d).load = s.load := by cases c <;> rfl
@[simp] theorem postIf_save (c : Bool) (k : EventKind) (j : Subject) (d : Nat) :
    (s.postIf c k j d).save = s.save := by cases c <;> rfl
@[simp] theorem postIf_lastSave (c : Bool) (k : EventKind) (j : Subject) (d : Nat) :
    (s.postIf c k j d).lastSave = s.lastSave := by cases c <;> rfl
@[simp] theorem postIf_pending (c : Bool) (k : EventKind) (j : Subject) (d : Nat) :
    (s.postIf c k j d).pending = s.pending := by cases c <;> rfl

/-! ## tick -/

@[simp] theorem tick_bundles : s.tick.bundles = s.bundles := rfl
@[simp] theorem tick_tribs : s.tick.tribs = s.tribs := rfl
@[simp] theorem tick_nets : s.tick.nets = s.nets := rfl
@[simp] theorem tick_captures : s.tick.captures = s.captures := rfl
@[simp] theorem tick_timing : s.tick.timing = s.timing := rfl
@[simp] theorem tick_ctrls : s.tick.ctrls = s.ctrls := rfl
@[simp] theorem tick_claims : s.tick.claims = s.claims := rfl
@[simp] theorem tick_settings : s.tick.settings = s.settings := rfl
@[simp] theorem tick_faults : s.tick.faults = s.faults := rfl
@[simp] theorem tick_load : s.tick.load = s.load := rfl
@[simp] theorem tick_save : s.tick.save = s.save := rfl
@[simp] theorem tick_lastSave : s.tick.lastSave = s.lastSave := rfl
@[simp] theorem tick_pending : s.tick.pending = s.pending := rfl

end Sys2Proof.Machine.State
end

