-- ==== Sys2Proof/Laws/Access.lean ====
section
/-!
SUPPORT. Laws of access: what reading one bundle, port, candidate or claim gives after an update of the
same one and of another.
-/

namespace Sys2Proof

/-! ## Two like things -/

@[simp] theorem Two.atPath_setPath_self {α : Type} (x : Two α) (p : Path) (v : α) :
    (x.setPath p v).atPath p = v := by cases p <;> rfl

@[simp] theorem Two.atPath_setPath_other {α : Type} (x : Two α) (p : Path) (v : α) :
    (x.setPath p v).atPath p.other = x.atPath p.other := by cases p <;> rfl

theorem Two.atPath_setPath_ne {α : Type} (x : Two α) {p q : Path} (v : α) (h : q ≠ p) :
    (x.setPath p v).atPath q = x.atPath q := by cases p <;> cases q <;> simp_all [atPath, setPath]

@[simp] theorem Two.atNet_setNet_self {α : Type} (x : Two α) (n : NetPort) (v : α) :
    (x.setNet n v).atNet n = v := by cases n <;> rfl

theorem Two.atNet_setNet_ne {α : Type} (x : Two α) {n m : NetPort} (v : α) (h : m ≠ n) :
    (x.setNet n v).atNet m = x.atNet m := by cases n <;> cases m <;> simp_all [atNet, setNet]

@[simp] theorem Two.atCp_setCp_self {α : Type} (x : Two α) (cp : CtrlPort) (v : α) :
    (x.setCp cp v).atCp cp = v := by cases cp <;> rfl

@[simp] theorem Two.atCp_setCp_other {α : Type} (x : Two α) (cp : CtrlPort) (v : α) :
    (x.setCp cp v).atCp cp.other = x.atCp cp.other := by cases cp <;> rfl

theorem Two.atCp_setCp_ne {α : Type} (x : Two α) {cp dp : CtrlPort} (v : α) (h : dp ≠ cp) :
    (x.setCp cp v).atCp dp = x.atCp dp := by cases cp <;> cases dp <;> simp_all [atCp, setCp]

@[simp] theorem Two.atPath_map {α β : Type} (f : α → β) (x : Two α) (p : Path) :
    (x.map f).atPath p = f (x.atPath p) := by cases p <;> rfl

@[simp] theorem Two.atNet_map {α β : Type} (f : α → β) (x : Two α) (n : NetPort) :
    (x.map f).atNet n = f (x.atNet n) := by cases n <;> rfl

@[simp] theorem Two.atCp_map {α β : Type} (f : α → β) (x : Two α) (cp : CtrlPort) :
    (x.map f).atCp cp = f (x.atCp cp) := by cases cp <;> rfl

end Sys2Proof

namespace Sys2Proof.Machine

variable (s : State)

/-! ## Bundles -/

@[simp] theorem State.bun_modBun_self (b : BundleId) (f : Bundle → Bundle) :
    (s.modBun b f).bun b = f (s.bun b) := by simp [State.bun, State.modBun]

theorem State.bun_modBun_ne {b c : BundleId} (f : Bundle → Bundle) (h : c ≠ b) :
    (s.modBun b f).bun c = s.bun c := by
  have : (b : Nat) ≠ c := fun e => h (Fin.ext e.symm)
  simp [State.bun, State.modBun, Vector.getElem_set_ne, this]

@[simp] theorem State.bun_modAssembly_self (b : BundleId) (f : Assembly → Assembly) :
    (s.modAssembly b f).bun b = { s.bun b with assembly := f (s.bun b).assembly } :=
  s.bun_modBun_self b _

@[simp] theorem State.bun_modPlayout_self (b : BundleId) (f : Playout → Playout) :
    (s.modPlayout b f).bun b = { s.bun b with playout := f (s.bun b).playout } :=
  s.bun_modBun_self b _

@[simp] theorem State.bun_modDelay_self (b : BundleId) (f : Delay → Delay) :
    (s.modDelay b f).bun b = { s.bun b with delay := f (s.bun b).delay } :=
  s.bun_modBun_self b _

@[simp] theorem State.bun_modSupervisor_self (b : BundleId) (f : Supervisor → Supervisor) :
    (s.modSupervisor b f).bun b = { s.bun b with supervisor := f (s.bun b).supervisor } :=
  s.bun_modBun_self b _

@[simp] theorem State.bun_modTrib (p : TribId) (f : Trib → Trib) (b : BundleId) :
    (s.modTrib p f).bun b = s.bun b := rfl
@[simp] theorem State.bun_modNet (n : NetPort) (f : Net → Net) (b : BundleId) :
    (s.modNet n f).bun b = s.bun b := rfl
@[simp] theorem State.bun_modCtrl (cp : CtrlPort) (f : Ctrl → Ctrl) (b : BundleId) :
    (s.modCtrl cp f).bun b = s.bun b := rfl
@[simp] theorem State.bun_post (k : EventKind) (j : Subject) (d : Nat) (b : BundleId) :
    (s.post k j d).bun b = s.bun b := rfl
@[simp] theorem State.bun_postIf (c : Bool) (k : EventKind) (j : Subject) (d : Nat) (b : BundleId) :
    (s.postIf c k j d).bun b = s.bun b := by cases c <;> rfl
@[simp] theorem State.bun_decide (cp : CtrlPort) (k : Nat) (x : Status) (bs : List Byte)
    (b : BundleId) : (s.decide cp k x bs).bun b = s.bun b := rfl
@[simp] theorem State.bun_refuse (cp : CtrlPort) (k : Nat) (x : Status) (b : BundleId) :
    (s.refuse cp k x).bun b = s.bun b := rfl
@[simp] theorem State.bun_setHolder (c : Machine.Section) (h : Option CtrlPort) (b : BundleId) :
    (s.setHolder c h).bun b = s.bun b := rfl

/-! ## Tributary ports -/

@[simp] theorem State.trib_modTrib_self (p : TribId) (f : Trib → Trib) :
    (s.modTrib p f).trib p = f (s.trib p) := by simp [State.trib, State.modTrib]

theorem State.trib_modTrib_ne {p q : TribId} (f : Trib → Trib) (h : q ≠ p) :
    (s.modTrib p f).trib q = s.trib q := by
  have : (p : Nat) ≠ q := fun e => h (Fin.ext e.symm)
  simp [State.trib, State.modTrib, Vector.getElem_set_ne, this]

@[simp] theorem State.trib_modBun (b : BundleId) (f : Bundle → Bundle) (p : TribId) :
    (s.modBun b f).trib p = s.trib p := rfl
@[simp] theorem State.trib_post (k : EventKind) (j : Subject) (d : Nat) (p : TribId) :
    (s.post k j d).trib p = s.trib p := rfl
@[simp] theorem State.trib_postIf (c : Bool) (k : EventKind) (j : Subject) (d : Nat) (p : TribId) :
    (s.postIf c k j d).trib p = s.trib p := by cases c <;> rfl
@[simp] theorem State.trib_decide (cp : CtrlPort) (k : Nat) (x : Status) (bs : List Byte)
    (p : TribId) : (s.decide cp k x bs).trib p = s.trib p := rfl

/-! ## Network and control ports -/

@[simp] theorem State.net_modNet_self (n : NetPort) (f : Net → Net) :
    (s.modNet n f).net n = f (s.net n) := by simp [State.net, State.modNet]

theorem State.net_modNet_ne {n m : NetPort} (f : Net → Net) (h : m ≠ n) :
    (s.modNet n f).net m = s.net m := Two.atNet_setNet_ne _ _ h

@[simp] theorem State.net_post (k : EventKind) (j : Subject) (d : Nat) (n : NetPort) :
    (s.post k j d).net n = s.net n := rfl
@[simp] theorem State.net_decide (cp : CtrlPort) (k : Nat) (x : Status) (bs : List Byte)
    (n : NetPort) : (s.decide cp k x bs).net n = s.net n := rfl

@[simp] theorem State.ctrl_modCtrl_self (cp : CtrlPort) (f : Ctrl → Ctrl) :
    (s.modCtrl cp f).ctrl cp = f (s.ctrl cp) := by simp [State.ctrl, State.modCtrl]

theorem State.ctrl_modCtrl_ne {cp dp : CtrlPort} (f : Ctrl → Ctrl) (h : dp ≠ cp) :
    (s.modCtrl cp f).ctrl dp = s.ctrl dp := Two.atCp_setCp_ne _ _ h

/-- Posting: each queue takes the event, stamped with the event time (R173). -/
@[simp] theorem State.ctrl_post (k : EventKind) (j : Subject) (d : Nat) (cp : CtrlPort) :
    (s.post k j d).ctrl cp = (s.ctrl cp).offer ⟨k, j, s.eventTime, BitVec.ofNat 32 d⟩ := by
  simp [State.ctrl, State.post]

/-- Deciding a request changes its port's outcome alone (R165). -/
@[simp] theorem State.ctrl_decide_self (cp : CtrlPort) (k : Nat) (x : Status) (bs : List Byte) :
    (s.decide cp k x bs).ctrl cp = { s.ctrl cp with outcome := some ⟨k, x, bs⟩ } := by
  simp [State.decide]

theorem State.ctrl_decide_ne {cp dp : CtrlPort} (k : Nat) (x : Status) (bs : List Byte)
    (h : dp ≠ cp) : (s.decide cp k x bs).ctrl dp = s.ctrl dp := s.ctrl_modCtrl_ne _ h

/-! ## Claims -/

@[simp] theorem State.holder_setHolder_self (c : Machine.Section) (h : Option CtrlPort) :
    (s.setHolder c h).holder c = h := by
  cases c <;> simp [State.holder, State.setHolder, Claims.holder, Claims.setHolder]

theorem State.holder_setHolder_ne {c d : Machine.Section} (h : Option CtrlPort) (ne : d ≠ c) :
    (s.setHolder c h).holder d = s.holder d := by
  cases c <;> cases d <;> try rfl
  · rename_i b c
    have : (b : Nat) ≠ c := fun e => ne (by rw [Fin.ext e])
    simp [State.holder, State.setHolder, Claims.holder, Claims.setHolder, Vector.getElem_set_ne, this]
  · rename_i b c
    have : (b : Nat) ≠ c := fun e => ne (by rw [Fin.ext e])
    simp [State.holder, State.setHolder, Claims.holder, Claims.setHolder, Vector.getElem_set_ne, this]
  · exact Two.atNet_setNet_ne _ _ fun e => ne (by rw [e])
  · exact absurd rfl ne
  · exact absurd rfl ne

/-! ## Clock candidates -/

theorem Candidate.index_injective {c d : Candidate} (h : c.index = d.index) : c = d := by
  cases c <;> cases d <;> simp_all [Candidate.index, eq_comm (a := (0 : Fin 9)), Fin.succ_ne_zero]

@[simp] theorem Timing.candidate_setCandidate_self (x : Timing) (c : Candidate)
    (r : CandidateRecord) : (x.setCandidate c r).candidate c = r := by
  simp [Timing.candidate, Timing.setCandidate]

theorem Timing.candidate_setCandidate_ne (x : Timing) {c d : Candidate} (r : CandidateRecord)
    (h : d ≠ c) : (x.setCandidate c r).candidate d = x.candidate d := by
  have : (c.index : Nat) ≠ d.index := fun e => h (Candidate.index_injective (Fin.ext e.symm))
  simp [Timing.candidate, Timing.setCandidate, Vector.getElem_set_ne, this]

end Sys2Proof.Machine
end

