-- ==== Sys2Proof/Laws/Image.lean ====
section
/-!
SUPPORT. Image: what the load's checks make of a sealed image, so that a proof or a test about its
sections evaluates no CRC; and the order in which the load applies its sections.
-/

namespace Sys2Proof.Machine

/-- A field has the bytes of its width (R181). -/
@[simp] theorem length_bytesOf (n v : Nat) : (bytesOf n v).length = n := by
  induction n with
  | zero => rfl
  | succ n ih => simp [bytesOf, ih]

/-- Two bytes hold a number below 65536 (R181). -/
theorem natOf_bytesOf_two {v : Nat} (h : v < 65536) : natOf (bytesOf 2 v) = v := by
  simp [bytesOf, natOf]; omega

/-- A sealed image passes every check but that of its sections, which are read as they were sealed (R176,
R182). -/
theorem checkImage_sealImage {secs : List Byte} (h : secs.length ≤ 8182) :
    checkImage (sealImage secs) =
      match readSections (secs.length + 10) secs with
      | none => .rejected .length
      | some xs => .passed xs := by
  obtain ⟨head, hd⟩ : ∃ x, x = bytesOf 4 imageMarker ++ [1, 0] ++ bytesOf 2 (secs.length + 10) :=
    ⟨_, rfl⟩
  obtain ⟨crc, hc⟩ : ∃ x, x = crc16 (head ++ secs) := ⟨_, rfl⟩
  have hl : head.length = 8 := by simp [hd]
  have hs : sealImage secs = head ++ secs ++ bytesOf 2 crc.toNat := by
    simp [sealImage, hd, hc]
  have hn : fieldAt (sealImage secs) 6 2 = secs.length + 10 := by
    have : fieldAt (sealImage secs) 6 2 = natOf (bytesOf 2 (secs.length + 10)) := by
      rw [hs, hd]; simp [fieldAt, bytesOf]
    rw [this, natOf_bytesOf_two (by omega)]
  have hm : fieldAt (sealImage secs) 0 4 = imageMarker := by
    rw [hs, hd]; simp [fieldAt, bytesOf, natOf, imageMarker]
  have hv : byteAt (sealImage secs) 4 = 1 := by
    rw [hs, hd]; simp [byteAt, bytesOf]
  have hb : imageBody (sealImage secs) (secs.length + 10) = sealImage secs := by
    have h0 : (sealImage secs).length = secs.length + 10 := by simp [hs, hl]; omega
    rw [imageBody, clocked, h0, Nat.sub_self, List.take_of_length_le (Nat.le_of_eq h0)]
    simp
  have ht : (sealImage secs).take (secs.length + 8) = head ++ secs := by
    rw [hs, List.take_left' (by simp [hl]; omega)]
  have hf : fieldAt (sealImage secs) (secs.length + 8) 2 = crc.toNat := by
    have : fieldAt (sealImage secs) (secs.length + 8) 2 = natOf (bytesOf 2 crc.toNat) := by
      rw [fieldAt, hs, List.drop_left' (by simp [hl]; omega)]
      congr 1
    rw [this, natOf_bytesOf_two crc.isLt]
  have hdrop : (head ++ secs).drop 8 = secs := List.drop_left' hl
  have h2 : secs.length + 10 - 2 = secs.length + 8 := rfl
  simp only [checkImage, hn, hm, hv, hb, h2, ht, hf, hdrop, ← hc]
  have hk : ¬ (secs.length + 10 < 10 ∨ Config.imageBytes < secs.length + 10) := by
    simp only [Config.imageBytes]; omega
  exact (if_neg (not_not_intro rfl)).trans <| (if_neg (not_not_intro rfl)).trans <|
    (if_neg hk).trans <| (if_neg (not_not_intro rfl)).trans rfl

/-! ## The order of the sections (R42, R176, R183) -/

/-- Every kind of section has one of the six places. -/
theorem ImageSection.order_lt (x : ImageSection) : x.order < 6 := by
  cases x <;> simp [ImageSection.order]

/-- The load applies the sections of the image and no others. -/
@[simp] theorem mem_tableOrder {x : ImageSection} {xs : List ImageSection} :
    x ∈ tableOrder xs ↔ x ∈ xs := by
  simp [tableOrder, x.order_lt]

/-- The sections of one kind are applied in stored order (R183). -/
@[simp] theorem filter_tableOrder (xs : List ImageSection) (n : Nat) :
    (tableOrder xs).filter (fun x => x.order == n) = xs.filter (fun x => x.order == n) := by
  have key : ∀ m, (xs.filter fun x => x.order == m).filter (fun x => x.order == n) =
      if m = n then xs.filter (fun x => x.order == n) else [] := fun m => by
    split
    · simp_all
    · simp only [List.filter_filter, List.filter_eq_nil_iff, Bool.and_eq_true, beq_iff_eq]
      omega
  by_cases h : n < 6
  · obtain rfl | rfl | rfl | rfl | rfl | rfl : n = 0 ∨ n = 1 ∨ n = 2 ∨ n = 3 ∨ n = 4 ∨ n = 5 := by
      omega
    all_goals simp only [tableOrder, List.filter_flatMap, key]; simp [List.range_succ]
  · have none_of : ∀ ys : List ImageSection, ys.filter (fun x => x.order == n) = [] := fun ys => by
      simp only [List.filter_eq_nil_iff, beq_iff_eq]
      intro x _ e
      have := x.order_lt
      omega
    rw [none_of, none_of]

/-- No section is applied before one of an earlier place in Table 69 (R176). -/
theorem tableOrder_pairwise (xs : List ImageSection) :
    (tableOrder xs).Pairwise fun x y => x.order ≤ y.order := by
  rw [tableOrder, List.pairwise_flatMap]
  refine ⟨fun n _ => ?_, ?_⟩
  · refine List.pairwise_of_forall_mem_list fun x hx y hy => ?_
    simp only [List.mem_filter, beq_iff_eq] at hx hy
    omega
  · refine List.pairwise_lt_range.imp fun h x hx y hy => ?_
    simp only [List.mem_filter, beq_iff_eq] at hx hy
    omega

/-- Images whose sections of each kind are the same, in the same order, are applied alike. -/
theorem tableOrder_congr {xs ys : List ImageSection}
    (h : ∀ n, xs.filter (fun x => x.order == n) = ys.filter (fun x => x.order == n)) :
    tableOrder xs = tableOrder ys := by
  simp [tableOrder, h]

end Sys2Proof.Machine
end

