-- ==== Sys2Proof/Laws/Ops.lean ====
section
/-!
SUPPORT. Laws of the shared operations: for each, one lemma that says what it can do. The operations on
one bundle share one frame, `Local`: they change that bundle, steering intervals and the event queues,
and of the bundle neither its records, its check word nor its assembly state.
-/

namespace Sys2Proof

/-! ## Counters and clamps -/

theorem bump_le_of_le {n : Nat} (h : n ≤ countMax) : bump n ≤ countMax := by
  unfold bump; split <;> omega

theorem le_bump (n : Nat) : n ≤ bump n := by unfold bump; split <;> omega

theorem bump_of_lt {n : Nat} (h : n < countMax) : bump n = n + 1 := if_pos h

theorem bumpBy_le_of_le {n k : Nat} (h : n ≤ countMax) : bumpBy n k ≤ countMax := by
  unfold bumpBy; split <;> omega

namespace Machine

theorem clampNat_mem {lo hi : Nat} (h : lo ≤ hi) (v : Nat) :
    lo ≤ clampNat lo hi v ∧ clampNat lo hi v ≤ hi := by unfold clampNat; omega

theorem clampNat_of_mem {lo hi v : Nat} (h : lo ≤ v) (h' : v ≤ hi) : clampNat lo hi v = v := by
  unfold clampNat; omega

theorem clampInt_mem {lo hi : Int} (h : lo ≤ hi) (v : Int) :
    lo ≤ clampInt lo hi v ∧ clampInt lo hi v ≤ hi := by unfold clampInt; omega

/-! ## Events and outcomes -/

/-- An event queue never exceeds 32 records (R173). -/
theorem Ctrl.offer_queue_le {c : Ctrl} (e : Event) (h : c.queue.length ≤ 32) :
    (c.offer e).queue.length ≤ 32 := by
  unfold Ctrl.offer Config.eventRecords
  split <;> simp <;> omega

/-- Taking an event changes the queue and its losses alone (R173). -/
theorem Ctrl.offer_frame (c : Ctrl) (e : Event) :
    c.offer e = { c with
      queue := (c.offer e).queue, lost := (c.offer e).lost, lostCount := (c.offer e).lostCount } := by
  unfold Ctrl.offer; split <;> rfl

/-- An event taken stands in the queue, or the queue has lost one (R173). -/
theorem Ctrl.offer_reported (c : Ctrl) (e : Event) : e ∈ (c.offer e).queue ∨ (c.offer e).lost = true := by
  unfold Ctrl.offer; split <;> simp

/-- A fault changes the fault records and the event queues alone (R174). -/
theorem State.recordFault_frame (s : State) (kind : FaultKind) (subject : Option BundleId)
    (detail : Nat) :
    s.recordFault kind subject detail = { s with
      faults := s.faults.add ⟨kind, subject, s.eventTime, detail⟩
      ctrls := (s.recordFault kind subject detail).ctrls } := rfl

/-- The fault count stays at most 255 (R174). -/
theorem Faults.add_count_le {f : Faults} (r : FaultRecord) (h : f.count ≤ 255) :
    (f.add r).count ≤ 255 := by
  unfold Faults.add; simp only; split <;> omega

/-- An outcome changes the control ports alone (R165). -/
theorem State.decide_frame (s : State) (cp : CtrlPort) (kind : Nat) (status : Status)
    (content : List Byte) :
    s.decide cp kind status content =
      { s with ctrls := (s.decide cp kind status content).ctrls } := rfl

/-- A timer is due exactly when it runs and its expiry has come (log entry 13). -/
theorem State.due_iff (s : State) (t : Timer) : s.due t = true ↔ ∃ e, t = some e ∧ e ≤ s.now := by
  cases t <;> simp [State.due]

/-- A stopped timer is never due. -/
@[simp] theorem State.due_none (s : State) : s.due none = false := rfl

/-- A timer started now for at least one tick is not due: a restart puts an expiry off (R130, R172). -/
theorem State.due_afterTicks (s : State) {ticks : Nat} (h : 1 ≤ ticks) :
    s.due (s.afterTicks ticks) = false := by
  simp [State.due, State.afterTicks]; omega

/-- A request that no warm reset has abandoned, or that its port has handed over anew, is carried out
(R165, R177). -/
theorem State.handOver_of_carried {s : State} {cp : CtrlPort} {i : Instr} (work : State → State)
    (h : i ∉ (s.ctrl cp).abandoned ∨ (s.ctrl cp).handed = some i) : s.handOver cp i work = work s := by
  rcases h with h | h <;> simp [State.handOver, h]

/-- A request that a warm reset has abandoned takes its mark away and changes nothing else (R177). -/
theorem State.handOver_of_mem {s : State} {cp : CtrlPort} {i : Instr} (work : State → State)
    (h : i ∈ (s.ctrl cp).abandoned) (hn : (s.ctrl cp).handed ≠ some i) :
    s.handOver cp i work = s.modCtrl cp fun c => { c with abandoned := c.abandoned.erase i } := by
  simp [State.handOver, h, hn]

/-- What a port has handed over is the command of the request it is working on, not yet decided. -/
theorem Ctrl.handed_eq_some_iff (c : Ctrl) (i : Instr) :
    c.handed = some i ↔ (∃ kind, c.transfer = .working ⟨kind, some i⟩) ∧ c.outcome = none := by
  unfold Ctrl.handed
  split
  · rename_i job h1 h2
    obtain ⟨k, cmd⟩ := job
    simp only [h1, h2, and_true, Transfer.working.injEq, Job.mk.injEq]
    constructor
    · intro h; exact ⟨k, rfl, h⟩
    · rintro ⟨_, _, h⟩; exact h
  · rename_i h
    simp only [reduceCtorEq, false_iff, not_and, forall_exists_index]
    intro k hk ho
    exact h _ hk ho

/-- A refused response carries as many bytes as its kind's content (R181). -/
theorem refusedContent_length {kind n : Nat} (h : contentLength kind = some n) :
    (refusedContent kind).length = n := by simp [refusedContent, h]

/-! ## Response reads (R167, R177) -/

/-- A run of bytes with 0xFF beyond its end, byte by byte. -/
theorem getElem?_clocked (bs : List Byte) {n i : Nat} (h : i < n) :
    (clocked bs n)[i]? = some (bs.getD i 0xFF) := by
  simp only [clocked, List.getElem?_append, List.length_take, List.getElem?_take,
    List.getElem?_replicate, List.getD_eq_getElem?_getD]
  split <;> rename_i hi
  · have : i < bs.length := by omega
    simp [this]
  · have : bs.length ≤ i := by omega
    simp [List.getElem?_eq_none this]
    omega

@[simp] theorem length_clocked (bs : List Byte) (n : Nat) : (clocked bs n).length = n := by
  simp [clocked]; omega

/-- The next bytes of a read are as many as are clocked out. -/
@[simp] theorem Ctrl.length_readBytes (c : Ctrl) (n : Nat) : (c.readBytes n).length = n := by
  simp [Ctrl.readBytes]

/-- The bytes of a read follow on from those sent (R167). -/
theorem Ctrl.getElem?_readBytes (c : Ctrl) {n i : Nat} (h : i < n) :
    (c.readBytes n)[i]? = some (c.readOut.getD (c.openRead.sent + i) 0xFF) := by
  rw [Ctrl.readBytes, List.getElem?_drop, getElem?_clocked _ (by omega)]

/-- A read that a warm reset has cut gives 0xFF and leaves the transfer state (R177). -/
theorem Ctrl.read_of_cut {c : Ctrl} (n : Nat) (ends : Bool) (h : c.openRead.cut = true) :
    c.readBytes n = List.replicate n 0xFF ∧ (c.read n ends).transfer = c.transfer := by
  constructor
  · simp [Ctrl.readBytes, Ctrl.readOut, h, clocked]
  · simp [Ctrl.read, Ctrl.completes, Ctrl.delivered, h]

/-! ## Steering -/

/-- An abandoned interval keeps the integrator and the offset, and holds no samples (R162). -/
theorem Steering.abandon_spec (x : Steering) :
    x.abandon.integrator = x.integrator ∧ x.abandon.offset = x.offset ∧ x.abandon.samples = 0 := by
  unfold Steering.abandon; split <;> simp_all

theorem State.trib_abandonSteering (s : State) (b : BundleId) (p : TribId) :
    (s.abandonSteering b).trib p =
      if (s.trib p).cfg.clock = .steered b then
        { s.trib p with steer := (s.trib p).steer.abandon }
      else s.trib p := by
  unfold State.trib State.abandonSteering
  exact Vector.getElem_map ..

/-! ## The frame of the operations on one bundle -/

/-- Of a bundle, what no operation below changes. -/
structure SameTable (x y : Bundle) : Prop where
  active : y.active = x.active
  pending : y.pending = x.pending
  armed : y.armed = x.armed
  check : y.check = x.check
  recordFault : y.recordFault = x.recordFault
  ringSize : y.ringSize = x.ringSize
  assembly : y.assembly = x.assembly
  delivery : y.delivery = x.delivery
  ringLength : y.playout.ring.length = x.playout.ring.length

theorem SameTable.refl (x : Bundle) : SameTable x x := ⟨rfl, rfl, rfl, rfl, rfl, rfl, rfl, rfl, rfl⟩

theorem SameTable.trans {x y z : Bundle} (h : SameTable x y) (k : SameTable y z) : SameTable x z :=
  ⟨k.active.trans h.active, k.pending.trans h.pending, k.armed.trans h.armed,
    k.check.trans h.check, k.recordFault.trans h.recordFault, k.ringSize.trans h.ringSize,
    k.assembly.trans h.assembly, k.delivery.trans h.delivery, k.ringLength.trans h.ringLength⟩

/-- Between `s` and `t` nothing changes but bundle `b`, outside its `SameTable` part, the steering
intervals and the control ports. -/
structure Local (b : BundleId) (s t : State) : Prop where
  rest : t = { s with bundles := t.bundles, tribs := t.tribs, ctrls := t.ctrls }
  others : ∀ c, c ≠ b → t.bun c = s.bun c
  tribs : ∀ p, t.trib p = { s.trib p with steer := (t.trib p).steer }
  table : SameTable (s.bun b) (t.bun b)

theorem Local.refl (b : BundleId) (s : State) : Local b s s :=
  ⟨rfl, fun _ _ => rfl, fun _ => rfl, .refl _⟩

theorem Local.trans {b : BundleId} {s t u : State} (h : Local b s t) (k : Local b t u) :
    Local b s u where
  rest := by rw [k.rest, h.rest]
  others c hc := (k.others c hc).trans (h.others c hc)
  tribs p := by rw [k.tribs p, h.tribs p]
  table := h.table.trans k.table

theorem Local.ite {b : BundleId} {s t u : State} {c : Prop} [Decidable c] (h : Local b s t)
    (k : Local b s u) : Local b s (if c then t else u) := by split <;> assumption

theorem Local.modBun (s : State) (b : BundleId) (f : Bundle → Bundle)
    (h : SameTable (s.bun b) (f (s.bun b))) : Local b s (s.modBun b f) :=
  ⟨rfl, fun _ hc => State.bun_modBun_ne s f hc, fun _ => rfl, by simpa using h⟩

theorem Local.modDelay (s : State) (b : BundleId) (f : Delay → Delay) : Local b s (s.modDelay b f) :=
  .modBun s b _ ⟨rfl, rfl, rfl, rfl, rfl, rfl, rfl, rfl, rfl⟩

theorem Local.modSupervisor (s : State) (b : BundleId) (f : Supervisor → Supervisor) :
    Local b s (s.modSupervisor b f) :=
  .modBun s b _ ⟨rfl, rfl, rfl, rfl, rfl, rfl, rfl, rfl, rfl⟩

theorem Local.modSelector (s : State) (b : BundleId) (f : Selector → Selector) :
    Local b s (s.modSelector b f) := .modSupervisor s b _

theorem Local.modPlayout (s : State) (b : BundleId) (f : Playout → Playout)
    (h : (f (s.bun b).playout).ring.length = (s.bun b).playout.ring.length) :
    Local b s (s.modPlayout b f) :=
  .modBun s b _ ⟨rfl, rfl, rfl, rfl, rfl, rfl, rfl, rfl, h⟩

theorem Local.post (s : State) (b : BundleId) (kind : EventKind) (subject : Subject) (detail : Nat) :
    Local b s (s.post kind subject detail) :=
  ⟨rfl, fun _ _ => rfl, fun _ => rfl, .refl _⟩

theorem Local.postIf (s : State) (b : BundleId) (cond : Bool) (kind : EventKind) (subject : Subject)
    (detail : Nat) : Local b s (s.postIf cond kind subject detail) := by
  unfold State.postIf; exact .ite (.post ..) (.refl ..)

theorem Local.abandonSteering (s : State) (b c : BundleId) : Local b s (s.abandonSteering c) where
  rest := rfl
  others _ _ := rfl
  tribs p := by rw [State.trib_abandonSteering]; split <;> rfl
  table := .refl _

/-! ## The delay unit's operations (chapter 6) -/

theorem Local.startAdjust (s : State) (b : BundleId) (target : Nat) :
    Local b s (s.startAdjust b target) := by
  unfold State.startAdjust
  simp only
  split
  · exact ((Local.modPlayout s b _ rfl).trans (.abandonSteering _ b b)).trans (.post ..)
  · exact (Local.modPlayout s b _ rfl).trans (.post ..)

theorem Local.adoptPlaying (s : State) (b : BundleId) (target : Nat) :
    Local b s (s.adoptPlaying b target) := (Local.modDelay s b _).trans (.startAdjust ..)

theorem Local.propose (s : State) (b : BundleId) (proposed : Option Nat) (shown : Nat) :
    Local b s (s.propose b proposed shown) := (Local.modDelay s b _).trans (.post ..)

theorem Local.settlePlaying (s : State) (b : BundleId) (r : Record) (target : Nat) :
    Local b s (s.settlePlaying b r target) := by
  unfold State.settlePlaying
  simp only
  split
  · split
    · exact .adoptPlaying ..
    · exact .ite (.refl ..) (.propose ..)
  · split
    · exact .propose ..
    · exact .refl ..

theorem Local.setEqualiseFlags (s : State) (b : BundleId) (c : Computation) :
    Local b s (s.setEqualiseFlags b c) :=
  ((Local.modDelay s b _).trans (.postIf ..)).trans (.postIf ..)

theorem Local.endEstimateWait (s : State) (b : BundleId) (found : Bool) :
    Local b s (s.endEstimateWait b found) := by
  unfold State.endEstimateWait; exact .ite (.modPlayout _ _ _ rfl) (.refl ..)

/-- A target computation is local to its bundle (R124). -/
theorem Local.computeTarget (s : State) (b : BundleId) : Local b s (s.computeTarget b) := by
  unfold State.computeTarget
  simp only
  split
  · exact .refl ..
  · rename_i r _
    refine .trans (.trans (.setEqualiseFlags s b ((s.bun b).computation r))
      (.endEstimateWait _ b ((s.bun b).computation r).found)) ?_
    split
    · exact .settlePlaying ..
    all_goals first | exact .modDelay .. | exact .refl ..

theorem Local.restartAlert (s : State) (b : BundleId) (r : Record) :
    Local b s (s.restartAlert b r) := .modDelay ..

/-- A round-trip sample is local to its bundle (R113 to R117). -/
theorem Local.takeSample (s : State) (b : BundleId) (r : Record) (p : Path) (rtt : Nat) :
    Local b s (s.takeSample b r p rtt) := by
  unfold State.takeSample
  simp only
  split
  · refine .trans ?_ (.computeTarget ..)
    split
    · exact ((Local.modDelay ..).trans (.post ..)).trans (.restartAlert ..)
    · exact .modDelay ..
  · exact .modDelay ..

/-! ## Emptying the ring and changing state (R35, R39, R83) -/

/-- Emptying a ring keeps its size and leaves the rest of its bundle alone (R83). -/
theorem State.bun_emptyRing (s : State) (b : BundleId) :
    (s.emptyRing b).bun b = { s.bun b with playout := (s.bun b).playout.emptied } := by
  have h : (s.postAbandoned b).bun b = s.bun b := by
    unfold State.postAbandoned State.postIf; split <;> rfl
  simp [State.emptyRing, State.modPlayout, h]

theorem Local.emptyRing (s : State) (b : BundleId) : Local b s (s.emptyRing b) := by
  refine (Local.postIf s b _ _ _ _).trans (.modPlayout _ _ _ ?_)
  simp [Playout.emptied]

theorem Local.changeState (s : State) (b : BundleId) (new : BState) (cause : StateCause) :
    Local b s (s.changeState b new cause) := by
  unfold State.changeState State.postBundleState
  have h := Local.modBun s b (fun x => { x with state := new })
    ⟨rfl, rfl, rfl, rfl, rfl, rfl, rfl, rfl, rfl⟩
  refine .trans ?_ (.post ..)
  split
  · exact h.trans (.abandonSteering ..)
  · exact h

theorem State.bun_changeState (s : State) (b : BundleId) (new : BState) (cause : StateCause) :
    (s.changeState b new cause).bun b = { s.bun b with state := new } := by
  have h : ∀ u : State, (u.abandonSteering b).bun b = u.bun b := fun _ => rfl
  have k : ∀ (u : State) kind subject detail, (u.post kind subject detail).bun b = u.bun b :=
    fun _ _ _ _ => rfl
  unfold State.changeState State.postBundleState
  simp only [k]
  split <;> simp [h]

theorem Local.fallBack (s : State) (b : BundleId) (new : BState) (cause : StateCause) :
    Local b s (s.fallBack b new cause) := by
  unfold State.fallBack
  simp only
  split
  · exact ((Local.changeState ..).trans (.modDelay ..)).trans (.computeTarget ..)
  · exact .changeState ..

/-! ## The path supervisor's operations (chapter 7) -/

theorem Local.reportDown (s : State) (b : BundleId) : Local b s (s.reportDown b) := by
  unfold State.reportDown
  exact .ite ((Local.emptyRing ..).trans (.fallBack ..)) (.refl ..)

theorem Local.pathSwitch (s : State) (b : BundleId) (r : Record) (p : Path) (cause : SwitchCause) :
    Local b s (s.pathSwitch b r p cause) :=
  (((Local.modSelector s b _).trans (.post ..)).trans (.restartAlert ..)).trans (.computeTarget ..)

theorem Local.examine (s : State) (b : BundleId) (r : Record) (e : Expired) :
    Local b s (s.examine b r e) := by
  unfold State.examine
  split
  · exact .modSelector ..
  · exact .modSelector ..
  · exact .modSelector ..
  · exact .pathSwitch ..

theorem Local.setMismatch (s : State) (b : BundleId) (flag : Bool) :
    Local b s (s.setMismatch b flag) := by
  unfold State.setMismatch
  exact .ite (.refl ..) ((Local.modSelector ..).trans (.post ..))

theorem Local.updateMismatch (s : State) (b : BundleId) (r : Record) :
    Local b s (s.updateMismatch b r) := (Local.modSelector s b _).trans (.setMismatch ..)

/-- An evaluation of the selector is local to its bundle (R140). -/
theorem Local.evaluateSelector (s : State) (b : BundleId) (e : Expired) :
    Local b s (s.evaluateSelector b e) := by
  unfold State.evaluateSelector
  simp only
  split
  · exact .refl ..
  · refine .ite (.trans ?_ (.updateMismatch ..)) (.refl ..)
    split
    · exact .examine ..
    · exact (Local.examine ..).trans (.examine ..)

/-- A change of the announcement is local to its bundle (R146). -/
theorem Local.hearAnnouncement (s : State) (b : BundleId) : Local b s (s.hearAnnouncement b) := by
  unfold State.hearAnnouncement
  simp only
  split
  · exact .refl ..
  · exact .ite (.updateMismatch ..) (.refl ..)

/-- A change of the supervisor's record is local to its bundle (R137, R138, R140). -/
theorem Local.supervise (s : State) (b : BundleId) (r : Record) (new : Supervisor) :
    Local b s (s.supervise b r new) := by
  have h := Local.modBun s b (fun x => { x with supervisor := new })
    ⟨rfl, rfl, rfl, rfl, rfl, rfl, rfl, rfl, rfl⟩
  exact .ite (.trans (.ite (.trans (.ite (h.trans (.reportDown ..)) h) (.hearAnnouncement ..))
      (.ite (h.trans (.reportDown ..)) h)) (.evaluateSelector ..))
    (.ite (.trans (.ite (h.trans (.reportDown ..)) h) (.hearAnnouncement ..))
      (.ite (h.trans (.reportDown ..)) h))

/-- The supervisor's part of an accepted packet is local to its bundle (R134, R139). -/
theorem Local.acceptOnPath (s : State) (b : BundleId) (r : Record) (p : Path) (fault : Bool)
    (playing : PlayingPath) : Local b s (s.acceptOnPath b r p fault playing) := by
  unfold State.acceptOnPath
  simp only
  refine (Local.ite (.changeState ..) (.refl ..)).trans ((Local.postIf ..).trans (.supervise ..))

/-! ## The ring's operations (chapter 5) -/

@[simp] theorem Playout.length_setSlot (p : Playout) (q : Seq) (x : Option RingSlot) :
    (p.setSlot q x).ring.length = p.ring.length := by simp [Playout.setSlot]

@[simp] theorem Playout.length_advance (p : Playout) (h : Seq) :
    (p.advance h).1.ring.length = p.ring.length := by
  unfold Playout.advance; simp only; split <;> simp

/-- Passing heads over keeps the ring's size (R91). -/
theorem Playout.length_slipUntil (stop : Playout → Bool) (fuel : Nat) (p : Playout) :
    (p.slipUntil stop fuel).1.ring.length = p.ring.length := by
  induction fuel generalizing p with
  | zero => rfl
  | succ n ih =>
    unfold Playout.slipUntil
    split
    · rfl
    · split
      · rfl
      · simp [ih]

/-- A packet held is one the ring holds under its own sequence (R85). -/
theorem Playout.slotFor_eq_some {p : Playout} {q : Seq} {x : RingSlot} (h : p.slotFor q = some x) :
    x.seq = q ∧ p.ring[q.toNat % p.ring.length]? = some (some x) := by
  unfold Playout.slotFor at h
  split at h
  · split at h
    · cases h; exact ⟨‹_›, ‹_›⟩
    · cases h
  · cases h

/-- The fill of an empty ring is 0 (R90). -/
theorem Playout.fill_emptied (p : Playout) (fpp : Nat) : p.emptied.fill fpp = 0 := rfl

theorem Local.modPlay (s : State) (b : BundleId) (f : PlayCounters → PlayCounters) :
    Local b s (s.modPlay b f) := .modPlayout _ _ _ rfl

theorem Local.overflowTest (s : State) (b : BundleId) (r : Record) (q : Seq) :
    Local b s (s.overflowTest b r q) := by
  unfold State.overflowTest
  simp only
  split
  · exact .refl ..
  · refine .trans (.modPlayout _ _ _ ?_) (.post ..)
    exact Playout.length_slipUntil ..

theorem Local.store (s : State) (b : BundleId) (r : Record) (k : Packet) :
    Local b s (s.store b r k) := by
  unfold State.store
  simp only
  have h : Local b s (s.modPlayout b fun p => p.put k) := .modPlayout _ _ _ (by simp [Playout.put])
  refine .trans ?_ (.overflowTest ..)
  split
  · refine h.trans ?_
    unfold State.endPacketWait
    simp only
    split <;> exact .modPlayout _ _ _ rfl
  · exact h

theorem Local.early (s : State) (b : BundleId) (q : Seq) : Local b s (s.early b q) := by
  unfold State.early
  simp only
  split
  · unfold State.resync
    simp only
    have h := (((Local.modPlay s b fun c => { c with early := bump c.early }).trans
      (.emptyRing _ b)).trans (.modPlay _ b fun c => { c with resyncs := bump c.resyncs }))
    split
    · exact (h.trans (.post ..)).trans (.fallBack ..)
    · exact h.trans (.post ..)
  · exact (Local.modPlay ..).trans (.modPlayout _ _ _ rfl)

/-- A packet that reaches the store is placed within its bundle (R84 to R88). -/
theorem Local.place (s : State) (b : BundleId) (r : Record) (k : Packet) :
    Local b s (s.place b r k) := by
  unfold State.place
  simp only
  split
  · exact .modPlay ..
  · split
    · exact .modPlay ..
    · exact .modPlay ..
    · exact .modPlay ..
    · exact .early ..
    · exact .store ..

/-- An accepted packet is local to its bundle (R78). -/
theorem Local.accept (s : State) (b : BundleId) (k : Packet) : Local b s (s.accept b k) := by
  unfold State.accept
  split
  · exact .refl ..
  · refine .trans (.trans ?_ (.acceptOnPath ..)) (.place ..)
    unfold State.measure
    simp only
    split
    · exact (Local.modDelay ..).trans (.takeSample ..)
    · exact (Local.modDelay ..).trans (.modDelay ..)

/-! ## The timing unit's operations (chapter 8) -/

/-- An evaluation of the selector ends in the state it decides (R153). -/
theorem State.evaluateTiming_state (s : State) : s.evaluateTiming.timing.state = s.timing.decided := by
  unfold State.evaluateTiming
  simp only
  split
  · exact Eq.symm ‹_›
  · rfl

/-- An evaluation of the selector changes the timing unit and the control ports alone (R153). -/
theorem State.evaluateTiming_frame (s : State) :
    s.evaluateTiming =
      { s with timing := s.evaluateTiming.timing, ctrls := s.evaluateTiming.ctrls } := by
  unfold State.evaluateTiming
  simp only
  split <;> rfl

/-- A candidate's change leaves everything but the timing unit and the control ports (R152). -/
theorem State.setCandidate_frame (s : State) (c : Candidate) (new : CandidateRecord) :
    s.setCandidate c new =
      { s with timing := (s.setCandidate c new).timing, ctrls := (s.setCandidate c new).ctrls } := by
  unfold State.setCandidate
  simp only
  split
  · rfl
  · rw [State.evaluateTiming_frame]; rfl

/-! ## The tributary line unit's operations (chapter 1) -/

/-- A change of receive state leaves everything but the ports, the timing unit and the control ports
(R11). -/
theorem State.setRx_frame (s : State) (p : TribId) (new : RxState) :
    s.setRx p new = { s with
      tribs := (s.setRx p new).tribs
      timing := (s.setRx p new).timing
      ctrls := (s.setRx p new).ctrls } := by
  unfold State.setRx
  simp only
  split
  · rfl
  · unfold State.setValidity
    simp only
    split
    · rfl
    · rw [State.setCandidate_frame]; rfl

/-- Clearing remote alarm in leaves everything but the ports and the control ports (R10). -/
theorem State.clearRemoteAlarm_frame (s : State) (p : TribId) :
    s.clearRemoteAlarm p = { s with
      tribs := (s.clearRemoteAlarm p).tribs, ctrls := (s.clearRemoteAlarm p).ctrls } := by
  unfold State.clearRemoteAlarm State.postIf
  simp only
  split <;> rfl

end Machine

end Sys2Proof
end

