-- ==== Sys2Proof/Tests/Slice0.lean ====
section
/-!
SUPPORT. Tests: the WellFormed smoke tests, the manual's worked examples, and for each statement with
hypotheses a concrete state and operands that meet them. Expected results are the manual's, or worked by
hand from its rules; each test names their source.
-/

namespace Sys2Proof.Tests

/- One theorem after the other: a kernel evaluation that waits for those before it holds a thread and its
stack, and the file has many. -/
set_option Elab.async false

open Sys2Proof.Machine Sys2Proof.Safety

/-! ## WellFormed: one ill-formed command for each check -/

/-- A record that 49 bytes carry. -/
def goodRecord : RawRecord := Record.default.raw

theorem test_wf_accepts_a_record : (Instr.writePending .cp1 0 goodRecord).wf = true := by decide

/-- R181: the numbers of a record are one and two byte fields. -/
theorem test_wf_refuses_each_field_of_a_record :
    ([{ goodRecord with port := 256 }, { goodRecord with slots := .list [2, 1] },
      { goodRecord with slots := .list [32] }, { goodRecord with slots := .list [1, 1] },
      { goodRecord with fpp := 256 }, { goodRecord with txLabel := 65536 },
      { goodRecord with rxLabel := 65536 }, { goodRecord with pathMode := 256 },
      { goodRecord with portMap := 256 }, { goodRecord with maxDepth := 65536 },
      { goodRecord with tag := some ⟨8, 1⟩ }, { goodRecord with tag := some ⟨0, 4096⟩ },
      { goodRecord with pclass := 256 }, { goodRecord with delayMode := 256 },
      { goodRecord with targetDepth := 65536 }, { goodRecord with targetDelay := 65536 },
      { goodRecord with initialDepth := 65536 }, { goodRecord with eqApply := 256 },
      { goodRecord with deadband := 256 }, { goodRecord with pace := 256 },
      { goodRecord with substitution := 256 }, { goodRecord with shiftK := 256 },
      { goodRecord with stepThreshold := 65536 }, { goodRecord with stepCount := 256 },
      { goodRecord with alertHold := 256 }, { goodRecord with lossTime := 256 },
      { goodRecord with holdOff := 256 }, { goodRecord with waitRestore := 65536 },
      { goodRecord with primary := 256 }, { goodRecord with authority := 256 }].all
        fun r => !r.wf) = true := by decide

/-- R181: a request's numbers are one byte each but where a two byte field stands. -/
theorem test_wf_refuses_numbers_that_do_not_fit :
    ([.transferIgnored .cp1 0x5A 3, .transferIgnored .cp1 0xA5 3,
      .writeSettings .cp1 ⟨0, 0, 65536, 4⟩, .writeSettings .cp1 ⟨0, 0, 4, 256⟩,
      .openEdit .cp1 ⟨256, 0⟩, .openEdit .cp1 ⟨0, 256⟩, .closeEdit .cp1 ⟨256, 0⟩,
      .closeEdit .cp1 ⟨0, 256⟩, .readBundle .cp1 256 .active,
      .writePending .cp1 256 goodRecord, .activate .cp1 256, .start .cp1 256, .stop .cp1 256,
      .free .cp1 256, .readPlayout .cp1 256, .readDelay .cp1 256 1, .readDelay .cp1 0 256,
      .clearDelayExtremes .cp1 256 1,
      .clearDelayExtremes .cp1 0 256, .applyEqualisation .cp1 256, .readPath .cp1 256,
      .pathCommand .cp1 256 0 1,
      .pathCommand .cp1 0 256 1, .pathCommand .cp1 0 1 256, .listRemove .cp1 256 0,
      .listRemove .cp1 0 256, .listInsert .cp1 256 0 ⟨0, 0, 0, 0, none, true⟩,
      .listInsert .cp1 0 256 ⟨0, 0, 0, 0, none, true⟩,
      .listReplace .cp1 256 0 ⟨0, 0, 0, 0, none, true⟩,
      .listReplace .cp1 0 256 ⟨0, 0, 0, 0, none, true⟩, .listInsert .cp1 0 0 ⟨65536, 0, 0, 0, none, true⟩,
      .listReplace .cp1 0 0 ⟨0, 65536, 0, 0, none, true⟩,
      .listInsert .cp1 0 0 ⟨0, 0, 256, 0, none, true⟩,
      .listInsert .cp1 0 0 ⟨0, 0, 0, 256, none, true⟩,
      .listInsert .cp1 0 0 ⟨0, 0, 0, 0, some 256, true⟩, .listRead .cp1 256, .captureArm .cp1 256,
      .captureRead .cp1 256, .tribConfig .cp1 256 ⟨0, 0, 0, 0, 0, false, 6, 8⟩,
      .tribConfig .cp1 0 ⟨256, 0, 0, 0, 0, false, 6, 8⟩,
      .tribConfig .cp1 0 ⟨0, 256, 0, 0, 0, false, 6, 8⟩,
      .tribConfig .cp1 0 ⟨0, 0, 256, 0, 0, false, 6, 8⟩,
      .tribConfig .cp1 0 ⟨0, 0, 0, 0, 256, false, 6, 8⟩,
      .tribConfig .cp1 0 ⟨0, 0, 0, 0, 0, false, 256, 8⟩,
      .tribConfig .cp1 0 ⟨0, 0, 0, 0, 0, false, 6, 256⟩, .tribStatus .cp1 256,
      .portStatus .cp1 256, .timingConfig .cp1 (Vector.replicate 9 ⟨256, 10⟩),
      .timingConfig .cp1 (Vector.replicate 9 ⟨1, 65536⟩), .timingCommand .cp1 256 0,
      .timingCommand .cp1 0 256, .transmitFrameStart 0 [⟨0, 0, 512, 1⟩],
      .transmitFrameStart 0 [⟨0, 0, 0, 0⟩]].all fun i => !Instr.wf i) = true := by decide

/-! ## The manual's worked examples -/

/-- Table 11: ring size and max depth after activation. -/
theorem test_ring_sizes_of_table_11 :
    ([(1, 8), (8, 256), (4, 400), (25, 1000), (64, 4096), (1, 300), (16, 4096)].map fun x =>
      let y := sizeRing { Record.default with fpp := x.1, maxDepth := x.2 }
      (y.2, y.1.maxDepth)) =
      [(16, 8), (64, 256), (128, 400), (64, 1000), (128, 4096), (256, 254), (256, 4064)] := by
  decide

/-- R182: the image's CRC-16 over the nine ASCII digits 1 to 9 is 0x29B1. -/
theorem test_crc16_of_the_nine_digits :
    crc16 [0x31, 0x32, 0x33, 0x34, 0x35, 0x36, 0x37, 0x38, 0x39] = 0x29B1#16 := by decide +kernel

/-- The record of bundle B17 (6.4.1 and 6.12.1). -/
def b17 : Record :=
  { Record.default with
    pathMode := .single, fpp := 4, maxDepth := 400, delayMode := .equalised, targetDelay := 6000
    shiftK := 4, stepThreshold := 200, stepCount := 3 }

/-- Path 1 of B17 before the samples of Table 46. -/
def b17Path : DelayRecord :=
  { DelayRecord.zero with
    tracking := true, lastRtt := 1087500, baseline := 1087500, minimum := 1087500
    maximum := 1087500 }

/-- Table 46: baseline, step run and completed step after each of the six samples. -/
theorem test_samples_of_table_46 :
    ([1087900, 1087125, 1250000, 1250100, 1249900, 1250300].foldl
      (fun (x : DelayRecord × List (Nat × Nat × Bool)) rtt =>
        let y := x.1.sample b17 rtt
        (y.1, x.2 ++ [(y.1.baseline, y.1.stepRun, y.2)])) (b17Path, [])).2 =
      [(1087525, 0, false), (1087500, 0, false), (1097656, 1, false), (1107183, 2, false),
        (1249900, 0, true), (1249925, 0, false)] := by decide

/-- Table 49: estimate and raw depth for each baseline. -/
theorem test_targets_of_table_49 :
    ([1087525, 1087500, 1097656, 1107183, 1249900, 1249925].map fun x =>
      (oneWay x, (computation b17 128 (some (oneWay x))).raw)) =
      [(4350, 13), (4350, 13), (4390, 12), (4428, 12), (4999, 8), (4999, 8)] := by decide

/-- 6.3.1: a sample across the wrap is 958,000 ticks; the second one is implausible. -/
theorem test_round_trip_across_the_wrap :
    roundTrip 3000 4294000000 12296 = 958000 ∧ roundTrip 5000000 6000000 10000 = 4293957296 ∧
      plausible 4293957296 = false := by decide

/-- Table 62: integrator and offset after each completed interval of T4. -/
theorem test_steering_of_table_62 :
    ([40960, 32768, -8192, 0].foldl
      (fun (x : Steering × List (Int × Int)) (total : Int) =>
        let y := { x.1 with sum := total, samples := 8192 }.finish 11 14
        (y, x.2 ++ [(y.integrator, y.offset)])) (Steering.zero, [])).2 =
      [(2, 22), (4, 20), (3, -1), (3, 3)] := by decide

/-- 8.5.2: a port far from balance reaches both clamps, counted once. -/
theorem test_steering_clamps_of_8_5_2 :
    let y := { Steering.zero with integrator := 65500, sum := 2097152, samples := 8192 }.finish 11 14
    (y.integrator, y.offset, y.clamps) = (65536, 65536, 1) := by decide

/-- 3.3.1: the dwell of the West copy, across the wrap. -/
theorem test_echo_dwell_across_the_wrap :
    (Echo.mk 3500000 4294960000 true).dwell 5000 = some 12296 ∧
      (Echo.mk 2000000 1000000 true).dwell 1012500 = some 12500 := by decide

/-! ## States for the witnesses -/

/-- The part after an image load that found nothing, T0 FRAMED and ALIGNED, East UP, and CP1 holding B0,
T0, the East list, the timing section and the settings. -/
def base : State :=
  { State.reset with
    load := .absentNoAnswer
    now := 1000000
    tribs := State.reset.tribs.set 0
      { Trib.default with cfg := { TribConfig.default with kind := .framed }, rx := .aligned }
    nets := ⟨{ Net.default with up := true, indication := true }, Net.default⟩
    claims := ⟨(Vector.replicate 64 none).set 0 (some .cp1), (Vector.replicate 8 none).set 0 (some .cp1),
      ⟨some .cp1, none⟩, some .cp1, some .cp1⟩ }

/-- A record on T0, slots 1 and 2, FPP 2. -/
def rec0 : Record :=
  { Record.default with slots := .list [1, 2], fpp := 2, maxDepth := 8, targetDepth := 4 }

/-- A bundle in state `st` with record `r` and a ring of 16 slots. -/
def bundle (st : BState) (r : Record) : Bundle :=
  { Bundle.freed .zero with
    active := some r
    pending := r
    state := st
    ringSize := 16
    playout := .fresh 16
    delay := { Delay.zero with target := 4 }
    supervisor := .zero .p1 }

/-- `base` with B0 as given. -/
def withB0 (x : Bundle) : State := base.modBun 0 fun _ => x

/-- `base` with B0 in state `st` with record `r`. -/
def at0 (st : BState) (r : Record) : State := withB0 (bundle st r)

/-- `base` with control port 1 changed. -/
def withCp1 (f : Ctrl → Ctrl) : State := base.modCtrl .cp1 f

/-- `base` with port T0 changed. -/
def withT0 (f : Trib → Trib) : State := base.modTrib 0 f

/-- `base` with the East port changed. -/
def withEast (f : Net → Net) : State := base.modNet .east f

/-- `base` with the STATION candidate as given. -/
def withStation (x : CandidateRecord) : State :=
  { base with timing := base.timing.setCandidate .station x }

/-- A running timer whose expiry has come, as the statements spell it. -/
theorem due_spelled (s : State) (x : Timer) : s.due x = true ↔ Due s x := State.due_iff s x

/-! ## Witnesses: steps, resets and invariants -/

/-- The state after a command. -/
def after (c : Instr) (s : State) : State :=
  match exec c s with
  | .next t => t
  | _ => s

/-- A playing bundle, with one command waiting. -/
def queued : State := { at0 .playing rec0 with pending := [.transmitFrameStart 0 []] }

theorem witness_StepRunsTheFrontCommandOrTicks :
    queued.pending = [.transmitFrameStart 0 []] ∧ base.pending = [] := by decide

theorem bun_at0 (st : BState) (r : Record) (b : BundleId) :
    (at0 st r).bun b = if b = 0 then bundle st r else Bundle.freed .zero := by
  unfold at0 withB0
  split
  · subst b; exact State.bun_modBun_self ..
  · rw [State.bun_modBun_ne _ _ ‹_›]; revert b; decide

theorem inForce_queued {b : BundleId} {r : Record} (h : InForce queued b r) : b = 0 ∧ r = rec0 := by
  have e : queued.bun b = (at0 .playing rec0).bun b := rfl
  unfold InForce at h
  rw [e, bun_at0] at h
  split at h
  · rcases h with h | h
    · exact ⟨‹_›, (Option.some.inj h).symm⟩
    · simp [bundle, Bundle.freed, Bundle.armedRecord] at h
  · rcases h with h | h <;> simp [Bundle.freed, Bundle.armedRecord] at h

theorem witness_step_answers_next : ∃ t, step queued = .next t := ⟨_, rfl⟩

/-- The hypotheses of EveryStepKeepsCapacities and of SavedImagePassesTheLoadChecks. -/
theorem witness_EveryStepKeepsCapacities : Bounded queued where
  queues cp := by unfold QueueBounded; cases cp <;> decide
  nets n := by unfold NetBounded; cases n <;> decide
  held := by decide
  tribs := by unfold TribBounded; decide
  faults := by decide
  bundleType := by decide
  idleLimit := by decide

/-- `queued` with counters, the start count, the EARLY run and a steering interval at their limits. -/
def brimming : State :=
  let s := queued.modPlayout 0 fun p => { p with
    startCount := 65535, earlyRun := 7, counters := { p.counters with late := 4294967295 } }
  s.modTrib 0 fun x => { x with signalLosses := 4294967295, steer := { x.steer with samples := 8192 } }

/-- The second hypothesis of EveryStepKeepsCapacities. -/
theorem witness_EveryStepKeepsCapacities_counters : CountersBounded brimming where
  ctrls cp := by unfold Counts; cases cp <;> decide
  hits n := by unfold Counts; cases n <;> decide
  rx n x h := by subst h; unfold Counts; cases n <;> decide
  tx n x h := by subst h; unfold Counts; cases n <;> decide
  tribs p x h := by subst h; unfold Counts; revert p; decide +kernel
  samples := by decide +kernel
  timing := by unfold Counts; decide +kernel
  assembly b x h := by subst h; unfold Counts; revert b; decide +kernel
  playout b x h := by subst h; unfold Counts; revert b; decide +kernel
  start := by decide +kernel
  early := by decide +kernel
  delay b p x h := by subst h; unfold Counts; revert b; cases p <;> decide +kernel
  paths b p x h := by subst h; unfold Counts; revert b; cases p <;> decide +kernel
  selector b x h := by subst h; unfold Counts; revert b; decide +kernel
  delivery b x h := by subst h; unfold Counts; revert b; decide +kernel

theorem witness_SavedImagePassesTheLoadChecks :
    (∀ b r, (queued.bun b).active = some r → r.raw.wf = true) ∧
      (∀ n, ∀ e ∈ (queued.net n).list, e.entry.raw.wf = true) ∧
      ∀ p ∈ queued.timing.raw.toList, p.wf = true := by
  refine ⟨fun b r h => ?_, fun n => by cases n <;> decide, by decide +kernel⟩
  rw [(inForce_queued (.inl h)).2]; decide

theorem witness_EveryStepKeepsTheBundleTable : TableSound queued where
  active := by decide
  pool := by decide

/-- The hypotheses of EveryStepKeepsTheRecordsInForce. -/
theorem witness_EveryStepKeepsTheRecordsInForce :
    (∀ c rest, queued.pending = c :: rest → Uncorrupted c) ∧ SlotsExclusive queued ∧
      KindsMatch queued ∧ PayloadSound queued ∧ ClaimsSound queued := by
  refine ⟨fun c rest h => ?_, fun b c q r hbc hq hr => ?_, fun b r h => ?_,
    ⟨?_, fun b r h => ?_, fun b r h => ?_⟩, ?_⟩
  · obtain ⟨rfl, -⟩ := List.cons.inj h; trivial
  · exact absurd ((inForce_queued hq).1.trans (inForce_queued hr).1.symm) hbc
  · rw [(inForce_queued h).2]; decide
  · unfold RecordSound; decide
  · rw [(inForce_queued h).2]; unfold RecordSound; decide
  · rw [(inForce_queued h).2]; decide
  · unfold ClaimsSound; decide

theorem ring_queued (b : BundleId) : (queued.bun b).playout.ring = List.replicate
    (queued.bun b).playout.ring.length none := by revert b; decide

theorem witness_EveryStepKeepsRingPlacement : RingsSound queued where
  ring b i x h := by
    rw [ring_queued, List.getElem?_replicate] at h
    split at h <;> simp at h
  size b := by
    have h : (queued.bun b).playout.ring.length = 0 ∨ (queued.bun b).playout.ring.length = 16 := by
      revert b; decide
    rcases h with h | h
    · exact .inl h
    · right; rw [h]; decide
  armed b n h := by
    have : ∀ b, (queued.bun b).armed = none := by decide
    simp [this b] at h

/-- A state that the lines' invariant holds of: `queued` with T0's candidate valid. -/
def lined : State :=
  { queued with
    timing := queued.timing.setCandidate (.trib 0)
      { CandidateRecord.default with valid := true, state := .available } }

theorem witness_EveryStepKeepsLines : LinesSound lined where
  legal := by decide
  alarm := by unfold AlarmClear; decide
  turn := by decide
  valid := by decide +kernel

theorem witness_EveryStepKeepsTheSelectorLock : TimingSound lined where
  lock c h := by
    have : lined.timing.state = .freeRun := rfl
    simp [this] at h
  ever c h := by
    have : lined.timing.state = .freeRun := rfl
    simp [this] at h
  unavailable c := by
    cases c with
    | station => decide +kernel
    | trib p => revert p; decide +kernel

theorem witness_EveryStepKeepsLinks : LinksSound queued := fun n => by
  cases n <;> exact ⟨by decide, by decide, by decide⟩

theorem witness_RequestFramesReadBack :
    (Instr.start .cp2 5).wf = true ∧ requestBytes (.start .cp2 5) = some (.cp2, 9, [5]) := by decide

/-! ## Witnesses: control ports, events and the stored image -/

/-- Port 1 working on a START. -/
def working : State := withCp1 fun c =>
  { c with transfer := .working ⟨9, some (.start .cp1 5)⟩, outcome := some ⟨9, .badState, []⟩ }

theorem witness_RequestWriteTakesDiscardsOrRefusesItsFrame :
    (working.ctrl .cp1).isWorking = true ∧ (base.ctrl .cp1).isWorking = false ∧
      readFrame (requestFrame 9 [5]) = .good 9 [5] ∧ paramLength 9 = some 1 ∧
      readFrame (requestFrame 40 []) = .good 40 [] ∧ paramLength 40 = none ∧
      readFrame (requestFrame 9 []) = .good 9 [] ∧ readFrame [9, 0, 1, 5] = .bad 9 ∧
      readFrame [9, 0, 1, 5, 0] = .bad 9 := by decide

/-- R165, R180: a good START frame makes the port WORKING on the command it spells. -/
theorem test_request_write_takes_a_good_frame :
    ((after (.requestWrite .cp1 [9, 0, 1, 5, 0x0D]) base).ctrl .cp1).transfer =
      .working ⟨9, some (.start .cp1 5)⟩ := by decide

/-- 9.1.1: a second request while the port is working is discarded with Overrun. -/
theorem test_request_write_while_working_is_an_overrun :
    let c := (after (.requestWrite .cp1 [9, 0, 1, 5, 0x0D]) working).ctrl .cp1
    (c.overrun, c.overruns, c.taken) = (true, 1, 0) := by decide

/-- Port 1 with a response ready. -/
def ready : State := withCp1 fun c => { c with transfer := .ready ⟨9, .ok, []⟩ true }

/-- Port 1 working on a START with an outcome of another kind, or with none. -/
def mismatched : State := withCp1 fun c =>
  { c with transfer := .working ⟨9, some (.start .cp1 5)⟩, outcome := some ⟨10, .ok, []⟩ }

theorem witness_ResponsesArePreparedAndRead :
    (working.ctrl .cp1).transfer = .working ⟨9, some (.start .cp1 5)⟩ ∧
      (working.ctrl .cp1).outcome = some ⟨9, .badState, []⟩ ∧
      (∀ job r, (mismatched.ctrl .cp1).transfer = .working job →
        (mismatched.ctrl .cp1).outcome = some r → r.kind ≠ job.kind) ∧
      (ready.ctrl .cp1).transfer = .ready ⟨9, .ok, []⟩ true ∧
      (∀ r overrun, (base.ctrl .cp1).transfer ≠ .ready r overrun) ∧ (0 : Byte) ≠ 0x5A := by
  refine ⟨by decide, by decide, fun job r h k => ?_, by decide, fun r o h => ?_, by decide⟩
  · cases h; cases k; decide
  · cases h

/-- R167, Table 72: prefix, kind, status, Overrun, length and check byte of a response read. -/
theorem test_response_read_gives_prefix_and_body :
    let c := (after (.responseRead .cp1 ⟨9, true⟩) ready).ctrl .cp1
    (c.dataOut, c.transfer, c.reading) = ([1, 0, 9, 0, 1, 0, 0, 8, 0xFF], .idle, none) := by decide

/-- `ready` with four bytes of the response read, select not released. -/
def halfRead : State := after (.responseRead .cp1 ⟨4, false⟩) ready

/-- R167: a read in pieces goes on where it was, and is complete with the check byte; released before it, it
leaves the response, which the next read gives from its prefix. -/
theorem test_response_read_in_pieces :
    (let c := (after (.responseRead .cp1 ⟨4, true⟩) halfRead).ctrl .cp1;
      (c.dataOut, c.transfer) = ([1, 0, 9, 0, 1, 0, 0, 8], .idle)) ∧
    (let c := (after (.responseRead .cp1 ⟨2, false⟩) (after (.responseRead .cp1 ⟨3, true⟩) halfRead)).ctrl .cp1;
      (c.dataOut, c.transfer, c.reading) =
        ([1, 0], (ready.ctrl .cp1).transfer, some ⟨2, true, false⟩)) := by decide

/-- R177: a warm reset sent by the other port cuts the read in progress. -/
theorem test_warm_reset_cuts_the_other_ports_read :
    let t := after (.responseRead .cp1 ⟨3, true⟩) (after (.warmReset .cp2) halfRead)
    ((t.ctrl .cp1).dataOut, (t.ctrl .cp1).transfer) = ([1, 0, 9, 0, 0xFF, 0xFF, 0xFF], .idle) := by
  decide +kernel

/-- R167: a response prepared during a read whose Ready was 0 is not delivered in it. -/
theorem test_a_later_response_is_not_delivered_in_the_read :
    let t := after (.responsePrepared .cp1) (after (.responseRead .cp1 ⟨1, false⟩) working)
    ((after (.responseRead .cp1 ⟨3, true⟩) t).ctrl .cp1).dataOut = [0, 0, 0xFF, 0xFF] := by decide

theorem witness_ResponsesArePreparedAndRead_pieces :
    (halfRead.ctrl .cp1).reading = some ⟨4, true, false⟩ ∧
      (halfRead.ctrl .cp1).transfer = .ready ⟨9, .ok, []⟩ true ∧
      (ready.ctrl .cp1).reading.getD ⟨0, false, false⟩ = ⟨0, false, false⟩ ∧
      ((after (.responseRead .cp1 ⟨1, false⟩) working).ctrl .cp1).reading = some ⟨1, false, false⟩ ∧
      ((after (.warmReset .cp2) halfRead).ctrl .cp1).reading = some ⟨4, true, true⟩ := by
  decide +kernel

theorem witness_ReadRequestsChangeNothingButTheirOutcome :
    Carried base .cp1 (.readBundle .cp1 63 .active) ∧
      reading (.readBundle .cp1 63 .active) = some (.cp1, 6, true) ∧
      reading (.readBundle .cp1 64 .active) = some (.cp1, 6, false) ∧
      Carried base .cp1 (.tribStatus .cp1 7) ∧ netOf 1 = some .west ∧
      Carried base .cp1 (.portStatus .cp1 1) ∧ Carried base .cp1 (.listRead .cp1 1) := by decide

theorem witness_ReadRequests_contents :
    Carried base .cp1 (.readIdentity .cp1) ∧ Carried base .cp1 (.readSettings .cp1) ∧
      Carried base .cp1 (.timingStatus .cp1) ∧ Carried base .cp1 (.readPlayout .cp1 63) ∧
      Carried base .cp1 (.readPath .cp1 63) ∧ Carried base .cp1 (.readDelay .cp1 63 Path.p2.code) ∧
      Carried base .cp1 (.captureRead .cp1 3) := by decide

/-- R108, R131, R149, R163, R170, R178: the lengths that the rules' fields have, no packet held. -/
theorem test_read_contents_have_their_lengths :
    [(settingsContent base).length, (delayContent queued 0 .p2).length, (pathContent queued 0).length,
      (timingContent base).length, (playoutContent queued 0).length] =
      [97, 79, 62, 395, 146] := by
  decide +kernel

/-- R181: every response of a fixed length has it, on a part with a playing bundle. -/
theorem test_content_lengths :
    [(queued.bundleBytes 0 .active).length, (queued.tribStatusBytes 0).length] = [62, 30] := by
  decide

theorem witness_RefusedRequestsChangeOnlyTheirOutcome :
    requestBytes (.start .cp1 64) = some (.cp1, 9, [64]) ∧ Carried base .cp1 (.start .cp1 64) ∧
      ((after (.start .cp1 64) base).ctrl .cp1).outcome.map (fun r => carriedOut r.status) =
        some false := by decide

theorem witness_LoadingRequestsWaitForTheImageLoad :
    requestBytes (.saveImage .cp1) = some (.cp1, 33, []) ∧ State.reset.load = .loading ∧
      markedLoading 33 = true ∧ requestBytes (.readSettings .cp1) = some (.cp1, 2, []) ∧
      markedLoading 2 = false ∧ base.load ≠ .loading ∧ Carried base .cp1 (.saveImage .cp1) ∧
      Carried State.reset .cp1 (.saveImage .cp1) ∧ Carried State.reset .cp1 (.readSettings .cp1) ∧
      12500000 ≤ ({ State.reset with now := 12500000 }).now := by
  decide

/-- R169: a marked request gets LOADING right after a full reset. -/
theorem test_save_image_while_loading :
    ((after (.saveImage .cp1) State.reset).ctrl .cp1).outcome = some ⟨33, .loading, []⟩ := by decide

theorem witness_WriteSettingsIsAppliedWhole :
    base.load ≠ .loading ∧ Carried base .cp1 (.writeSettings .cp1 ⟨5, 6, 0xFFFF, 61⟩) ∧
      base.holder .settings = some .cp1 ∧ base.holder .settings ≠ some .cp2 ∧
      (0x0600 ≤ 0x0600 ∧ 0x0600 ≤ 0xFFFF ∧ 0x0600 ≠ 0x8100) ∧ 0x05FF < 0x0600 := by decide

/-- R170: 61 s is clamped to 60. -/
theorem test_write_settings_clamps_the_idle_limit :
    let t := after (.writeSettings .cp1 ⟨5, 6, 0xFFFF, 61⟩) base
    (t.settings, (t.ctrl .cp1).outcome.map Response.status) = (⟨5, 6, 0xFFFF, 60⟩, some .clamped) := by
  decide

/-- `base` with an activation of B0 armed. -/
def armed0 : State := withB0 { bundle .playing rec0 with armed := some 16 }

theorem witness_OpenEditGrantsAndCloseEditReleases :
    base.load ≠ .loading ∧ Carried base .cp1 (.openEdit .cp1 ⟨0, 0⟩) ∧
      Carried base .cp1 (.closeEdit .cp1 ⟨0, 0⟩) ∧
      Carried base .cp2 (.openEdit .cp2 ⟨0, 0⟩) ∧ RawSection.typed ⟨0, 64⟩ = none ∧
      RawSection.typed ⟨0, 0⟩ = some (.bundle 0) ∧
      RawSection.typed ⟨4, 0⟩ = some .settings ∧
      base.holder (.bundle 0) = some CtrlPort.cp2.other ∧
      base.holder (.bundle 0) ≠ some CtrlPort.cp1.other ∧ base.holder (.bundle 0) ≠ some .cp2 ∧
      base.holder (.bundle 0) = some .cp1 ∧ (armed0.bun 0).armed.isSome = true ∧
      (base.bun 0).armed = none ∧ armed0.holder (.bundle 0) = some .cp1 := by decide

/-- `armed0` with the idle timer of port 1 running. -/
def idling : State := armed0.modCtrl .cp1 fun c => { c with idleTimer := some 5 }

theorem witness_IdleExpiryReleasesThePortsClaims :
    idling.due (idling.ctrl .cp1).idleTimer = true ∧ base.due (base.ctrl .cp1).idleTimer = false ∧
      (idling.afterSec 1 = some 126000000 ∧ idling.due (idling.afterSec 1) = false) := by decide

/-- 9.8.1: an armed activation keeps its claim, and the other claims of the port are released. -/
theorem test_idle_expiry_keeps_an_armed_claim :
    let t := after (.idleTimerExpiry .cp1) idling
    (t.holder (.bundle 0), t.holder (.trib 0), (t.ctrl .cp2).queue.map Event.detail) =
      (some .cp1, none, [4]) := by decide

/-- An event for filling a queue. -/
def filler : Event := ⟨.saveDone, .none, 0, 0⟩

theorem witness_EventsLeaveTheirQueueByReadEvents :
    let full := withCp1 fun c => { c with queue := List.replicate 32 filler }
    (base.ctrl .cp1).queue.length < 32 ∧ 32 ≤ (full.ctrl .cp1).queue.length ∧
      Carried full .cp1 (.readEvents .cp1) := by decide

/-- 9.5.1: a full queue with three events lost, read, holds 24 and EVENTS_LOST with detail 3. -/
theorem test_read_events_of_9_5_1 :
    let c := (after (.readEvents .cp1) (withCp1 fun c =>
      { c with queue := List.replicate 32 filler, lost := true, lostCount := 3 })).ctrl .cp1
    (c.queue.length, c.queue.getLast?.map fun e => (e.kind, e.detail), c.lost, c.lostCount) =
      (25, some (.eventsLost, 3), false, 0) := by decide

/-- `base` with a save of a two byte image in progress. -/
def saving : State := { base with save := some ⟨[1, 2], 0, 0, some 9⟩ }

theorem witness_SaveTakesASnapshotAndEnds :
    base.load ≠ .loading ∧ Carried base .cp1 (.saveImage .cp1) ∧ base.save = none ∧
      saving.save = some ⟨[1, 2], 0, 0, some 9⟩ ∧
      saving.due (some 9) = true ∧
      saving.due (some 1000001) = false ∧ saving.load ≠ .loading ∧ [1, 2, 3].take 2 = [1, 2] ∧
      [1].take 2 ≠ [1, 2] := by decide

theorem witness_ImageLoadEndsAbsentRejectedOrLoaded :
    base.load ≠ .loading ∧ State.reset.load = .loading ∧ State.reset.now < 12500000 ∧
      fieldAt [] 0 4 ≠ 0xC5A3B816 ∧
      checkImage [0xC5, 0xA3, 0xB8, 0x16, 2, 0, 0, 10, 0, 0] = .rejected .version ∧
      checkImage [0xC5, 0xA3, 0xB8, 0x16, 1, 0, 0, 9, 0, 0] = .rejected .length ∧
      checkImage [0xC5, 0xA3, 0xB8, 0x16, 1, 0, 0, 10, 0, 0] = .rejected .crc := by decide +kernel

/-- An image of no sections whose length field reads `n`. -/
def lengthOnly (n : Nat) : List Byte := [0xC5, 0xA3, 0xB8, 0x16, 1, 0] ++ bytesOf 2 n

theorem witness_ImageLoad_causes :
    fieldAt (lengthOnly 9) 6 2 = 9 ∧ fieldAt (lengthOnly 8193) 6 2 = 8193 ∧
      fieldAt (lengthOnly 10) 0 4 = 0xC5A3B816 ∧ byteAt (lengthOnly 10) 4 = 1 ∧
      byteAt ((lengthOnly 10).set 4 2) 4 ≠ 1 ∧
      (crc16 (((lengthOnly 10) ++ List.replicate 10 0xFF).take 8)).toNat ≠
        fieldAt ((lengthOnly 10 ++ List.replicate 10 0xFF).take 10) 8 2 := by decide +kernel

/-- A skipped section and then one cut off at its length, a bundle section without its count, and a whole
settings section: each sealed, its sections read from its bytes. -/
theorem witness_ImageLoad_sections_read :
    ([[9, 0, 1, 7] ++ [1, 0], [5, 0, 0], sectionBytes 1 base.settings.raw.bytes].map fun secs =>
      let bs := sealImage secs
      let n := fieldAt bs 6 2
      let body := (bs ++ List.replicate n 0xFF).take n
      decide ((crc16 (body.take (n - 2))).toNat = fieldAt body (n - 2) 2 ∧
        (body.take (n - 2)).drop 8 = secs ∧ byteAt bs 4 = 1 ∧ 10 ≤ n ∧ n ≤ 8192)) =
      [true, true, true] ∧
    ([9, 0, 1, 7] : List Byte) = [9] ++ bytesOf 2 1 ++ [7] ∧
    ([1, 0] : List Byte).length < 3 + fieldAt [1, 0] 1 2 ∧
    SectionShort (5, []) ∧ ¬ SectionShort (1, base.settings.raw.bytes) ∧
    SectionShort (1, base.settings.raw.bytes.dropLast) := by decide +kernel

theorem witness_ImageLoad_passes :
    ∃ bs, checkImage bs = .passed [] :=
  ⟨[0xC5, 0xA3, 0xB8, 0x16, 1, 0, 0, 10] ++
    bytesOf 2 (crc16 [0xC5, 0xA3, 0xB8, 0x16, 1, 0, 0, 10]).toNat, by decide +kernel⟩

/-- The sections of the settings, the timing configuration and the lists of `base`. -/
def sections0 : List Byte :=
  sectionBytes 1 base.settings.raw.bytes ++ sectionBytes 3 base.timingSection ++
    sectionBytes 4 base.listSection

/-- The configurations of `base` in the reverse of port order. -/
def sections1 : List Byte :=
  sectionBytes 2 (allTribs.reverse.flatMap fun t => bytesOf 1 t.val ++ (base.trib t).cfg.raw.bytes)

/-- `rec0` for B0. -/
def sections2 : List Byte := sectionBytes 5 (1 :: 0 :: rec0.raw.bytes)

/-- `base` with its image load running. -/
def loadingBase : State := { base with load := .loading }

/-- The sections that a passed image applies. -/
def sectionsOf : ImageCheck → List ImageSection
  | .passed xs => xs
  | _ => []

theorem witness_ImageLoad_sections :
    ((sectionsOf (checkImage (sealImage sections0))).map fun x =>
      match x with
      | .settings x => decide (x = base.settings.raw)
      | .timing _ m c => decide (timingModeOf m c = some .auto)
      | .lists east west => decide (east = [] ∧ west = [])
      | _ => false) = [true, true, true] := by
  rw [checkImage_sealImage (by decide +kernel)]
  decide +kernel

theorem witness_ImageLoad_tribs :
    (sectionsOf (checkImage (sealImage sections1))).map (fun x =>
      match x with
      | .tribs ys => ys.map Prod.fst
      | _ => []) = [[7, 6, 5, 4, 3, 2, 1, 0]] ∧
    (∀ b, (loadingBase.bun b).active = none ∧ (loadingBase.bun b).armed = none) := by
  rw [checkImage_sealImage (by decide +kernel)]
  exact ⟨by decide +kernel, by decide +kernel⟩

theorem witness_ImageLoad_lone_record :
    sectionsOf (checkImage (sealImage sections2)) =
      [.bundles [(0, rec0.raw)]] ∧ rec0.raw.stored = some (rec0, false) ∧
      (match loadingBase.validate 0 rec0 with
        | .ok x => some x.2
        | .error _ => none) = some 16 ∧
      (match State.reset.validate 0 rec0 with
        | .ok _ => none
        | .error status => some status) = some .badState := by
  rw [checkImage_sealImage (by decide +kernel)]
  decide +kernel

/-- R42, R176: the image's record loads against its framed port, and auto start being no it is STOPPED. -/
theorem test_image_load_applies_a_record :
    let t := after (.imageLoad (sealImage sections2)) loadingBase
    (t.load, (t.bun 0).active, (t.bun 0).state) = (.loaded 1 0, some rec0, .stopped) := by
  decide +kernel

/-- R42, R176: a record stored before the configuration of its port is applied after it, and loads. -/
theorem test_records_are_applied_after_the_ports :
    let t := State.reset.applyImage [.bundles [(0, rec0.raw)], .tribs [(0, (base.trib 0).cfg.raw)]]
    (t.load, (t.bun 0).active, (t.trib 0).cfg) = (.loaded 1 0, some rec0, (base.trib 0).cfg) := by
  decide +kernel

/-- An image of one record and the ports' configurations, stored in either order. -/
theorem witness_ImageLoad_exchanged_sections :
    sectionsOf (checkImage (sealImage (sections2 ++ sections1))) =
      [.bundles [(0, rec0.raw)], .tribs (allTribs.reverse.map fun t => (t.val, (base.trib t).cfg.raw))] ∧
    sectionsOf (checkImage (sealImage (sections1 ++ sections2))) =
      [.tribs (allTribs.reverse.map fun t => (t.val, (base.trib t).cfg.raw)), .bundles [(0, rec0.raw)]] := by
  rw [checkImage_sealImage (by decide +kernel), checkImage_sealImage (by decide +kernel)]
  decide +kernel

theorem witness_ImageLoad_different_kinds (xs : List (Nat × RawRecord))
    (ys : List (Nat × RawTribConfig)) : DifferentKinds (.bundles xs) (.tribs ys) := trivial

/-- `base` with port 1 working on a START that its block has not taken. -/
def untaken : State := withCp1 fun c => { c with transfer := .working ⟨9, some (.start .cp1 5)⟩ }

/-- `untaken` with an earlier START of the same bundle and one of B6 abandoned. -/
def anew : State :=
  untaken.modCtrl .cp1 fun c => { c with abandoned := [.start .cp1 5, .start .cp1 6] }

theorem witness_WarmResetKeepsConfigurationAndClearsTheRest :
    (at0 .playing rec0).load ≠ .loading ∧ ((at0 .playing rec0).bun 0).active = some rec0 ∧
      ((at0 .playing rec0).bun 0).state.running = true ∧
      Carried (at0 .playing rec0) .cp1 (.warmReset .cp1) ∧
      requestBytes (.start .cp1 5) = some (.cp1, 9, [5]) ∧
      requestBytes (.start .cp1 6) = some (.cp1, 9, [6]) ∧
      (anew.ctrl .cp1).handed = some (.start .cp1 5) ∧ Carried anew .cp1 (.start .cp1 5) ∧
      Instr.start .cp1 6 ∈ (anew.ctrl .cp1).abandoned ∧
      (anew.ctrl .cp1).handed ≠ some (.start .cp1 6) := by decide

/-- R177: a warm reset of one port abandons the request of the other, whose command then does nothing. -/
theorem test_warm_reset_abandons_the_other_request :
    let t := after (.warmReset .cp2) untaken
    ((t.ctrl .cp1).transfer, (t.ctrl .cp1).abandoned,
      ((after (.start .cp1 5) t).ctrl .cp1).outcome) =
      (.idle, [.start .cp1 5], none) := by decide +kernel

/-- R177: of two WARM_RESET requests, the one its port is WORKING on when the other is carried out stays
without a response, though its port has taken another request since. -/
theorem test_an_abandoned_warm_reset_resets_nothing :
    let reset2 : Instr := .warmReset .cp2
    let handed := base.modCtrl .cp2 fun c => { c with transfer := .working ⟨34, some reset2⟩ }
    let taken := (after (.warmReset .cp1) handed).modCtrl .cp2 fun c =>
      c.take ⟨1, some (.readIdentity .cp2)⟩
    let late := after reset2 taken
    (taken.ctrl .cp2).abandoned = [reset2] ∧ (late.ctrl .cp2).abandoned = [] ∧
      (late.ctrl .cp2).outcome = none ∧ late.claims = taken.claims ∧
      (late.ctrl .cp1).queue = (taken.ctrl .cp1).queue ∧
      (late.ctrl .cp1).transfer = (taken.ctrl .cp1).transfer := by decide +kernel

/-! ## Witnesses: tributary lines -/

/-- `base` with T0 in a receive state. -/
def lineIn (rx : RxState) : State := withT0 fun x => { x with rx := rx }

theorem witness_LossOfInputEntersNoSignal :
    (base.trib 1).rx = .off ∧ ((lineIn .noSignal).trib 0).rx = .noSignal ∧
      (base.trib 0).rx ≠ .off ∧ (base.trib 0).rx ≠ .noSignal := by decide

theorem witness_RecoveryBlockDecidesTheNextState :
    (base.trib 0).rx ≠ .noSignal ∧ ((lineIn .noSignal).trib 0).rx = .noSignal := by decide

/-- A block of 512 ones but for its first `n` bits. -/
def zerosThenOnes (n : Nat) : BitVec 512 := BitVec.allOnes 512 <<< n

theorem witness_TwoAllOnesBlocksEnterAisAndZerosLeaveIt :
    (base.trib 1).rx = .off ∧ ((lineIn .ais).trib 0).rx = .ais ∧ (base.trib 0).rx = .aligned ∧
      (base.trib 0).aisRun = 0 ∧ 1 ≤ ((withT0 fun x => { x with aisRun := 1 }).trib 0).aisRun := by
  decide

/-- R6: two zeros in 512 bits meet the AIS test, three do not. -/
theorem test_ais_threshold : zeroBits (zerosThenOnes 2) < 3 ∧ 3 ≤ zeroBits (zerosThenOnes 3) := by
  decide +kernel

/-- 519 received bits in which both patterns and the bit between them stand as R7 asks. -/
def candidate : BitVec 519 := 0b1101100#519 ||| (0b1101100#519 <<< 512) ||| (1#519 <<< 256)

theorem witness_AlignmentIsFoundAndLostOnTheThirdError :
    ((lineIn .search).trib 0).rx = .search ∧ candidate.extractLsb' 0 7 = 0b1101100#7 ∧
      candidate.getLsbD 256 = true ∧ candidate.extractLsb' 512 7 = 0b1101100#7 ∧
      (base.trib 0).rx ≠ .search ∧ ((lineIn .search).trib 0).rx ≠ .aligned ∧
      (base.trib 0).rx = .aligned ∧ (base.trib 0).alignNext = false ∧
      ((withT0 fun x => { x with alignNext := true }).trib 0).alignNext = true ∧
      (0#7 : BitVec 7) ≠ 0b1101100#7 ∧
      (base.trib 0).errorRun + 1 < 3 ∧
      3 ≤ ((withT0 fun x => { x with errorRun := 2 }).trib 0).errorRun + 1 := by decide +kernel

/-- R7: the bits of the pattern as received are 0, 0, 1, 1, 0, 1, 1. -/
theorem test_alignment_pattern_bits :
    (List.range 7).map (fun i => alignmentPattern.getLsbD i) =
      [false, false, true, true, false, true, true] := by decide

theorem witness_RemoteAlarmFollowsThreeReadsOfBit3 :
    ((lineIn .search).trib 0).rx ≠ .aligned ∧ (base.trib 0).rx = .aligned ∧
      (base.trib 0).alignNext = false := by decide

/-- R10: the third read of 1 in a row sets remote alarm in and posts it. -/
theorem test_remote_alarm_on_the_third_read :
    let t := after (.nonAlignmentWord 0 true) (withT0 fun x => { x with onesRun := 2 })
    ((t.trib 0).remoteAlarm, (t.ctrl .cp1).queue.map fun e => (e.kind, e.detail)) =
      (true, [(.tribRemoteAlarm, 1)]) := by decide

/-- R7: after the second pattern's frame a non-alignment frame comes first, then an alignment frame. -/
theorem test_frames_alternate_after_alignment :
    let t := after (.alignmentFound 0 candidate) (lineIn .search)
    let u := after (.nonAlignmentWord 0 false) t
    ((t.trib 0).rx, ((after (.alignmentWord 0 0) t).trib 0).erroredWords,
      ((after (.alignmentWord 0 0) u).trib 0).erroredWords) = (.aligned, 0, 1) := by decide +kernel

/-- A TRIB_CONFIG for a FRAMED port on SYSTEM, alert bit 4. -/
def rawFramed : RawTribConfig := ⟨1, 0, 0, 0xD5, 1, false, 19, 8⟩

/-- The configuration it asks for. -/
def cfgFramed : TribConfig := ⟨.framed, .system, 0xD5, .bit4, false, 18, 8⟩

theorem witness_TribConfigIsDecidedInOrder :
    base.load ≠ .loading ∧ Carried base .cp1 (.tribConfig .cp1 0 rawFramed) ∧
      base.holder (.trib 0) = some .cp1 ∧ base.holder (.trib 1) ≠ some .cp1 ∧
      cfgFramed.kind.code = rawFramed.kind ∧ cfgFramed.alert.code = rawFramed.alert ∧
      rawFramed.txClock = some cfgFramed.clock ∧ cfgFramed.idle = rawFramed.idle ∧
      cfgFramed.aisWhenDown = rawFramed.aisWhenDown ∧ cfgFramed.kp = max 6 (min rawFramed.kp 18) ∧
      cfgFramed.ki = max 8 (min rawFramed.ki 20) ∧ cfgFramed.kind = (base.trib 0).cfg.kind ∧
      { rawFramed with clock := 2, clockArg := 64 }.txClock = none ∧
      { rawFramed with clock := 2, clockArg := 3 }.txClock = some (.steered 3) ∧
      (base.trib 0).cfg.clock ≠ .steered 3 ∧ (base.bun 3).isOn 0 = false ∧
      (queued.bun 0).isOn 0 = true ∧ (queued.trib 0).cfg.kind ≠ .disabled := by decide

/-- R3: STEERED in a write that makes its port DISABLED gets BAD_VALUE, though its bundle is on the port. -/
theorem test_steered_clock_of_a_port_being_disabled :
    ((after (.tribConfig .cp1 0 { rawFramed with kind := 0, clock := 2 }) queued).ctrl
      .cp1).outcome.map Response.status = some .badValue := by decide +kernel

/-- The clauses of TribConfigIsDecidedInOrder on a change of kind. -/
theorem witness_TribConfig_change_of_kind :
    TribKind.unframed ≠ (base.trib 0).cfg.kind ∧ Named queued 0 ∧ ¬ Named base 0 := by
  refine ⟨by decide, ⟨0, rec0, .inl (by decide), by decide⟩, fun ⟨b, r, h, _⟩ => ?_⟩
  have none_active : ∀ b, (base.bun b).active = none ∧ (base.bun b).armedRecord = none := by decide
  rcases h with h | h
  · simp [(none_active b).1] at h
  · simp [(none_active b).2] at h

theorem witness_EveryChangeOfStateIsPosted :
    ((after (.lossOfSignal 0) base).trib 0).rx ≠ (base.trib 0).rx ∧
      ((after (.stop .cp1 0) queued).bun 0).state ≠ (queued.bun 0).state ∧
      ((after (.linkIndicationLost .east false false) base).net .east).up ≠ (base.net .east).up := by
  decide

/-- `rec0` for B0 with a port that does not exist. -/
def sectionsBad : List Byte := sectionBytes 5 (1 :: 0 :: { rec0.raw with port := 9 }.bytes)

theorem witness_EveryChange_image_passes :
    sectionsOf (checkImage (sealImage sectionsBad)) =
      [.bundles [(0, { rec0.raw with port := 9 })]] := by
  rw [checkImage_sealImage (by decide +kernel)]
  decide +kernel

theorem witness_EveryChange_image_load :
    State.reset.load = .loading ∧ loadingBase.load = .loading ∧
      ((State.reset.applyImage [.tribs [(0, (base.trib 0).cfg.raw)]]).trib 0).rx ≠
        (State.reset.trib 0).rx ∧
      (loadingBase.bun 0).active = none ∧
      ((loadingBase.applyImage [.bundles [(0, rec0.raw)]]).bun 0).active = some rec0 ∧
      ((loadingBase.applyImage [.bundles [(0, { rec0.raw with port := 9 })]]).bun 0).active = none ∧
      { rec0.raw with port := 9 }.stored = none ∧
      ((at0 .stopped rec0).bun 0).active ≠ none := by decide +kernel

/-- R42, R29, Table 73a: the events of a record that loads, of one with a structural fault (BAD_VALUE, 7) and of
one for a bundle that has an active record (BAD_STATE, 8). -/
theorem test_events_of_stored_records :
    let posted := fun (s : State) (x : RawRecord) =>
      ((s.applyImage [.bundles [(0, x)]]).ctrl .cp1).queue.map fun e => (e.kind, e.detail.toNat)
    (posted loadingBase rec0.raw, posted loadingBase { rec0.raw with port := 9 },
      posted (at0 .stopped rec0) rec0.raw) =
      ([(.bundleState, 1), (.bundleActivated, 0), (.imageLoaded, 65536)],
        [(.bundleState, 7 * 16777216 + 11 * 65536), (.imageLoaded, 1)],
        [(.bundleState, 8 * 16777216 + 11 * 65536 + 257), (.imageLoaded, 1)]) := by decide +kernel

theorem witness_ReceiveFramesFeedTheAssemblers :
    (base.trib 1).rx = .off ∧ Releases queued 0 [] 0 ∧ (queued.bun 0).active = some rec0 ∧
      rec0.port = 0 ∧ (queued.bun 0).state.running = true ∧
      (queued.bun 0).assembly.frames + 1 < rec0.fpp ∧
      rec0.fpp ≤ ((withB0 { bundle .playing rec0 with assembly :=
        { Assembly.start with frames := 1 } }).bun 0).assembly.frames + 1 :=
  ⟨by decide, .inl ⟨rfl, by decide⟩, by decide, by decide, by decide, by decide, by decide⟩

/-- Three bundles one frame short of a packet, B0 and B2 on T0, B1 on T1, both ports in SEARCH. -/
def local3 : State :=
  let full (t : TribId) : Bundle :=
    { bundle .filling { rec0 with port := t } with
      assembly := { Assembly.start with buffer := [1, 2], frames := 1 } }
  { base with
    tribs := (base.tribs.set 0 { base.trib 0 with rx := .search }).set 1 { base.trib 0 with rx := .search }
    bundles := ((base.bundles.set 0 (full 0)).set 1 (full 1)).set 2 (full 0) }

theorem witness_ReceiveFrames_of_other_ports : Releases local3 0 [1] 1 :=
  .inr ⟨by decide, .inr (.inr (by decide)), .inr (.inr (by decide))⟩

/-- R51, Table 22: bundles whose ports release local frames together join in ascending number. -/
theorem test_local_frames_join_in_bundle_order :
    let t := after (.receiveFrame ⟨0, [1]⟩ (Vector.replicate 32 0))
      { local3 with nets := ⟨{ base.net .east with transmitter := .gap }, base.net .west⟩ }
    (t.net .east).routine.map QueueEntry.bundle ++ (t.net .east).priority.map QueueEntry.bundle ++
      (t.net .east).protection.map QueueEntry.bundle = [0, 1, 2] := by decide +kernel

/-- An East queue of 64 entries: 63 of PRIORITY, and one of ROUTINE or one PRIORITY more. -/
def fullEast (routine : List QueueEntry) : State :=
  withEast fun x => { x with priority := List.replicate (64 - routine.length) ⟨0, 7, .p1⟩, routine := routine }

theorem witness_ReceiveFrames_offers :
    (base.net .east).queued < 64 ∧ 64 ≤ ((fullEast [⟨1, 2, .p1⟩]).net .east).queued ∧
      ((fullEast [⟨1, 2, .p1⟩]).net .east).routine = [] ++ [⟨1, 2, .p1⟩] ∧
      64 ≤ ((fullEast []).net .east).queued ∧ ((fullEast []).net .east).routine = [] ∧
      ((fullEast []).net .east).priority =
        List.replicate 63 ⟨0, 7, .p1⟩ ++ [⟨0, 7, .p1⟩] := by decide +kernel

/-- Table 18: what a PROTECTION, a PRIORITY and a ROUTINE copy find in a full queue. -/
theorem test_offers_to_a_full_queue :
    ([(.protection, [⟨1, 2, .p1⟩]), (.priority, [⟨1, 2, .p1⟩]), (.routine, [⟨1, 2, .p1⟩]),
      (.protection, []), (.priority, [])].map fun (x : PacketClass × List QueueEntry) =>
        let (t, took) := (fullEast x.2).offerCopy .east x.1 ⟨3, 4, .p1⟩
        (took, (t.net .east).tx.evicted, (t.net .east).tx.dropped, (t.net .east).routine.length)) =
      [(true, 1, 0, 0), (true, 1, 0, 0), (false, 0, 1, 1), (true, 1, 0, 0), (false, 0, 1, 0)] := by
  decide +kernel

/-- B0 holding four completed packets, both copies of the oldest queued. -/
def holding4 : State :=
  withB0 { bundle .playing rec0 with assembly := { Assembly.start with
    held := [⟨1, [], false, true, true⟩, ⟨2, [], false, true, false⟩, ⟨3, [], false, true, false⟩,
      ⟨4, [], false, true, false⟩] } }

theorem witness_ReceiveFrames_completion :
    (base.bun 0).assembly.held.length < 4 ∧ 4 ≤ (holding4.bun 0).assembly.held.length ∧
      b17.pathMode = .single ∧ rec0.pathMode ≠ .single ∧
      (base.net (rec0.portMap.portOf .p1)).up = true ∧
      (base.net (rec0.portMap.portOf .p2)).up = false ∧
      (∀ p, (State.reset.net (rec0.portMap.portOf p)).up = false) ∧
      (∀ p, ((base.modNet .west fun x => { x with up := true }).net
        (rec0.portMap.portOf p)).up = true) := by
  refine ⟨by decide, by decide, by decide, by decide, by decide, by decide, fun p => ?_, fun p => ?_⟩ <;>
    cases p <;> decide

/-- R48: a fifth held packet supersedes the oldest, whose two copies are withdrawn. -/
theorem test_fifth_packet_supersedes_the_oldest :
    let x := ((holding4.supersede 0).bun 0).assembly
    (x.held.map HeldTx.seq, x.superseded) = ([2, 3, 4], 2) := by decide +kernel

/-- R44, R45: the bytes of slots 1 and 2 join the packet being built. -/
theorem test_receive_frame_appends_the_slot_bytes :
    ((after (.receiveFrame ⟨0, []⟩ (Vector.ofFn fun i => BitVec.ofNat 8 (i.val + 16))) queued).bun
      0).assembly.buffer = [17, 18] := by decide +kernel

theorem witness_TransmitFramesAlternateParityAndCarrySlotZero :
    (base.trib 1).cfg.kind = .disabled ∧ (base.trib 0).cfg.kind ≠ .disabled ∧
      (∀ b, (queued.bun b).playout.atStart = .none) ∧
      ((after (.transmitFrameStart 0 []) queued).trib 0).txAllOnes = false ∧
      (queued.trib 0).cfg.kind = .framed := by decide +kernel

/-- R158: the transmit timing of LOOP follows the line in ALIGNED alone, of STEERED the offset held. -/
theorem test_transmit_timing_is_latched_at_the_frame_start :
    let timed := fun (c : TxClock) (rx : RxState) =>
      let x := (after (.transmitFrameStart 0 []) (withT0 fun x =>
        { x with rx := rx, cfg := { x.cfg with clock := c }, steer := { x.steer with offset := 9 } })).trib 0
      (x.txSource, x.txOffset)
    [timed .system .aligned, timed .loop .aligned, timed .loop .search, timed (.steered 0) .search] =
      [(.system, 0), (.line, 0), (.system, 0), (.steered, 9)] := by decide +kernel

/-- 1.4.1: slot 0 without the delay alert, with it on bit 6, and with alignment lost besides. -/
theorem test_slot_zero_of_1_4_1 :
    [slotZero false false false .bit6, slotZero true false false .bit6, slotZero true false true .bit6,
      slotZero true true true .bit6] = [0x9B, 0xDF, 0xDB, 0xFB] := by decide

theorem witness_TransmitSlotsCarryPlayoutOrIdle :
    (queued.trib 0).cfg.kind ≠ .disabled ∧ (queued.bun 0).active = some rec0 ∧ rec0.port = 0 ∧
      rec0.slots.toList.Nodup ∧ (∀ n ∈ rec0.slots.toList, n < 32) ∧
      (queued.bun 0).state.running = true ∧ rec0.slots.toList[1]? = some 2 ∧
      ((after (.transmitFrameStart 0 []) (at0 .filling rec0)).bun 0).playout.out[1]? = some 0xFF ∧
      3 ∉ rec0.slots.toList := by decide +kernel

/-! ## Witnesses: a frame of playout -/

/-- A header for B0's label on path 1. -/
def header0 : Header where
  playing := .both
  path := .p1
  label := 0
  seq := 5
  originFault := false
  echoValid := true
  rxFault := true
  length := 4
  origin := 77
  echoOrigin := 100
  echoDwell := 50

/-- Its frame as it reaches East. -/
def frame0 : List Byte :=
  sealFrame (addressBytes 0x020000000001 ++ addressBytes 9 ++ bytesOf 2 0x88B6 ++ header0.bytes ++
    [1, 2, 3, 4])

/-- FRAME_TAKEN at East of that frame. -/
def taken0 : Instr :=
  .frameTaken .east (Vector.ofFn fun i => frame0.getD (60 + i.val) 0) false (frame0.take 60)

/-- The packet it carries, the first of its 64 bytes received at tick 999936 of `base`'s 1000000. -/
def packet0 : Packet := ⟨.east, 999936, 9, none, header0.bytes, header0, [1, 2, 3, 4]⟩

/-- A packet of sequence `q` on path `p`. -/
def packetOf (p : Path) (q : Seq) : Packet :=
  { packet0 with header := { header0 with path := p, seq := q } }

/-- B0 playing with head 100, sequence 101 held from path 1, `played` frames of the head played, and a
run of `run` EARLY packets. -/
def held101 (played run : Nat) : Playout :=
  { Playout.fresh 16 with
    ring := (List.replicate 16 none).set 5 (some (packetOf .p1 101).slot)
    head := some 100
    played := played
    earlyRun := run }

/-- `base` with B0 playing out `p`. -/
def withRing (p : Playout) : State := withB0 { bundle .playing rec0 with playout := p }

/-- The head is the packet held. -/
def atHead : Playout := { held101 0 0 with head := some 101 }

/-- The same packet with a bit of its first byte changed. -/
def upsetHead : State := (withRing atHead).applyUpset ⟨0, 101, 0, 1⟩

theorem witness_TransmitSlots_activation :
    ((withB0 { bundle .playing rec0 with
      pending := { rec0 with targetDepth := 6 }, armed := some 16 }).bun 0).armedRecord.map
        (fun r => r.port) = some 0 := by decide

/-- The hypotheses of each way a bundle meets a frame start. -/
theorem witness_TransmitSlots_ways :
    (base.bun 0).state.running = false ∧ ((at0 .down rec0).bun 0).playout.atStart = .none ∧
      ((at0 .filling rec0).bun 0).playout.phase ≠ .countdown ∧
      (let x := { bundle .filling rec0 with playout :=
        { held101 0 0 with phase := .countdown, startCount := 2 } }
       ¬ x.playout.startCount < x.delay.target - rec0.fpp ∧
         ({ x.playout with startCount := 1 } : Playout).startCount < x.delay.target - rec0.fpp) ∧
      ((withRing atHead).bun 0).playout.adjust = none ∧ 62 + 1 < 2 ^ rec0.pace ∧
      2 ^ rec0.pace ≤ 63 + 1 ∧
      ([AtStart.started, .skipped, .ended, .inserted].all fun a =>
        let x := (withRing { atHead with atStart := a }).bun 0
        x.state = .playing && x.playout.atStart = a) = true ∧
      ((withB0 { bundle .filling rec0 with playout := { atHead with atStart := .underran } }).bun
        0).playout.atStart = .underran := by decide

/-- The hypotheses of each kind of frame: no packet held, a packet at the head in its first and last
frame, a packet with a bad parity, and a missing one. -/
theorem witness_TransmitSlots_frames :
    (∀ y ∈ (Playout.fresh 16).ring, y = none) ∧ atHead.period = .none ∧
      atHead.slotFor 101 = some (packetOf .p1 101).slot ∧
      (packetOf .p1 101).slot.frameSound 2 0 = true ∧ atHead.played + 1 < rec0.fpp ∧
      rec0.fpp ≤ ({ atHead with played := 1, period := .packet } : Playout).played + 1 ∧
      (((upsetHead.bun 0).playout.slotFor 101).map fun k => k.frameSound 2 0) = some false ∧
      (held101 0 0).slotFor 100 = none ∧ (∃ y ∈ (held101 0 0).ring, y ≠ none) := by decide +kernel

/-- R97 to R101, R106 with FPP 2 and substitution FILL: an underrun, the first and the last frame of a
packet, a parity frame and a missing one. -/
theorem test_frames_of_playout :
    ([withRing (Playout.fresh 16), withRing atHead,
      withRing { atHead with played := 1, period := .packet }, upsetHead,
      withRing (held101 0 0)].map fun s =>
        let p := ((s.playBundle 0).bun 0).playout
        (p.out, p.head.map BitVec.toNat, p.played,
          [p.counters.underruns, p.counters.played, p.counters.parityFrames, p.counters.missing])) =
      [([0xFF, 0xFF], none, 0, [1, 0, 0, 0]), ([1, 2], some 101, 1, [0, 0, 0, 0]),
        ([3, 4], some 102, 0, [0, 1, 0, 0]), ([0xFF, 0xFF], some 101, 1, [0, 0, 1, 0]),
        ([0xFF, 0xFF], some 100, 1, [0, 0, 0, 1])] := by decide +kernel

/-! ## Witnesses: clock candidates, selector and steering -/

/-- A valid candidate in a state, its qualify timer running. -/
def cand (st : CandidateState) : CandidateRecord :=
  { CandidateRecord.default with valid := true, priority := 1, state := st, timer := some 9 }

theorem witness_CandidatesQualifyAndAreLost :
    (base.timing.candidate .station).state ≠ .qualifying ∧
      ((withStation (cand .qualifying)).timing.candidate .station).state = .qualifying ∧
      base.due ((withStation (cand .qualifying)).timing.candidate .station).timer = true ∧
      (base.timing.candidate .station).state = .unavailable ∧
      (base.timing.candidate .station).qualify ≠ 0 ∧
      (base.timing.candidate .station).valid = false ∧
      ((withStation (cand .available)).timing.candidate .station).valid = true ∧
      ((withStation (cand .available)).timing.candidate .station).state ≠ .unavailable := by
  decide +kernel

/-- `base` with T0's candidate valid and AVAILABLE. -/
def lineUp : State :=
  { base with timing := base.timing.setCandidate (.trib 0) (cand .available) }

theorem witness_Candidates_line_lost :
    (lineUp.timing.candidate (.trib 0)).valid = true ∧
      (lineUp.timing.candidate (.trib 0)).state ≠ .unavailable := by decide +kernel

/-- R152, Table 73a: a line candidate that is no longer valid is UNAVAILABLE, and the loss is posted. -/
theorem test_a_line_candidate_is_lost :
    let t := lineUp.setValidity (.trib 0) false
    ((t.timing.candidate (.trib 0)).state, (t.timing.candidate (.trib 0)).losses,
      (t.ctrl .cp1).queue.map fun e => (e.kind, e.detail.toNat)) =
      (.unavailable, 1, [(.candidateState, 512)]) := by decide +kernel

/-- The timing unit in a mode, STATION as given. -/
def timed (m : TimingMode) (x : CandidateRecord) : Timing :=
  { (withStation x).timing with mode := m }

theorem witness_SelectorDecisionFollowsTable59 :
    ((timed (.forced .station) (cand .available)).candidate .station).state = .available ∧
      ((timed (.forced .station) (cand .qualifying)).candidate .station).state ≠ .available ∧
      (timed .auto (cand .available)).decided = .locked .station ∧
      (timed .auto (cand .qualifying)).decided = .freeRun ∧
      (withStation (cand .available)).timing.decided ≠ (withStation (cand .available)).timing.state ∧
      base.timing.decided = base.timing.state ∧ (timed .free (cand .available)).mode = .free ∧
      (match exec (.stationActivityLoss) base with
        | .next _ => true
        | _ => false) = true := by
  decide +kernel

theorem witness_TimingRequestsEvaluateTheSelector :
    base.load ≠ .loading ∧ Carried base .cp1 (.timingConfig .cp1 (Vector.replicate 9 ⟨8, 601⟩)) ∧
      Carried base .cp1 (.timingCommand .cp1 1 8) ∧ Carried base .cp2 (.timingCommand .cp2 1 8) ∧
      base.holder .timing ≠ some .cp2 ∧ base.holder .timing = some .cp1 ∧
      timingModeOf 3 0 = none ∧ timingModeOf 1 9 = none ∧ timingModeOf 1 8 = some (.forced (.trib 7)) := by
  decide

/-- The timing unit LOCKED to STATION for a whole window. -/
def locked : State :=
  { withStation { cand .available with whole := true } with
    timing := { (withStation { cand .available with whole := true }).timing with
      state := .locked .station, everLocked := true, lockWhole := true, windowEnd := 1000000 } }

theorem witness_MeasurementWindowsStoreFrequencies :
    locked.timing.state = .locked .station ∧ locked.timing.lockWhole = true ∧
      (locked.timing.candidate .station).whole = true ∧ locked.timing.stationGap = false ∧
      locked.timing.windowEnd ≤ locked.now ∧ base.now < base.timing.windowEnd ∧
      (∀ c, base.timing.state ≠ .locked c) := by
  refine ⟨by decide, by decide, by decide +kernel, by decide, by decide, by decide, fun c h => ?_⟩
  have : base.timing.state = .freeRun := rfl
  simp [this] at h

theorem witness_MeasurementWindows_station :
    (locked.timing.candidate .station).valid = true ∧
      (locked.timing.candidate .station).state ≠ .unavailable ∧
      (base.timing.candidate .station).valid = false ∧
      (base.timing.candidate .station).state = .unavailable ∧
      { base with timing := { base.timing with windowEnd := 1000000 } }.timing.windowEnd ≤ base.now := by
  decide +kernel

/-- R151: an offset of 51,200 units (50 ppm) keeps STATION valid, one of 51,201 does not. -/
theorem test_station_range :
    ([51200, 51201, -51200, -51201].map fun f =>
      ((after (.measurementWindowEnd (some f) (Vector.replicate 8 0)) locked).timing.candidate
        .station).valid) = [true, false, true, false] := by decide +kernel

/-- R151: windows are consecutive spans of 128,000,000 ticks; one measures nothing before its last tick. -/
theorem test_windows_end_each_128000000_ticks :
    let ended := fun now => (after (.measurementWindowEnd (some 7) (Vector.replicate 8 0))
      { locked with now := now }).timing
    ((ended 999999).windowEnd, (ended 999999).holdover, (ended 1000000).windowEnd,
      (ended 1000000).holdover) = (1000000, 0, 129000000, 7) := by decide +kernel

theorem witness_SteeringIntervalEndRecomputesTheOffset :
    (base.trib 0).steer.samples < 8192 ∧
      8192 ≤ ((withT0 fun x => { x with steer := { x.steer with samples := 8192 } }).trib
        0).steer.samples := by decide

/-- T0 steered from B0, which plays two packets' depth against a target of 4. -/
def steered : State :=
  (withRing (held101 0 0)).modTrib 0 fun x => { x with cfg := { x.cfg with clock := .steered 0 } }

theorem witness_Steering_at_a_frame_start :
    (steered.trib 0).cfg.kind ≠ .disabled ∧ (steered.trib 0).cfg.clock = .steered 0 ∧
      (steered.bun 0).active = some rec0 ∧ rec0.port = 0 ∧ (steered.bun 0).state = .playing ∧
      (steered.bun 0).playout.adjust = none ∧ (steered.bun 0).playout.atStart = .none ∧
      base.steeringStatus 0 ≠ .running := by decide +kernel

/-- R160: the sample taken is the fill, 4 frames, less the target of 3. -/
theorem test_steering_sample :
    let s := steered.modBun 0 fun x => { x with delay := { x.delay with target := 3 } }
    let x := ((after (.transmitFrameStart 0 []) s).trib 0).steer
    (x.sum, x.samples) = (1, 1) := by decide +kernel

/-! ## Witnesses: the bundle table -/

/-- A WRITE_PENDING as received: slots out of order and an FPP above its limit. -/
def rawOut : RawRecord := { goodRecord with slots := .list [7, 3], fpp := 65 }

theorem witness_WritePendingStoresTheClampedRecord :
    State.reset.load = .loading ∧ base.load ≠ .loading ∧
      Carried base .cp1 (.writePending .cp1 0 rawOut) ∧
      Carried State.reset .cp1 (.writePending .cp1 0 rawOut) ∧ base.holder (.bundle 0) = some .cp1 ∧
      base.holder (.bundle 1) ≠ some .cp1 ∧ (base.bun 0).armed = none ∧ (armed0.bun 0).armed ≠ none := by
  decide

theorem witness_WritePending_structural_fault :
    StructuralFault { goodRecord with tag := some ⟨0, 4095⟩ } ∧ ¬ StructuralFault rawOut := by
  refine ⟨.inr (.inr (.inr (.inl ⟨⟨0, 4095⟩, rfl, .inr rfl⟩))), fun h => ?_⟩
  unfold StructuralFault at h
  rcases h with h | h | ⟨ns, h, k⟩ | ⟨g, h, _⟩ | h
  · exact absurd h (by decide)
  · exact absurd h (by decide)
  · obtain rfl := SlotSet.list.inj h
    rcases k with k | k
    · exact absurd k (by decide)
    · exact absurd k (by decide)
  · cases h
  · exact absurd h (by decide)

/-- R21: the pending record is sorted and clamped, and CLAMPED says so. -/
theorem test_write_pending_sorts_and_clamps :
    let t := after (.writePending .cp1 0 rawOut) base
    ((t.bun 0).pending.slots, (t.bun 0).pending.fpp, (t.ctrl .cp1).outcome.map Response.status) =
      (.list [3, 7], 64, some .clamped) := by decide +kernel

/-- `base` with record `r` pending in B0. -/
def pendingAt (r : Record) : State := withB0 { Bundle.freed .zero with pending := r }

/-- A pool that leaves no room for B0's 16 slots: sixteen bundles with 256 each. -/
def fullPool : State :=
  { pendingAt rec0 with
    bundles := (Vector.ofFn fun i : Fin 64 =>
      if 1 ≤ i.val ∧ i.val ≤ 16 then { Bundle.freed .zero with ringSize := 256 }
      else Bundle.freed .zero).set 0 { Bundle.freed .zero with pending := rec0 } }

theorem witness_ActivateValidatesAndArms :
    base.load ≠ .loading ∧ Carried base .cp1 (.activate .cp1 0) ∧
      (pendingAt rec0).holder (.bundle 0) = some .cp1 ∧
      (pendingAt rec0).holder (.bundle 0) ≠ some .cp2 ∧ ((pendingAt rec0).bun 0).armed = none ∧
      (armed0.bun 0).armed ≠ none ∧ ((pendingAt rec0).bun 0).pending = rec0 ∧ 1 ≤ rec0.fpp ∧
      kindMatches ((pendingAt rec0).trib 0).cfg.kind rec0.slots = true ∧
      kindMatches ((pendingAt rec0).trib 0).cfg.kind .all = false ∧
      rec0.slots.count * rec0.fpp ≤ 512 ∧ slotsNeeded rec0 = 6 ∧ 6 ≤ 16 ∧
      (allBundles.map fun o => if o = 0 then max ((pendingAt rec0).bun o).ringSize 16
        else ((pendingAt rec0).bun o).poolCharge).sum ≤ 4096 ∧
      4096 < (allBundles.map fun o => if o = 0 then max (fullPool.bun o).ringSize 16
        else (fullPool.bun o).poolCharge).sum := by decide +kernel

/-- `base` with `rec0` pending in B0 and active in B1. -/
def clashing : State := (pendingAt rec0).modBun 1 fun _ => bundle .stopped rec0

theorem witness_Activate_conflict :
    ∃ c o, c ≠ 0 ∧ InForce clashing c o ∧ o.port = rec0.port ∧
      ∃ m ∈ rec0.slots.toList, m ∈ o.slots.toList :=
  ⟨1, rec0, by decide, .inl (by decide), rfl, 2, by decide, by decide⟩

theorem witness_Activate_no_conflict :
    ¬ ∃ c o, c ≠ 0 ∧ InForce (pendingAt rec0) c o ∧ o.port = rec0.port ∧
      ∃ m ∈ rec0.slots.toList, m ∈ o.slots.toList := by
  rintro ⟨c, o, -, h, -⟩
  have none_active : ∀ b, ((pendingAt rec0).bun b).active = none ∧
      ((pendingAt rec0).bun b).armedRecord = none := by decide
  rcases h with h | h
  · simp [(none_active c).1] at h
  · simp [(none_active c).2] at h

/-- A bundle in state `st` with `rec0` active and a record that differs by `f` armed. -/
def rearmed (st : BState) (f : Record → Record) : State :=
  withB0 { bundle st rec0 with pending := f rec0, armed := some 32 }

theorem witness_ActivationsTakeEffectByTheirClass :
    (base.bun 0).armed = none ∧
      ((withB0 { Bundle.freed .zero with pending := rec0, armed := some 16 }).bun 0).active = none ∧
      ((rearmed .playing fun r => { r with fpp := 4 }).bun 0).armed = some 32 ∧
      ¬ HardSame rec0 { rec0 with fpp := 4 } ∧ BState.playing.running = true ∧
      BState.stopped.running = false ∧ HardSame rec0 { rec0 with targetDepth := 6 } :=
  ⟨by decide, by decide, by decide, fun h => absurd h.fpp (by decide), by decide, by decide,
    ⟨rfl, by decide, by decide, rfl, ⟨rfl, rfl⟩, ⟨rfl, rfl⟩, rfl⟩⟩

/-- Table 12: the class of change of each case. -/
theorem test_classes_of_change :
    [(Bundle.freed .zero).changeClass rec0, (bundle .playing rec0).changeClass { rec0 with fpp := 4 },
      (bundle .stopped rec0).changeClass { rec0 with fpp := 4 },
      (bundle .playing rec0).changeClass { rec0 with targetDepth := 6 }] =
      [.new, .restart, .rebuilt, .inPlace] := by decide

theorem witness_StartStopAndFreeMoveTheBundle :
    base.load ≠ .loading ∧ Carried base .cp1 (.start .cp1 0) ∧
      Carried base .cp1 (.stop .cp1 0) ∧
      Carried base .cp1 (.free .cp1 0) ∧ ((at0 .stopped rec0).bun 0).active = some rec0 ∧
      ((at0 .stopped rec0).bun 0).state = .stopped ∧
      ((at0 .stopped rec0).bun 0).recordFault = false ∧
      ((at0 .stopped rec0).trib rec0.port).cfg.kind ≠ .disabled ∧ (base.bun 0).active = none ∧
      (base.bun 0).state = .free ∧ (queued.bun 0).state.running = true ∧
      (at0 .stopped rec0).holder (.bundle 0) = some CtrlPort.cp2.other ∧
      (at0 .stopped rec0).holder (.bundle 0) ≠ some CtrlPort.cp1.other ∧
      ((at0 .stopped rec0).bun 0).armed = none ∧ (queued.bun 0).state ≠ .stopped := by decide

/-- R36: START takes a STOPPED bundle to FILLING and posts BUNDLE_STATE. -/
theorem test_start_enters_filling :
    let t := after (.start .cp1 0) (at0 .stopped rec0)
    ((t.bun 0).state, (t.ctrl .cp2).queue.map fun e => (e.kind, e.detail)) =
      (.filling, [(.bundleState, 0x00020102)]) := by decide +kernel

/-- A bundle whose active record does not give its check word. -/
def corrupted : State :=
  withB0 { bundle .playing rec0 with check := ~~~ Config.checkWord rec0 }

theorem witness_RecordPatrolStopsAFaultedBundle :
    (corrupted.bun 0).active = some rec0 ∧ (corrupted.bun 0).recordFault = false ∧
      Config.checkWord rec0 ≠ (corrupted.bun 0).check ∧ corrupted.faults.count ≤ 255 ∧
      (base.bun 0).mismatched = false ∧ (corrupted.bun 0).active ≠ none ∧
      (base.bun 0).active = none ∧ (corrupted.bun 0).state.running = true ∧
      (corrupted.bun 0).state = .playing ∧ BState.stopped.running = false := by
  have e : (corrupted.bun 0).check = ~~~ Config.checkWord rec0 := rfl
  refine ⟨by decide, by decide, ?_, by decide, by decide, by decide, by decide, by decide, by decide,
    by decide⟩
  rw [e]
  intro h
  have := congrArg (fun x => x.getLsbD 0) h
  simp at this

/-! ## Witnesses: packets on the network ports -/

/-- B0 holding one completed packet whose East copy is queued. -/
def sending : State :=
  (withB0 { bundle .playing rec0 with
    assembly := { Assembly.start with held := [⟨7, [1, 2, 3, 4], false, true, false⟩] } }).modNet .east
    fun x => { x with transmitter := .gap, priority := [⟨0, 7, .p1⟩] }

theorem witness_TransmitterStartsTheHighestClassAndRests :
    (∀ f, (base.net .east).transmitter ≠ .sending f) ∧
      ((withEast fun x => { x with transmitter := .sending [0] }).net .east).transmitter =
        .sending [0] ∧
      (base.net .east).transmitter ≠ .gap ∧
      ((withEast fun x => { x with transmitter := .gap }).net .east).queued = 0 ∧
      (sending.net .east).transmitter = .gap ∧ (sending.net .east).up = true ∧
      (sending.net .east).queue .priority = [⟨0, 7, .p1⟩] ∧ (sending.net .east).protection = [] ∧
      (sending.bun 0).active = some rec0 ∧
      (sending.bun 0).assembly.held.find? (fun k => k.seq == 7) =
        some ⟨7, [1, 2, 3, 4], false, true, false⟩ := by
  refine ⟨fun f h => ?_, by decide⟩
  have : (base.net .east).transmitter = .idle := rfl
  simp [this] at h

/-- R56: the frame of a four byte payload is padded to 60 bytes before its check sequence. -/
theorem test_frame_is_padded :
    (match ((after (.interFrameGapEnd .east) sending).net .east).transmitter with
      | .sending f => (f.length, f.take 6, (f.drop 12).take 2, (f.drop 34).take 5)
      | _ => (0, [], [], [])) =
      (64, [0, 0, 0, 0, 0, 0], [0x88, 0xB6], [1, 2, 3, 4, 0]) := by decide +kernel

theorem witness_LinksQualifyAndFallWithTheirQueues :
    (base.net .east).indication = true ∧ (base.net .west).indication = false ∧
      (base.net .east).up = true ∧ (base.net .west).up = false ∧
      (let x := (withEast fun x => { x with up := false, qualification := some 9 }).net .east
       x.up = false ∧ x.indication = true ∧ base.due x.qualification = true) ∧
      base.due (base.net .west).qualification = false := by decide

/-- B0 in state `st`, and one entry in the East list. -/
def listening (st : BState) (e : Entry) : State :=
  (at0 st rec0).modNet .east fun x => { x with list := [⟨e, 0⟩] }

/-- An entry that takes label 0 alone. -/
def entry0 (a : Machine.Action) (on : Bool) : Entry := ⟨0, 0x3FFF, a, none, on⟩

theorem witness_EachFrameIncrementsOnePortCounter :
    (base.net .west).up = false ∧ (base.net .east).up = true ∧ CheckOneFails false [] ∧
      CheckOneFails true frame0 ∧ CheckOneFails false (frame0.set 30 1) ∧ ¬ CheckOneFails false frame0 ∧
      frame0.length = 64 ∧ ¬ HeaderFails 64 (frame0.take 60 |>.drop 14) ∧ fieldAt frame0 12 2 ≠ 0x8100 ∧
      BitVec.ofNat 48 (fieldAt frame0 0 6) = base.settings.station .east ∧
      BitVec.ofNat 48 (fieldAt frame0 0 6) ≠ base.settings.station .west ∧
      fieldAt (frame0.take 60) 12 2 = base.settings.bundleType ∧
      frame0 = frame0.take 60 ++ (Vector.ofFn fun i : Fin 4 => frame0.getD (60 + i.val) 0).toList ∧
      base.timeCount - BitVec.ofNat 32 frame0.length = 999936 ∧
      base.checkFrame .east 999936 false frame0 = .passed packet0 := by
  unfold CheckOneFails HeaderFails
  decide +kernel

theorem witness_EachFrame_malformed_and_other_type :
    let bad := sealFrame (addressBytes 0x020000000001 ++ addressBytes 9 ++ [0x88, 0xB6])
    let other := sealFrame (addressBytes 0x020000000001 ++ addressBytes 9 ++ [0x88, 0xB7])
    ¬ CheckOneFails false bad ∧ HeaderFails bad.length ((bad.take (bad.length - 4)).drop 14) ∧
      ¬ CheckOneFails false other ∧ fieldAt other 12 2 ≠ base.settings.bundleType := by
  unfold CheckOneFails HeaderFails
  decide +kernel

theorem witness_EachFrame_list_and_delivery :
    (((base.net .east).list.any fun e =>
        e.entry.enabled && e.entry.covers packet0.header.label) = false) ∧
      ((listening .playing (entry0 .deliverByLabel true)).net .east).list[0]? =
        some ⟨entry0 .deliverByLabel true, 0⟩ ∧
      (entry0 .deliverByLabel true).label &&& (entry0 .deliverByLabel true).mask =
        packet0.header.label &&& (entry0 .deliverByLabel true).mask ∧
      rec0.rxLabel = packet0.header.label ∧ packet0.header.path = rec0.portMap.pathOf .east ∧
      packet0.header.path ≠ rec0.portMap.pathOf .west ∧
      packet0.header.length = rec0.slots.count * rec0.fpp ∧
      packet0.header.length ≠ rec0.slots.count * (rec0.fpp + 1) ∧
      ((listening .stopped (entry0 .discard true)).bun 0).state.running = false := by decide +kernel

/-- R70: a packet that its list entry delivers by label to a playing bundle is accepted. -/
theorem test_frame_is_delivered_and_accepted :
    let t := after taken0
      (listening .playing (entry0 .deliverByLabel true))
    ((t.net .east).rx.delivered, (t.bun 0).delivery.accepted, (t.bun 0).playout.counters.stored) =
      (1, 1, 1) := by decide +kernel

/-- East's list takes label 0 into capture slot 0, which is in state `c`. -/
def capturing (c : CaptureState) : State :=
  { listening .playing { entry0 .deliverByLabel true with capture := some 0 } with
    captures := base.captures.set 0 ⟨c, false⟩ }

theorem witness_EachFrame_capture :
    (((capturing .armed).net .east).list[0]?.bind fun e => e.entry.capture) = some 0 ∧
      (capturing .armed).captures[0].state = .armed ∧
      (capturing .empty).captures[0].state = .empty := by decide

/-- R75: an ARMED slot takes the packet and CAPTURE_FULL says so, a FULL one marks that it missed one. -/
theorem test_capture_takes_the_packet :
    let t := after taken0 (capturing .armed)
    let u := after taken0 t
    ((match t.captures[0].state with
      | .full y => (y.position, y.arrival.toNat, y.source.toNat, y.payload.take 5)
      | _ => (9, 0, 0, [])), t.captures[0].missed, u.captures[0].missed,
      ((t.ctrl .cp1).queue.filter fun e => e.kind == .captureFull).length) =
      ((0, 999936, 9, [1, 2, 3, 4, 0]), false, true, 1) := by decide +kernel

theorem witness_AcceptedPacketsReachTheThreeBlocks :
    (queued.bun 0).active = some rec0 ∧ (queued.bun 0).state.running = true ∧
      ((queued.bun 0).supervisor.path.atPath packet0.header.path).state ≠ .up ∧
      ((at0 .down rec0).bun 0).state = .down ∧
      ((at0 .down rec0).bun 0).supervisor.downCondition rec0.pathMode = true ∧
      packet0.header.echoValid = true ∧
      (packet0.arrival - packet0.header.echoOrigin - packet0.header.echoDwell).toNat ≤ 125000000 ∧
      125000000 < ((0 : Time) - 1 - 0).toNat := by decide

theorem witness_TransmittedFramesPassTheReceiveChecks :
    0x0600 ≤ base.settings.bundleType ∧ base.settings.bundleType ≤ 0xFFFF ∧
      base.settings.bundleType ≠ 0x8100 ∧ header0.label < 16384 ∧
      header0.length = [1, 2, 3, 4].length := by decide

theorem witness_ListEditsAndCaptureArmingAreExact :
    base.load ≠ .loading ∧ Carried base .cp1 (.listInsert .cp1 0 0 ⟨0, 0x3FFF, 1, 0, none, true⟩) ∧
      Carried base .cp1 (.listRemove .cp1 0 0) ∧
      Carried base .cp1 (.listReplace .cp1 0 0 ⟨0, 0x3FFF, 1, 0, none, true⟩) ∧
      Carried base .cp1 (.closeEdit .cp1 ⟨2, 0⟩) ∧
      Carried base .cp1 (.captureArm .cp1 3) ∧ netOf 2 = none ∧ netOf 0 = some .east ∧
      base.holder (.list .east) = some .cp1 ∧ base.holder (.list .east) ≠ some .cp2 ∧
      (base.net .east).list.length = 0 ∧ RawEntry.typed ⟨16384, 0, 0, 0, none, true⟩ = none ∧
      RawEntry.typed ⟨0, 0x3FFF, 1, 0, none, true⟩ = some (entry0 .deliverByLabel true) ∧
      ((listening .playing (entry0 .discard true)).net .east).list.length = 1 ∧
      48 ≤ ((withEast fun x => { x with
        list := List.replicate 48 ⟨entry0 .discard true, 0⟩ }).net .east).list.length := by decide

/-! ## Witnesses: playout -/

theorem witness_PlacementFollowsTable37 :
    ((withRing (held101 0 0)).bun 0).active = some rec0 ∧ rec0.pathMode ≠ .selected ∧
      ((32868 : Seq) - 100).toNat = 32768 ∧ ((100 : Seq) - 100).toNat = 0 ∧
      1 ≤ (held101 1 0).played ∧ ((116 : Seq) - 100).toNat = (held101 0 0).ring.length ∧
      (held101 0 6).earlyRun + 1 < 8 ∧ 8 ≤ (held101 0 7).earlyRun + 1 ∧
      (held101 0 0).slotFor 101 = some (packetOf .p1 101).slot ∧
      ((115 : Seq) - 100).toNat < (held101 0 0).ring.length ∧ (held101 0 0).slotFor 115 = none ∧
      (Playout.fresh 16).head = none ∧ (withRing (held101 0 7)).bun 0 =
        { bundle .playing rec0 with playout := held101 0 7 } := by decide

/-- R88: the eighth EARLY packet of a PLAYING bundle empties its ring, and PLAYOUT_RESYNC gives the head 100
and the sequence 116, before BUNDLE_STATE. -/
theorem test_eighth_early_packet_resynchronises :
    let t := (withRing (held101 0 7)).place 0 rec0 (packetOf .p1 116)
    ((t.bun 0).state, (t.bun 0).playout.counters.early, (t.bun 0).playout.counters.resyncs,
      (t.ctrl .cp1).queue.map fun e => (e.kind, e.detail.toNat)) =
      (.filling, 1, 1, [(.playoutResync, 100 * 65536 + 116), (.bundleState, 7 * 65536 + 3 * 256 + 2)]) := by
  decide +kernel

/-- Table 37 at its boundaries: distance -32768, 0 in a begun period, 15, 16, a duplicate and a copy. -/
theorem test_placements_of_table_37 :
    [(held101 0 0).placement .p1 32868, (held101 1 0).placement .p1 100,
      (held101 0 0).placement .p1 100, (held101 0 0).placement .p1 115,
      (held101 0 0).placement .p1 116, (held101 0 0).placement .p1 101,
      (held101 0 0).placement .p2 101] =
      [.late, .late, .stored, .stored, .early, .duplicate, .mergeCopy] := by decide

/-- A ring with sequences 100 and 103 held: eight frames of fill. -/
def held103 : Playout :=
  { Playout.fresh 16 with
    ring := ((List.replicate 16 none).set 4 (some (packetOf .p1 100).slot)).set 7
      (some (packetOf .p1 103).slot)
    head := some 100 }

/-- R91: FPP 2 and max depth 8; sequence 104 beside 100 and 103 makes the fill 10, so the head slips by
one and one packet is discarded. -/
theorem test_slip_forward_on_storing :
    let s := withRing held103
    let t := s.place 0 rec0 (packetOf .p1 104)
    let p := (t.bun 0).playout
    [min rec0.maxDepth (((s.bun 0).ringSize - 2) * rec0.fpp),
      (inRing held103 (packetOf .p1 104)).fill 2, (p.head.getD 0).toNat, p.counters.slipped,
      p.heldSlots.length] = [8, 10, 101, 1, 2] ∧
      (t.ctrl .cp1).queue.map (fun e => (e.kind, e.detail.toNat)) = [(.depthSlip, 65536 + 101)] := by
  decide +kernel

/-- B0 filling in COUNTDOWN, its start count reached. -/
def counted (q : Playout) : State :=
  withB0 { bundle .filling rec0 with playout := { q with phase := .countdown, startCount := 2 } }

theorem witness_PlayoutStartsWhenTheCountIsReached :
    (base.bun 0).active = none ∧ ((counted (held101 0 0)).bun 0).active = some rec0 ∧
      ((counted (held101 0 0)).bun 0).state = .filling ∧
      ((counted (held101 0 0)).bun 0).playout.phase = .countdown ∧
      ((counted (held101 0 0)).bun 0).playout.atStart = .none ∧
      ((counted (held101 0 0)).bun 0).delay.target - rec0.fpp ≤
        ((counted (held101 0 0)).bun 0).playout.startCount ∧
      ((counted (held101 0 0)).bun 0).playout.fill rec0.fpp <
        ((counted (held101 0 0)).bun 0).delay.target + rec0.fpp ∧
      ((counted held103).bun 0).delay.target + rec0.fpp ≤
        ((counted held103).bun 0).playout.fill rec0.fpp ∧
      (let x := (withB0 { bundle .filling rec0 with playout :=
          { held101 0 0 with phase := .waitEstimate, estimateWait := some 9 } }).bun 0
       x.playout.phase = .waitEstimate ∧ base.due x.playout.estimateWait = true) := by decide

theorem witness_PlayoutStarts_ring_is_sound : RingSound ((counted held103).bun 0).playout := by
  intro i x h
  have all : ∀ i, i < 16 → ∀ x, ((counted held103).bun 0).playout.ring[i]? = some (some x) →
      (x = (packetOf .p1 100).slot ∧ i = 4) ∨ (x = (packetOf .p1 103).slot ∧ i = 7) := by
    intro i hi x h
    have e : ((counted held103).bun 0).playout.ring = held103.ring := rfl
    rw [e] at h
    interval_cases i <;> simp [held103, Playout.fresh] at h <;> simp [h]
  have hi : i < 16 := by
    have := List.getElem?_eq_some_iff.1 h
    obtain ⟨hlt, -⟩ := this
    exact hlt
  rcases all i hi x h with ⟨rfl, rfl⟩ | ⟨rfl, rfl⟩
  · exact ⟨by decide, 100, by decide, by decide⟩
  · exact ⟨by decide, 100, by decide, by decide⟩

/-- B0 playing, its depth adjustment's step due toward `target`. -/
def adjusting (target : Nat) : State :=
  withRing { held101 0 0 with adjust := some ⟨target, 63, none⟩ }

theorem witness_AdjustStepInsertsSkipsOrEnds :
    (base.bun 0).playout.adjust = none ∧ ((adjusting 4).bun 0).active = some rec0 ∧
      ((adjusting 4).bun 0).state = .playing ∧ ((adjusting 4).bun 0).playout.atStart = .none ∧
      2 ^ rec0.pace ≤ 63 + 1 ∧ ((adjusting 4).bun 0).playout.fill rec0.fpp = 4 ∧
      4 < 5 + (rec0.fpp / 2 + 1) ∧ 5 < 4 + (rec0.fpp / 2 + 1) ∧ 4 + (rec0.fpp / 2 + 1) ≤ 6 ∧
      2 + (rec0.fpp / 2 + 1) ≤ 4 ∧ (held101 0 0).played + 1 < rec0.fpp ∧
      rec0.fpp ≤ (held101 1 0).played + 1 := by decide

/-- R104 with FPP 2, fill 4 and tolerance 2: targets 5, 6 and 2 end, insert and skip. -/
theorem test_adjust_steps :
    ([5, 6, 2].map fun target => ((after (.adjustStep 0) (adjusting target)).bun 0).playout.atStart) =
      [.ended, .inserted, .skipped] := by decide +kernel

/-! ## Witnesses: delay and paths -/

theorem witness_RoundTripSamplesMoveTheBaseline :
    DelayRecord.zero.tracking = false ∧ b17Path.tracking = true ∧
      (b17Path.sample b17 1087900).2 = false ∧
      ({ b17Path with stepRun := 2 }.sample b17 1112500).2 = true ∧ 125000000 < 125000001 ∧
      ((withB0 (bundle .playing b17)).bun 0).active = some b17 := by decide

/-- A bundle with B17's record, path 1 TRACKING, in state `st` with target `target` in force. -/
def equalised (st : BState) (apply_ : EqualiseApply) (target : Nat) : State :=
  withB0 { bundle st { b17 with eqApply := apply_ } with
    ringSize := 128
    delay := { Delay.zero with record := ⟨b17Path, .zero⟩, target := target } }

theorem witness_TargetComputationsAreAdoptedByState :
    ((equalised .playing .auto 11).bun 0).active = some b17 ∧
      ((equalised .playing .auto 11).bun 0).delay.estimate .single .p1 = some 4350 ∧
      ((6000 : Int) - 4350 - 60 + 62) / 125 = 13 ∧ min 400 ((128 - 2) * 4) = 400 ∧
      b17.fpp ≤ min b17.maxDepth ((128 - 2) * b17.fpp) ∧ 11 + b17.deadband ≤ 13 ∧
      ¬ (12 + b17.deadband ≤ 13 ∨ 13 + b17.deadband ≤ 12) ∧
      ((equalised .filling .auto 12).bun 0).state = .filling ∧
      ({ b17 with eqApply := .held } : Record).eqApply = .held ∧ rec0.delayMode = .fixed := by decide

/-- 6.12.1, R126: target 13 is adopted from 11 and proposed where equalise apply is HELD, and 12 is kept
within the deadband. -/
theorem test_target_13_of_6_12_1 :
    [((equalised .playing .auto 11).computeTarget 0).bun 0,
      ((equalised .playing .held 11).computeTarget 0).bun 0,
      ((equalised .playing .auto 12).computeTarget 0).bun 0].map
        (fun x => (x.delay.target, x.delay.proposed)) =
      [(13, none), (11, some 13), (12, none)] := by decide +kernel

/-- R103, R123, R127, R93: the events of a computation that adopts, of one that proposes and of one whose raw
depth lies below FPP; an estimate found in WAIT_ESTIMATE passes to COUNTDOWN. -/
theorem test_events_of_a_computation :
    let posted := fun (s : State) =>
      ((s.computeTarget 0).ctrl .cp1).queue.map fun e => (e.kind, e.detail.toNat)
    let far := (equalised .filling .auto 11).modBun 0 fun x =>
      { x with active := x.active.map fun r => { r with targetDelay := 4410 } }
    let waiting := (equalised .filling .auto 11).modPlayout 0 fun p =>
      { p with phase := .waitEstimate, estimateWait := some 9 }
    (posted (equalised .playing .auto 11), posted (equalised .playing .held 11), posted far,
      ((waiting.computeTarget 0).bun 0).playout.phase) =
      ([(.depthAdjust, 13)], [(.equalisePending, 11 * 65536 + 13)], [(.equaliseShort, 2147483648)],
        .countdown) := by decide +kernel

/-- B0 playing with a proposal of 9 standing. -/
def proposing : State :=
  withB0 { bundle .playing rec0 with delay := { Delay.zero with target := 4, proposed := some 9 } }

theorem witness_DelayRequestsAndTheAlertTimer :
    pathOf 3 = none ∧ pathOf 2 = some .p2 ∧ base.load ≠ .loading ∧
      Carried base .cp1 (.clearDelayExtremes .cp1 0 2) ∧
      Carried base .cp1 (.applyEqualisation .cp1 0) ∧
      (base.bun 0).delay.proposed = none ∧ (proposing.bun 0).delay.proposed = some 9 ∧
      (proposing.bun 0).playout.adjust = none ∧
      ((adjusting 4).bun 0).playout.adjust = some ⟨4, 63, none⟩ := by decide

/-- B0 playing with path 1 UP and its loss timer running, path 2 LOST. -/
def onePath : State :=
  withB0 { bundle .playing rec0 with supervisor :=
    { Supervisor.zero .p1 with path :=
      ⟨{ PathRecord.zero with state := .up, lossTimer := some 9 },
        { PathRecord.zero with state := .lost }⟩ } }

/-- B0 playing with both paths LOST and the start wait running. -/
def startWaiting : State :=
  withB0 { bundle .playing rec0 with supervisor :=
    { Supervisor.zero .p1 with
      path := both { PathRecord.zero with state := .lost }
      startWait := some 9 } }

theorem witness_LostPathsAndTheStartWaitReportDown :
    (onePath.bun 0).active = some rec0 ∧
      onePath.due ((onePath.bun 0).supervisor.path.atPath .p2).lossTimer = false ∧
      onePath.due ((onePath.bun 0).supervisor.path.atPath .p1).lossTimer = true ∧
      (onePath.bun 0).supervisor.startWait = none ∧
      (onePath.bun 0).supervisor.downCondition rec0.pathMode = false ∧
      (startWaiting.bun 0).active = some rec0 ∧ 
      startWaiting.due (startWaiting.bun 0).supervisor.startWait = true ∧
      (startWaiting.bun 0).supervisor.downCondition rec0.pathMode = true := by decide

/-- R138: the loss of the last path takes a playing bundle to DOWN. -/
theorem test_last_path_lost_enters_down :
    ((after (.lossTimerExpiry 0 .p1) onePath).bun 0).state = .down := by decide +kernel

/-- A SELECTED record. -/
def recSel : Record := { rec0 with pathMode := .selected, holdOff := 1 }

/-- B0 a playing SELECTED bundle on path `a`, the states of its paths `x` and `y`, every selector timer
running, with a standing request. -/
def selecting (a : Path) (x y : PathState) (q : LocalRequest) : State :=
  withB0 { bundle .playing recSel with supervisor :=
    { Supervisor.zero a with
      path := ⟨{ PathRecord.zero with state := x }, { PathRecord.zero with state := y }⟩
      selector := { Selector.zero a with
        holdOff := some 9, restore := some 9, mismatchTimer := some 9, request := q } } }

/-- `selecting` with its selector timers stopped and its two times `h` and `w`. -/
def resting (a : Path) (x y : PathState) (h w : Nat) : State :=
  ((selecting a x y .none).modSelector 0 fun v => { v with holdOff := none, restore := none }).modBun 0
    fun z => { z with active := some { recSel with holdOff := h, waitRestore := w } }

/-- `selecting` with an armed change of both its times to 0. -/
def zeroed (a : Path) (x y : PathState) : State :=
  (selecting a x y .none).modBun 0 fun z =>
    { z with pending := { recSel with holdOff := 0, waitRestore := 0 }, armed := some 16 }

/-- R33, Table 13: a running hold-off, and a running wait to restore, keep their expiry though the field
becomes 0, and the path stays until then. -/
theorem test_a_running_selector_timer_outlasts_a_zero_field :
    let t := after (.activationTakesEffect 0) (zeroed .p1 .lost .up)
    let u := after (.activationTakesEffect 0) (zeroed .p2 .up .up)
    ((t.bun 0).supervisor.selector.active, (t.bun 0).supervisor.selector.holdOff,
      (u.bun 0).supervisor.selector.active, (u.bun 0).supervisor.selector.restore) =
      (.p1, some 9, .p2, some 9) := by decide +kernel

/-- R142, R144: with a field of 0 and no timer running the switch is made at the evaluation. -/
theorem test_a_stopped_selector_timer_of_zero_switches :
    ((((resting .p1 .lost .up 0 5).evaluateSelector 0 .none).bun 0).supervisor.selector.active,
      (((resting .p2 .up .up 1 0).evaluateSelector 0 .none).bun 0).supervisor.selector.active) =
      (.p2, .p1) := by decide +kernel

theorem witness_SelectorTimers_at_an_evaluation :
    ((resting .p1 .lost .up 0 5).bun 0).supervisor.selector.holdOff = none ∧
      ((resting .p1 .lost .up 1 5).bun 0).active.map Record.holdOff = some 1 ∧
      ((resting .p1 .lost .up 0 5).bun 0).active.map Record.holdOff = some 0 ∧
      ((resting .p1 .lost .up 0 5).bun 0).active.map Record.pathMode = some .selected ∧
      ((resting .p1 .lost .up 0 5).bun 0).state.running = true ∧
      ((resting .p1 .lost .up 0 5).bun 0).supervisor.signalFail .p1 = true ∧
      ((resting .p1 .lost .up 0 5).bun 0).supervisor.signalFail .p2 = false ∧
      ((resting .p2 .up .up 1 0).bun 0).supervisor.selector.restore = none ∧
      ((resting .p2 .up .up 1 0).bun 0).active.map Record.waitRestore = some 0 ∧
      ((resting .p2 .up .up 1 5).bun 0).active.map Record.waitRestore = some 5 := by decide

theorem witness_SelectorTimersSwitchOrFlag :
    (base.bun 0).supervisor.selector.holdOff = none ∧
      ((selecting .p1 .lost .up .none).bun 0).active = some recSel ∧
      ((selecting .p1 .lost .up .none).bun 0).supervisor.selector.holdOff = some 9 ∧
      base.due (some 9) = true ∧
      ((selecting .p1 .lost .up .none).bun 0).state.running = true ∧
      ((selecting .p1 .lost .up .none).bun 0).supervisor.signalFail .p1 = true ∧
      ((selecting .p1 .lost .up .none).bun 0).supervisor.signalFail .p2 = false ∧
      ((selecting .p2 .up .up .none).bun 0).supervisor.selector.restore = some 9 ∧
      recSel.revertive = true ∧ ((selecting .p2 .up .up .none).bun 0).supervisor.selector.active ≠
        recSel.primary ∧
      ((selecting .p2 .up .up .none).bun 0).supervisor.signalFail .p1 = false ∧
      ((selecting .p2 .up .up .none).bun 0).supervisor.signalFail .p2 = false ∧
      recSel.authority = .main ∧
      ((selecting .p2 .up .up .none).bun 0).supervisor.selector.mismatchTimer = some 9 := by decide

/-- A playing SELECTED FOLLOWER on path 1 that hears path 2, both paths sound. -/
def following : State :=
  (resting .p1 .up .up 1 5).modBun 0 fun z => { z with
    active := some { recSel with authority := .follower }
    supervisor := { z.supervisor with
      selector := { z.supervisor.selector with announcement := some .path2 } } }

theorem witness_SelectorTimers_levels :
    ((selecting .p2 .up .up .lockout).bun 0).supervisor.selector.request = .lockout ∧
      ((selecting .p1 .up .up (.forced .p2)).bun 0).supervisor.selector.request = .forced .p2 ∧
      ((selecting .p1 .up .up (.manual .p2)).bun 0).supervisor.selector.request = .manual .p2 ∧
      NoFailSwitch ((selecting .p1 .up .up (.manual .p2)).bun 0).supervisor ∧
      NoFailSwitch ((selecting .p1 .lost .lost .none).bun 0).supervisor ∧
      ¬ NoFailSwitch ((selecting .p1 .lost .up .none).bun 0).supervisor ∧
      ((selecting .p1 .lost .lost .none).bun 0).supervisor.signalFail .p1 = true ∧
      (∀ q, (following.bun 0).supervisor.signalFail q = false) ∧
      announcedPath (following.bun 0).supervisor.selector.announcement = some .p2 ∧
      (following.bun 0).supervisor.selector.active = .p1 ∧
      (following.bun 0).supervisor.selector.request = .none ∧
      (following.bun 0).active.map Record.authority = some .follower ∧
      ¬ Disagrees ((selecting .p1 .up .up .none).bun 0).supervisor.selector := by
  refine ⟨by decide, by decide, by decide, .inl (by decide), .inr (by decide), ?_, by decide,
    fun q => by cases q <;> decide, by decide, by decide, by decide, by decide, ?_⟩
  · unfold NoFailSwitch; decide
  · rintro ⟨q, h, -⟩
    exact absurd h (by cases q <;> decide)

/-- R145, R147, Table 53: a FOLLOWER follows the announcement (cause 5), the alert timer restarting for the alert
hold; a switch by signal fail clears a MANUAL request for the path it leaves. -/
theorem test_follow_and_a_cleared_manual_request :
    let t := following.evaluateSelector 0 .none
    let u := ((selecting .p1 .lost .up (.manual .p1)).evaluateSelector 0 .holdOff).bun 0
    ((t.bun 0).supervisor.selector.active, (t.bun 0).delay.alertTimer,
      (t.ctrl .cp1).queue.map fun e => (e.kind, e.detail.toNat)) =
      (.p2, some (1000000 + recSel.alertHold * 125000000), [(.pathSwitch, 5 * 65536 + 256 + 2)]) ∧
    (u.supervisor.selector.active, u.supervisor.selector.request) = (.p2, .none) := by decide +kernel

/-- R142: the hold-off's expiry switches to the sound path. -/
theorem test_hold_off_switches :
    ((after (.holdOffExpiry 0) (selecting .p1 .lost .up .none)).bun 0).supervisor.selector.active =
      .p2 := by decide +kernel

/-- R140, R146: a MAIN on a LOST path 1 whose mismatch flag shows an announcement of path 2 hears path 1
on the sound path. The flag clears there and then, and the switch that follows starts the timer anew. -/
theorem test_announcement_clears_the_flag_before_the_switch :
    let r := { recSel with holdOff := 0, lossTime := 20 }
    let s := withB0 { bundle .playing r with supervisor :=
      { Supervisor.zero .p1 with
        path := ⟨{ PathRecord.zero with state := .lost }, { PathRecord.zero with state := .lost }⟩
        selector := { Selector.zero .p1 with announcement := some .path2, mismatch := true } } }
    let t := s.accept 0 { packetOf .p2 5 with header := { header0 with path := .p2, playing := .path1, rxFault := false } }
    let x := (t.bun 0).supervisor.selector
    (x.active, x.mismatch, x.mismatchTimer,
      ((t.ctrl .cp1).queue.filter fun e => e.kind == .pathMismatch).length) =
      (.p2, false, some (1000000 + 20 * 125000), 1) := by decide +kernel

theorem witness_PathCommandsObeyPrecedence :
    base.load ≠ .loading ∧ Carried base .cp1 (.pathCommand .cp1 0 4 1) ∧ localRequestOf 4 1 = none ∧
      localRequestOf 2 3 = none ∧
      localRequestOf 1 0 = some .lockout ∧ localRequestOf 3 2 = some (.manual .p2) ∧
      ((selecting .p1 .up .up (.forced .p2)).bun 0).active = some recSel ∧
      (LocalRequest.manual .p2).precedence < (LocalRequest.forced .p2).precedence ∧
      ((selecting .p1 .up .lost .none).bun 0).supervisor.signalFail .p2 = true ∧
      recSel.pathMode = .selected ∧
      ((selecting .p1 .up .up .none).bun 0).supervisor.selector.request.precedence ≤
        (LocalRequest.manual .p2).precedence ∧
      ((selecting .p1 .up .up .none).bun 0).supervisor.signalFail .p2 = false ∧
      ((selecting .p1 .up .up .none).bun 0).supervisor.signalFail .p1 = false := by decide

end Sys2Proof.Tests
end

section
/-!
What every command keeps of the ranges and capacities (`Kept`), and what the commands that move no line, no
record and no claim leave as it was (`Quiet`, `Calm`): one preorder each, with one rule for each update of the state.
-/

namespace Sys2Proof.Machine

open Safety

/-! ## Counters within their range -/

/-- A saturating counter is within its range exactly where it was. -/
@[simp] theorem bump_le_max_iff {n : Nat} : bump n ≤ 4294967295 ↔ n ≤ 4294967295 := by
  unfold bump countMax; split <;> omega

@[simp] theorem bumpBy_le_max_iff {n k : Nat} : bumpBy n k ≤ 4294967295 ↔ n ≤ 4294967295 := by
  unfold bumpBy countMax; split <;> omega

@[simp] theorem counts_nil : Counts [] := by simp [Counts]

@[simp] theorem counts_cons {n : Nat} {ns : List Nat} :
    Counts (n :: ns) ↔ n ≤ 4294967295 ∧ Counts ns := by simp [Counts]

/-- The 32-bit counters of a control port are within their range. -/
def Ctrl.Counted (c : Ctrl) : Prop :=
  Counts [c.lostCount, c.taken, c.overruns, c.badFrames, c.unknownKinds]

/-- The receive counters of a network port are within their range. -/
def RxCounters.Counted (c : RxCounters) : Prop :=
  Counts [c.whileDown, c.fcsError, c.notMine, c.otherType, c.malformed, c.unmatched, c.listDiscard,
    c.delivered]

/-- The transmit counters of a network port are within their range. -/
def TxCounters.Counted (c : TxCounters) : Prop :=
  Counts [c.joined, c.evicted, c.dropped, c.withdrawn, c.flushed, c.sent, c.aborted]

/-- The hit counts and counters of a network port are within their range. -/
def Net.Counted (x : Net) : Prop :=
  Counts (x.list.map fun e => e.hits) ∧ x.rx.Counted ∧ x.tx.Counted

/-- The counters of a steering are within their range, its samples at most 8192 (R161). -/
def Steering.Counted (x : Steering) : Prop := Counts [x.completed, x.abandoned, x.clamps]

/-- The counters of a tributary port are within their range. -/
def Trib.Counted (x : Trib) : Prop :=
  Counts [x.signalLosses, x.aisEntries, x.alignLosses, x.erroredWords] ∧ x.steer.Counted ∧
    x.steer.samples ≤ 8192

/-- The counters of the timing unit are within their range. -/
def Timing.Counted (x : Timing) : Prop :=
  x.holdoverEntries ≤ 4294967295 ∧ ∀ c, (x.candidate c).losses ≤ 4294967295

/-- The transmit counters of a bundle are within their range. -/
def Assembly.Counted (x : Assembly) : Prop :=
  Counts [x.completed, x.originFaults, x.queued, x.notOffered, x.superseded]

/-- The playout counters of a bundle are within their range. -/
def PlayCounters.Counted (x : PlayCounters) : Prop :=
  Counts [x.stored, x.late, x.mergeCopy, x.duplicate, x.early, x.standby, x.resyncs, x.slipped, x.played,
    x.playedPath1, x.playedPath2, x.originFaultPlayed, x.missing, x.underruns, x.inserted, x.skipped,
    x.parityFrames]

/-- The counters of a playout state are within their range, the start count (R94) and the run of EARLY
packets (R88) among them. -/
def Playout.Counted (p : Playout) : Prop :=
  p.counters.Counted ∧ p.startCount ≤ 65535 ∧ p.earlyRun ≤ 7

/-- The counters of a delay record are within their range. -/
def DelayRecord.Counted (x : DelayRecord) : Prop :=
  Counts [x.samples, x.implausible, x.unechoed, x.routeSteps, x.echoExpiries]

/-- The counters of both delay records of a bundle are within their range. -/
def Delay.Counted (d : Delay) : Prop := d.record.one.Counted ∧ d.record.two.Counted

/-- The counters of a path record are within their range. -/
def PathRecord.Counted (x : PathRecord) : Prop := Counts [x.ups, x.losses, x.onsets]

/-- The counters of a selector are within their range. -/
def Selector.Counted (x : Selector) : Prop := Counts [x.switches, x.mismatches]

/-- The counters of a path supervisor are within their range. -/
def Supervisor.Counted (x : Supervisor) : Prop :=
  x.path.one.Counted ∧ x.path.two.Counted ∧ x.selector.Counted

/-- The delivery counters of a bundle are within their range. -/
def Delivery.Counted (x : Delivery) : Prop := Counts [x.accepted, x.inactive, x.misrouted, x.wrongSize]

/-- Every counter of a bundle is within its range. -/
structure Bundle.Counted (x : Bundle) : Prop where
  assembly : x.assembly.Counted
  playout : x.playout.Counted
  delay : x.delay.Counted
  supervisor : x.supervisor.Counted
  delivery : x.delivery.Counted

/-- The candidates of the timing unit, read by name or by place. -/
theorem Timing.forall_candidates {P : CandidateRecord → Prop} {x : Timing} :
    (∀ c ∈ x.candidates.toList, P c) ↔ ∀ c, P (x.candidate c) := by
  constructor
  · intro h c
    exact h _ (by simp [Timing.candidate])
  · intro h c hc
    obtain ⟨i, hi, rfl⟩ := List.getElem_of_mem hc
    simp only [Vector.length_toList] at hi
    rcases i with _ | i
    · simpa [Timing.candidate, Candidate.index] using h .station
    · simpa [Timing.candidate, Candidate.index] using h (.trib ⟨i, by omega⟩)

/-- The counters of the part are within their range where each block's are. -/
theorem countersBounded_iff {s : State} : CountersBounded s ↔
    (∀ cp, (s.ctrl cp).Counted) ∧ (∀ n, (s.net n).Counted) ∧ (∀ p, (s.trib p).Counted) ∧
      s.timing.Counted ∧ ∀ b, (s.bun b).Counted := by
  constructor
  · intro h
    refine ⟨h.ctrls, fun n => ⟨h.hits n, h.rx n _ rfl, h.tx n _ rfl⟩, fun p => ?_, ?_, fun b => ?_⟩
    · have k := h.tribs p _ rfl
      simp only [counts_cons, counts_nil, and_true] at k
      simp [Trib.Counted, Steering.Counted, k, h.samples p]
    · have k := h.timing
      simp only [counts_cons] at k
      exact ⟨k.1, Timing.forall_candidates.1 fun c hc => k.2 _ (List.mem_map_of_mem hc)⟩
    · exact ⟨h.assembly b _ rfl, ⟨h.playout b _ rfl, h.start b, h.early b⟩,
        ⟨h.delay b .p1 _ rfl, h.delay b .p2 _ rfl⟩,
        ⟨h.paths b .p1 _ rfl, h.paths b .p2 _ rfl, h.selector b _ rfl⟩, h.delivery b _ rfl⟩
  · rintro ⟨hc, hn, hp, ht, hb⟩
    exact {
      ctrls := hc
      hits := fun n => (hn n).1
      rx := by rintro n _ rfl; exact (hn n).2.1
      tx := by rintro n _ rfl; exact (hn n).2.2
      tribs := by
        rintro p _ rfl
        obtain ⟨h1, h2, -⟩ := hp p
        simp_all [Steering.Counted]
      samples := fun p => (hp p).2.2
      timing := by
        refine counts_cons.2 ⟨ht.1, fun n h => ?_⟩
        obtain ⟨c, hc, rfl⟩ := List.mem_map.1 h
        exact Timing.forall_candidates (P := fun c => c.losses ≤ 4294967295).2 ht.2 c hc
      assembly := by rintro b _ rfl; exact (hb b).assembly
      playout := by rintro b _ rfl; exact (hb b).playout.1
      start := fun b => (hb b).playout.2.1
      early := fun b => (hb b).playout.2.2
      delay := by
        rintro b p _ rfl
        cases p
        · exact (hb b).delay.1
        · exact (hb b).delay.2
      paths := by
        rintro b p _ rfl
        cases p
        · exact (hb b).supervisor.1
        · exact (hb b).supervisor.2.1
      selector := by rintro b _ rfl; exact (hb b).supervisor.2.2
      delivery := by rintro b _ rfl; exact (hb b).delivery }

end Sys2Proof.Machine
end

section
/-! The preorders `Kept`, `Quiet` and `Calm`, and their rules for each update of the state. -/

namespace Sys2Proof

namespace Machine

open Safety

/-! ## Reads after writes -/

theorem State.bun_modBun (s : State) (b c : BundleId) (f : Bundle → Bundle) :
    (s.modBun b f).bun c = if c = b then f (s.bun b) else s.bun c := by
  split
  · next h => subst h; simp
  · next h => exact State.bun_modBun_ne s f h

theorem State.trib_modTrib (s : State) (p q : TribId) (f : Trib → Trib) :
    (s.modTrib p f).trib q = if q = p then f (s.trib p) else s.trib q := by
  split
  · next h => subst h; simp
  · next h => exact State.trib_modTrib_ne s f h

theorem State.net_modNet (s : State) (n m : NetPort) (f : Net → Net) :
    (s.modNet n f).net m = if m = n then f (s.net n) else s.net m := by
  split
  · next h => subst h; simp
  · next h => exact State.net_modNet_ne s f h

theorem State.ctrl_modCtrl (s : State) (cp dp : CtrlPort) (f : Ctrl → Ctrl) :
    (s.modCtrl cp f).ctrl dp = if dp = cp then f (s.ctrl cp) else s.ctrl dp := by
  split
  · next h => subst h; simp
  · next h => exact State.ctrl_modCtrl_ne s f h

theorem Timing.candidate_setCandidate (x : Timing) (c d : Candidate) (r : CandidateRecord) :
    (x.setCandidate c r).candidate d = if d = c then r else x.candidate d := by
  split
  · next h => subst h; simp
  · next h => exact x.candidate_setCandidate_ne r h

/-! ## Ranges and capacities -/

/-- Where `x` is in the capacities `P` and the ranges `Q`, `y` is. -/
def Keeps {α : Type} (P Q : α → Prop) (x y : α) : Prop := (P x → P y) ∧ (Q x → Q y)

theorem Keeps.refl {α : Type} {P Q : α → Prop} (x : α) : Keeps P Q x x := ⟨id, id⟩

theorem Keeps.trans {α : Type} {P Q : α → Prop} {x y z : α} (h : Keeps P Q x y) (k : Keeps P Q y z) :
    Keeps P Q x z := ⟨k.1 ∘ h.1, k.2 ∘ h.2⟩

/-- A bundle holds at most four packets (R48). -/
def Bundle.HeldBounded (x : Bundle) : Prop := x.assembly.held.length ≤ 4

/-- The settings lie in their ranges (R170). -/
def Settings.Ranged (x : Settings) : Prop :=
  bundleTypeValid x.bundleType = true ∧ 1 ≤ x.idleLimit ∧ x.idleLimit ≤ 60

/-- The step from `s` to `t` keeps every capacity and every range. -/
structure Kept (s t : State) : Prop where
  ctrls : ∀ cp, Keeps QueueBounded Ctrl.Counted (s.ctrl cp) (t.ctrl cp)
  nets : ∀ n, Keeps NetBounded Net.Counted (s.net n) (t.net n)
  tribs : ∀ p, Keeps TribBounded Trib.Counted (s.trib p) (t.trib p)
  bundles : ∀ b, Keeps Bundle.HeldBounded Bundle.Counted (s.bun b) (t.bun b)
  timing : s.timing.Counted → t.timing.Counted
  faults : s.faults.count ≤ 255 → t.faults.count ≤ 255
  settings : s.settings.Ranged → t.settings.Ranged

theorem Kept.refl (s : State) : Kept s s :=
  ⟨fun _ => .refl _, fun _ => .refl _, fun _ => .refl _, fun _ => .refl _, id, id, id⟩

theorem Kept.trans {s t u : State} (h : Kept s t) (k : Kept t u) : Kept s u :=
  ⟨fun c => (h.ctrls c).trans (k.ctrls c), fun n => (h.nets n).trans (k.nets n),
    fun p => (h.tribs p).trans (k.tribs p), fun b => (h.bundles b).trans (k.bundles b),
    k.timing ∘ h.timing, k.faults ∘ h.faults, k.settings ∘ h.settings⟩

/-- What a kept step says of the two statements of the part. -/
theorem Kept.bounded {s t : State} (h : Kept s t) :
    (Bounded s → Bounded t) ∧ (CountersBounded s → CountersBounded t) := by
  constructor
  · intro b
    obtain ⟨hb, hi⟩ := h.settings ⟨b.bundleType, b.idleLimit⟩
    exact ⟨fun c => (h.ctrls c).1 (b.queues c), fun n => (h.nets n).1 (b.nets n),
      fun c => (h.bundles c).1 (b.held c), fun p => (h.tribs p).1 (b.tribs p), h.faults b.faults, hb, hi⟩
  · rw [countersBounded_iff, countersBounded_iff]
    rintro ⟨hc, hn, hp, ht, hb⟩
    exact ⟨fun c => (h.ctrls c).2 (hc c), fun n => (h.nets n).2 (hn n), fun p => (h.tribs p).2 (hp p),
      h.timing ht, fun b => (h.bundles b).2 (hb b)⟩

theorem Kept.modBun (s : State) (b : BundleId) (f : Bundle → Bundle)
    (h : Keeps Bundle.HeldBounded Bundle.Counted (s.bun b) (f (s.bun b))) : Kept s (s.modBun b f) where
  ctrls _ := .refl _
  nets _ := .refl _
  tribs _ := .refl _
  bundles c := by
    rw [State.bun_modBun]; split
    · next e => subst e; exact h
    · exact .refl _
  timing := id
  faults := id
  settings := id

theorem Kept.modTrib (s : State) (p : TribId) (f : Trib → Trib)
    (h : Keeps TribBounded Trib.Counted (s.trib p) (f (s.trib p))) : Kept s (s.modTrib p f) where
  ctrls _ := .refl _
  nets _ := .refl _
  tribs q := by
    rw [State.trib_modTrib]; split
    · next e => subst e; exact h
    · exact .refl _
  bundles _ := .refl _
  timing := id
  faults := id
  settings := id

theorem Kept.modNet (s : State) (n : NetPort) (f : Net → Net)
    (h : Keeps NetBounded Net.Counted (s.net n) (f (s.net n))) : Kept s (s.modNet n f) where
  ctrls _ := .refl _
  nets m := by
    rw [State.net_modNet]; split
    · next e => subst e; exact h
    · exact .refl _
  tribs _ := .refl _
  bundles _ := .refl _
  timing := id
  faults := id
  settings := id

theorem Kept.modCtrl (s : State) (cp : CtrlPort) (f : Ctrl → Ctrl)
    (h : Keeps QueueBounded Ctrl.Counted (s.ctrl cp) (f (s.ctrl cp))) : Kept s (s.modCtrl cp f) where
  ctrls c := by
    rw [State.ctrl_modCtrl]; split
    · next e => subst e; exact h
    · exact .refl _
  nets _ := .refl _
  tribs _ := .refl _
  bundles _ := .refl _
  timing := id
  faults := id
  settings := id

/-- Nothing but the control ports and the parts that no range speaks of differs. -/
theorem Kept.of_ctrls {s t : State} (hc : ∀ cp, Keeps QueueBounded Ctrl.Counted (s.ctrl cp) (t.ctrl cp))
    (hn : t.nets = s.nets) (hp : t.tribs = s.tribs) (hb : t.bundles = s.bundles)
    (ht : t.timing = s.timing) (hf : t.faults = s.faults) (hs : t.settings = s.settings) :
    Kept s t where
  ctrls := hc
  nets n := by rw [show t.net n = s.net n by simp only [State.net, hn]]; exact .refl _
  tribs p := by rw [show t.trib p = s.trib p by simp only [State.trib, hp]]; exact .refl _
  bundles b := by rw [show t.bun b = s.bun b by simp only [State.bun, hb]]; exact .refl _
  timing := by rw [ht]; exact id
  faults := by rw [hf]; exact id
  settings := by rw [hs]; exact id

theorem Ctrl.keeps_offer (c : Ctrl) (e : Event) :
    Keeps QueueBounded Ctrl.Counted c (c.offer e) := by
  refine ⟨Ctrl.offer_queue_le e, fun h => ?_⟩
  unfold Ctrl.offer
  split
  · exact h
  · simpa [Ctrl.Counted] using h

theorem Kept.post (s : State) (k : EventKind) (j : Subject) (d : Nat) : Kept s (s.post k j d) :=
  .of_ctrls (fun cp => by rw [State.ctrl_post]; exact Ctrl.keeps_offer ..) rfl rfl rfl rfl rfl rfl

theorem Kept.modTiming (s : State) (x : Timing) (h : s.timing.Counted → x.Counted) :
    Kept s { s with timing := x } :=
  ⟨fun _ => .refl _, fun _ => .refl _, fun _ => .refl _, fun _ => .refl _, h, id, id⟩

/-! ## Queues that only grow, and what a quiet step leaves -/

/-- An event queue takes events and loses none. -/
structure Grows (c d : Ctrl) : Prop where
  queue : c.queue <+: d.queue
  lost : c.lost = true → d.lost = true

theorem Grows.refl (c : Ctrl) : Grows c c := ⟨List.prefix_refl _, id⟩

theorem Grows.trans {c d e : Ctrl} (h : Grows c d) (k : Grows d e) : Grows c e :=
  ⟨h.queue.trans k.queue, k.lost ∘ h.lost⟩

theorem Ctrl.grows_offer (c : Ctrl) (e : Event) : Grows c (c.offer e) := by
  unfold Ctrl.offer
  split
  · exact ⟨List.prefix_append _ _, id⟩
  · exact ⟨List.prefix_refl _, fun _ => rfl⟩

/-- No time passes, both event queues grow and neither link changes its state. -/
structure Hush (s t : State) : Prop where
  now : t.now = s.now
  queues : ∀ cp, Grows (s.ctrl cp) (t.ctrl cp)
  up : ∀ n, (t.net n).up = (s.net n).up

theorem Hush.refl (s : State) : Hush s s := ⟨rfl, fun _ => .refl _, fun _ => rfl⟩

theorem Hush.trans {s t u : State} (h : Hush s t) (k : Hush t u) : Hush s u :=
  ⟨k.now.trans h.now, fun c => (h.queues c).trans (k.queues c), fun n => (k.up n).trans (h.up n)⟩

/-- Of a port, what the line and its configuration are. -/
structure SameLine (x y : Trib) : Prop where
  cfg : y.cfg = x.cfg
  rx : y.rx = x.rx
  remoteAlarm : y.remoteAlarm = x.remoteAlarm
  onesRun : y.onesRun = x.onesRun
  zerosRun : y.zerosRun = x.zerosRun
  alignNext : y.alignNext = x.alignNext

theorem SameLine.refl (x : Trib) : SameLine x x := ⟨rfl, rfl, rfl, rfl, rfl, rfl⟩

theorem SameLine.trans {x y z : Trib} (h : SameLine x y) (k : SameLine y z) : SameLine x z :=
  ⟨k.cfg.trans h.cfg, k.rx.trans h.rx, k.remoteAlarm.trans h.remoteAlarm, k.onesRun.trans h.onesRun,
    k.zerosRun.trans h.zerosRun, k.alignNext.trans h.alignNext⟩

/-- Every line is as it was, and its clock candidate as valid. -/
structure SameLines (s t : State) : Prop where
  line : ∀ p, SameLine (s.trib p) (t.trib p)
  valid : ∀ p, (t.timing.candidate (.trib p)).valid = (s.timing.candidate (.trib p)).valid

theorem SameLines.refl (s : State) : SameLines s s := ⟨fun _ => .refl _, fun _ => rfl⟩

theorem SameLines.trans {s t u : State} (h : SameLines s t) (k : SameLines t u) : SameLines s u :=
  ⟨fun p => (h.line p).trans (k.line p), fun p => (k.valid p).trans (h.valid p)⟩

/-- Of a bundle, the records of its table entry. -/
structure SameRecords (x y : Bundle) : Prop where
  active : y.active = x.active
  pending : y.pending = x.pending
  armed : y.armed = x.armed

theorem SameRecords.refl (x : Bundle) : SameRecords x x := ⟨rfl, rfl, rfl⟩

theorem SameRecords.trans {x y z : Bundle} (h : SameRecords x y) (k : SameRecords y z) :
    SameRecords x z :=
  ⟨k.active.trans h.active, k.pending.trans h.pending, k.armed.trans h.armed⟩

/-- A step that moves no line, no link, no record and no claim, and keeps every range. -/
structure Quiet (s t : State) : Prop where
  hush : Hush s t
  kept : Kept s t
  lines : SameLines s t
  claims : t.claims = s.claims
  records : ∀ b, SameRecords (s.bun b) (t.bun b)
  samples : ∀ p, (t.trib p).steer.samples ≤ (s.trib p).steer.samples

theorem Quiet.refl (s : State) : Quiet s s :=
  ⟨.refl s, .refl s, .refl s, rfl, fun _ => .refl _, fun _ => Nat.le_refl _⟩

theorem Quiet.trans {s t u : State} (h : Quiet s t) (k : Quiet t u) : Quiet s u :=
  ⟨h.hush.trans k.hush, h.kept.trans k.kept, h.lines.trans k.lines, k.claims.trans h.claims,
    fun b => (h.records b).trans (k.records b), fun p => (k.samples p).trans (h.samples p)⟩

/-- A quiet step in which no bundle changes its state. -/
structure Calm (s t : State) : Prop where
  quiet : Quiet s t
  states : ∀ b, (t.bun b).state = (s.bun b).state

theorem Calm.refl (s : State) : Calm s s := ⟨.refl s, fun _ => rfl⟩

theorem Calm.trans {s t u : State} (h : Calm s t) (k : Calm t u) : Calm s u :=
  ⟨h.quiet.trans k.quiet, fun b => (k.states b).trans (h.states b)⟩

theorem Calm.ite {s t u : State} {c : Prop} [Decidable c] (h : Calm s t) (k : Calm s u) :
    Calm s (if c then t else u) := by split <;> assumption

theorem Calm.foldl {α : Type} {f : State → α → State} (h : ∀ s x, Calm s (f s x)) (xs : List α)
    (s : State) : Calm s (xs.foldl f s) := by
  induction xs generalizing s with
  | nil => exact .refl s
  | cons x xs ih => exact (h s x).trans (ih (f s x))

/-! ## Bundles -/

/-- A change of a bundle that keeps its records and its ranges. -/
theorem Quiet.modBun (s : State) (b : BundleId) (f : Bundle → Bundle)
    (h : SameRecords (s.bun b) (f (s.bun b)))
    (k : Keeps Bundle.HeldBounded Bundle.Counted (s.bun b) (f (s.bun b))) :
    Quiet s (s.modBun b f) where
  hush := ⟨rfl, fun _ => .refl _, fun _ => rfl⟩
  kept := .modBun s b f k
  lines := ⟨fun _ => .refl _, fun _ => rfl⟩
  claims := rfl
  records c := by
    rw [State.bun_modBun]; split
    · next e => subst e; exact h
    · exact .refl _
  samples _ := Nat.le_refl _

theorem Calm.modBun (s : State) (b : BundleId) (f : Bundle → Bundle)
    (h : SameRecords (s.bun b) (f (s.bun b))) (e : (f (s.bun b)).state = (s.bun b).state)
    (k : Keeps Bundle.HeldBounded Bundle.Counted (s.bun b) (f (s.bun b))) :
    Calm s (s.modBun b f) where
  quiet := .modBun s b f h k
  states c := by
    rw [State.bun_modBun]; split
    · next e' => subst e'; exact e
    · rfl

theorem Calm.modPlayout (s : State) (b : BundleId) (f : Playout → Playout)
    (h : (s.bun b).playout.Counted → (f (s.bun b).playout).Counted) : Calm s (s.modPlayout b f) :=
  .modBun s b _ ⟨rfl, rfl, rfl⟩ rfl
    ⟨id, fun k => ⟨k.assembly, h k.playout, k.delay, k.supervisor, k.delivery⟩⟩

theorem Calm.modDelay (s : State) (b : BundleId) (f : Delay → Delay)
    (h : (s.bun b).delay.Counted → (f (s.bun b).delay).Counted) : Calm s (s.modDelay b f) :=
  .modBun s b _ ⟨rfl, rfl, rfl⟩ rfl
    ⟨id, fun k => ⟨k.assembly, k.playout, h k.delay, k.supervisor, k.delivery⟩⟩

theorem Calm.modSupervisor (s : State) (b : BundleId) (f : Supervisor → Supervisor)
    (h : (s.bun b).supervisor.Counted → (f (s.bun b).supervisor).Counted) :
    Calm s (s.modSupervisor b f) :=
  .modBun s b _ ⟨rfl, rfl, rfl⟩ rfl
    ⟨id, fun k => ⟨k.assembly, k.playout, k.delay, h k.supervisor, k.delivery⟩⟩

theorem Calm.modAssembly (s : State) (b : BundleId) (f : Assembly → Assembly)
    (k : (s.bun b).assembly.held.length ≤ 4 → (f (s.bun b).assembly).held.length ≤ 4)
    (h : (s.bun b).assembly.Counted → (f (s.bun b).assembly).Counted) :
    Calm s (s.modAssembly b f) :=
  .modBun s b _ ⟨rfl, rfl, rfl⟩ rfl
    ⟨k, fun k => ⟨h k.assembly, k.playout, k.delay, k.supervisor, k.delivery⟩⟩

theorem Calm.modPlay (s : State) (b : BundleId) (f : PlayCounters → PlayCounters)
    (h : (s.bun b).playout.counters.Counted → (f (s.bun b).playout.counters).Counted) :
    Calm s (s.modPlay b f) :=
  .modPlayout s b _ fun k => ⟨h k.1, k.2⟩

/-- A change of a selector that keeps its counters within their range. -/
theorem Calm.modSelector (s : State) (b : BundleId) (f : Selector → Selector)
    (h : ∀ x : Selector, x.Counted → (f x).Counted := by
      intro x h; simpa [Selector.Counted] using h) :
    Calm s (s.modSelector b f) :=
  .modSupervisor s b _ fun q => ⟨q.1, q.2.1, h _ q.2.2⟩

/-! ## Events, faults and steering -/

theorem Calm.post (s : State) (k : EventKind) (j : Subject) (d : Nat) : Calm s (s.post k j d) where
  quiet := {
    hush := ⟨rfl, fun cp => by rw [State.ctrl_post]; exact Ctrl.grows_offer .., fun _ => rfl⟩
    kept := .post s k j d
    lines := ⟨fun _ => .refl _, fun _ => rfl⟩
    claims := rfl
    records := fun _ => .refl _
    samples := fun _ => Nat.le_refl _ }
  states _ := rfl

theorem Calm.postIf (s : State) (c : Bool) (k : EventKind) (j : Subject) (d : Nat) :
    Calm s (s.postIf c k j d) := by unfold State.postIf; exact .ite (.post ..) (.refl _)

theorem Calm.recordFault (s : State) (k : FaultKind) (j : Option BundleId) (d : Nat) :
    Calm s (s.recordFault k j d) := by
  have h : Calm s { s with faults := s.faults.add ⟨k, j, s.eventTime, d⟩ } :=
    ⟨⟨⟨rfl, fun _ => .refl _, fun _ => rfl⟩, { Kept.refl s with faults := Faults.add_count_le _ },
      ⟨fun _ => .refl _, fun _ => rfl⟩, rfl, fun _ => .refl _, fun _ => Nat.le_refl _⟩, fun _ => rfl⟩
  exact h.trans (.post ..)

/-- An abandoned interval is counted, and keeps the ranges. -/
theorem Steering.abandon_counted {x : Steering} (h : x.Counted) : x.abandon.Counted := by
  unfold Steering.abandon
  split
  · exact h
  · simpa [Steering.Counted] using h

/-- A change of a port that leaves its line and takes no sample. -/
theorem Calm.of_tribs {s t : State} (ht : t = { s with tribs := t.tribs })
    (line : ∀ p, SameLine (s.trib p) (t.trib p))
    (kept : ∀ p, Keeps TribBounded Trib.Counted (s.trib p) (t.trib p))
    (samples : ∀ p, (t.trib p).steer.samples ≤ (s.trib p).steer.samples) : Calm s t := by
  have hn : t.now = s.now := by rw [ht]
  have hcl : t.claims = s.claims := by rw [ht]
  have hb : ∀ b, t.bun b = s.bun b := fun b => by rw [ht]; rfl
  have hu : ∀ n, t.net n = s.net n := fun n => by rw [ht]; rfl
  have hc : ∀ cp, t.ctrl cp = s.ctrl cp := fun cp => by rw [ht]; rfl
  have htm : t.timing = s.timing := by rw [ht]
  have hf : t.faults = s.faults := by rw [ht]
  have hs : t.settings = s.settings := by rw [ht]
  exact {
    quiet := {
      hush := ⟨hn, fun cp => by rw [hc]; exact .refl _, fun n => by rw [hu]⟩
      kept := ⟨fun cp => by rw [hc]; exact .refl _, fun n => by rw [hu]; exact .refl _, kept,
        fun b => by rw [hb]; exact .refl _, by rw [htm]; exact id, by rw [hf]; exact id,
        by rw [hs]; exact id⟩
      lines := ⟨line, fun p => by rw [htm]⟩
      claims := hcl
      records := fun b => by rw [hb]; exact .refl _
      samples := samples }
    states := fun b => by rw [hb] }

theorem Trib.keeps_steer {x : Trib} (y : Steering)
    (i : -65536 ≤ x.steer.integrator ∧ x.steer.integrator ≤ 65536 →
      -65536 ≤ y.integrator ∧ y.integrator ≤ 65536)
    (o : -65536 ≤ x.steer.offset ∧ x.steer.offset ≤ 65536 → -65536 ≤ y.offset ∧ y.offset ≤ 65536)
    (c : x.steer.Counted → y.Counted) (n : x.steer.samples ≤ 8192 → y.samples ≤ 8192) :
    Keeps TribBounded Trib.Counted x { x with steer := y } := by
  constructor
  · rintro ⟨i1, i2, o1, o2, rest⟩
    exact ⟨(i ⟨i1, i2⟩).1, (i ⟨i1, i2⟩).2, (o ⟨o1, o2⟩).1, (o ⟨o1, o2⟩).2, rest⟩
  · rintro ⟨h1, h2, h3⟩
    exact ⟨h1, c h2, n h3⟩

theorem Trib.keeps_abandon (x : Trib) :
    Keeps TribBounded Trib.Counted x { x with steer := x.steer.abandon } := by
  obtain ⟨hi, ho, hn⟩ := x.steer.abandon_spec
  exact x.keeps_steer _ (by rw [hi]; exact id) (by rw [ho]; exact id) Steering.abandon_counted
    (by rw [hn]; omega)

theorem Calm.abandonSteering (s : State) (b : BundleId) : Calm s (s.abandonSteering b) := by
  refine .of_tribs rfl (fun p => ?_) (fun p => ?_) (fun p => ?_) <;>
    rw [State.trib_abandonSteering] <;> split
  · exact ⟨rfl, rfl, rfl, rfl, rfl, rfl⟩
  · exact .refl _
  · exact Trib.keeps_abandon _
  · exact .refl _
  · simp [Steering.abandon_spec]
  · exact Nat.le_refl _

/-! ## Network ports -/

theorem Calm.modNet (s : State) (n : NetPort) (f : Net → Net) (up : (f (s.net n)).up = (s.net n).up)
    (h : Keeps NetBounded Net.Counted (s.net n) (f (s.net n))) : Calm s (s.modNet n f) where
  quiet := {
    hush := ⟨rfl, fun _ => .refl _, fun m => by
      rw [State.net_modNet]; split
      · next e => subst e; exact up
      · rfl⟩
    kept := .modNet s n f h
    lines := ⟨fun _ => .refl _, fun _ => rfl⟩
    claims := rfl
    records := fun _ => .refl _
    samples := fun _ => Nat.le_refl _ }
  states _ := rfl

theorem Calm.modTx (s : State) (n : NetPort) (f : TxCounters → TxCounters)
    (h : ∀ c : TxCounters, c.Counted → (f c).Counted) : Calm s (s.modTx n f) :=
  .modNet s n _ rfl ⟨id, fun k => ⟨k.1, k.2.1, h _ k.2.2⟩⟩

theorem Calm.modRx (s : State) (n : NetPort) (f : RxCounters → RxCounters)
    (h : ∀ c : RxCounters, c.Counted → (f c).Counted) : Calm s (s.modRx n f) :=
  .modNet s n _ rfl ⟨id, fun k => ⟨k.1, h _ k.2.1, k.2.2⟩⟩

/-! ## Control ports -/

theorem Calm.modCtrl (s : State) (cp : CtrlPort) (f : Ctrl → Ctrl) (g : Grows (s.ctrl cp) (f (s.ctrl cp)))
    (h : Keeps QueueBounded Ctrl.Counted (s.ctrl cp) (f (s.ctrl cp))) : Calm s (s.modCtrl cp f) where
  quiet := {
    hush := ⟨rfl, fun c => by
      rw [State.ctrl_modCtrl]; split
      · next e => subst e; exact g
      · exact .refl _, fun _ => rfl⟩
    kept := .modCtrl s cp f h
    lines := ⟨fun _ => .refl _, fun _ => rfl⟩
    claims := rfl
    records := fun _ => .refl _
    samples := fun _ => Nat.le_refl _ }
  states _ := rfl

theorem Calm.decide (s : State) (cp : CtrlPort) (k : Nat) (x : Status) (bs : List Byte) :
    Calm s (s.decide cp k x bs) := .modCtrl s cp _ ⟨List.prefix_refl _, id⟩ (.refl _)

theorem Calm.refuse (s : State) (cp : CtrlPort) (k : Nat) (x : Status) : Calm s (s.refuse cp k x) :=
  .decide ..

/-- A change of parts that no range, line, record or link is in. -/
theorem Calm.of_rest {s t : State} (now : t.now = s.now) (bundles : t.bundles = s.bundles)
    (tribs : t.tribs = s.tribs) (nets : t.nets = s.nets) (timing : t.timing = s.timing)
    (ctrls : t.ctrls = s.ctrls) (claims : t.claims = s.claims) (settings : t.settings = s.settings)
    (faults : t.faults = s.faults) : Calm s t := by
  have hb : ∀ b, t.bun b = s.bun b := fun b => by simp only [State.bun, bundles]
  have hp : ∀ p, t.trib p = s.trib p := fun p => by simp only [State.trib, tribs]
  have hn : ∀ n, t.net n = s.net n := fun n => by simp only [State.net, nets]
  have hc : ∀ c, t.ctrl c = s.ctrl c := fun c => by simp only [State.ctrl, ctrls]
  exact {
    quiet := {
      hush := ⟨now, fun c => by rw [hc]; exact .refl _, fun n => by rw [hn]⟩
      kept := .of_ctrls (fun c => by rw [hc]; exact .refl _) nets tribs bundles timing faults settings
      lines := ⟨fun p => by rw [hp]; exact .refl _, fun p => by rw [timing]⟩
      claims := claims
      records := fun b => by rw [hb]; exact .refl _
      samples := fun p => by rw [hp] }
    states := fun b => by rw [hb] }

end Machine

end Sys2Proof
end

section
/-!
The operations of the delay unit, the playout store and the path supervisor: which are calm, and which post
every change of bundle state they make (`Retold`).
-/

namespace Sys2Proof.Machine

open Safety

/-! ## Changes of bundle state that are posted (R35) -/

/-- Every change of a bundle's state is posted with some cause. -/
def Told (s t : State) : Prop := ∀ b, (t.bun b).state ≠ (s.bun b).state →
  ∃ cause, Reported t (bundleStateEvent s b (s.bun b).state (t.bun b).state cause)

/-- An event once reported stays reported while the queues grow. -/
theorem reported_mono {s t : State} {e : Event} (h : Reported s e)
    (k : ∀ cp, Grows (s.ctrl cp) (t.ctrl cp)) : Reported t e := fun cp =>
  (h cp).imp (fun m => (k cp).queue.subset m) (k cp).lost

/-- The events of one instant are the same seen from any state of that instant. -/
theorem eventNow_of_now {s t : State} (h : t.now = s.now) : eventNow t = eventNow s := by
  funext k j d; simp [eventNow, State.eventTime, h]

theorem Told.of_states {s t : State} (h : ∀ b, (t.bun b).state = (s.bun b).state) : Told s t :=
  fun b ne => absurd (h b) ne

theorem Told.before {s t u : State} (now : t.now = s.now)
    (h : ∀ b, (t.bun b).state = (s.bun b).state) (k : Told t u) : Told s u := fun b ne => by
  obtain ⟨cause, r⟩ := k b (by rw [h b]; exact ne)
  exact ⟨cause, by simpa only [bundleStateEvent, eventNow_of_now now, h b] using r⟩

theorem Told.after {s t u : State} (k : Told s t) (q : ∀ cp, Grows (t.ctrl cp) (u.ctrl cp))
    (h : ∀ b, (u.bun b).state = (t.bun b).state) : Told s u := fun b ne => by
  obtain ⟨cause, r⟩ := k b (by rw [← h b]; exact ne)
  exact ⟨cause, by rw [h b]; exact reported_mono r q⟩

/-- A quiet step that posts each change of bundle state. -/
structure Retold (s t : State) : Prop where
  quiet : Quiet s t
  told : Told s t

theorem Calm.retold {s t : State} (h : Calm s t) : Retold s t := ⟨h.quiet, .of_states h.states⟩

theorem Calm.andThen {s t u : State} (h : Calm s t) (k : Retold t u) : Retold s u :=
  ⟨h.quiet.trans k.quiet, k.told.before h.quiet.hush.now h.states⟩

theorem Retold.andCalm {s t u : State} (h : Retold s t) (k : Calm t u) : Retold s u :=
  ⟨h.quiet.trans k.quiet, h.told.after k.quiet.hush.queues k.states⟩

theorem Retold.ite {s t u : State} {c : Prop} [Decidable c] (h : Retold s t) (k : Retold s u) :
    Retold s (if c then t else u) := by split <;> assumption

theorem reported_post (s : State) (k : EventKind) (j : Subject) (d : Nat) :
    Reported (s.post k j d) (eventNow s k j d) := fun cp => by
  rw [State.ctrl_post]; exact Ctrl.offer_reported _ _

/-- A change of one bundle's state is posted (R35). -/
theorem Retold.changeState (s : State) (b : BundleId) (new : BState) (cause : StateCause) :
    Retold s (s.changeState b new cause) := by
  have keep : Keeps Bundle.HeldBounded Bundle.Counted (s.bun b) { s.bun b with state := new } :=
    ⟨id, fun k => ⟨k.assembly, k.playout, k.delay, k.supervisor, k.delivery⟩⟩
  have set : Quiet s (s.modBun b fun x => { x with state := new }) :=
    .modBun s b _ ⟨rfl, rfl, rfl⟩ keep
  have others : ∀ c, c ≠ b → (s.changeState b new cause).bun c = s.bun c :=
    (Local.changeState s b new cause).others
  have own := s.bun_changeState b new cause
  constructor
  · unfold State.changeState State.postBundleState
    simp only
    split
    · exact (set.trans (Calm.abandonSteering _ b).quiet).trans (Calm.post ..).quiet
    · exact set.trans (Calm.post ..).quiet
  · intro c ne
    obtain rfl : c = b := by
      by_contra e
      exact ne (by rw [others c e])
    refine ⟨cause, ?_⟩
    have r : ∀ u : State, u.now = s.now → Reported (u.postBundleState c (s.bun c).state new cause)
        (bundleStateEvent s c (s.bun c).state new cause) := fun u hu => by
      have d : 0 * 16777216 + changeDetail (s.bun c).state.code new.code cause.code =
          cause.code * 65536 + (s.bun c).state.code * 256 + new.code := by
        rw [Nat.zero_mul, Nat.zero_add]; rfl
      have e := reported_post u .bundleState (.bundle c)
        (cause.code * 65536 + (s.bun c).state.code * 256 + new.code)
      rw [eventNow_of_now hu, ← d] at e
      rw [bundleStateEvent, ← d]
      exact e
    rw [own]
    unfold State.changeState
    simp only
    split
    · exact r ((s.modBun c fun x => { x with state := new }).abandonSteering c) rfl
    · exact r (s.modBun c fun x => { x with state := new }) rfl

/-! ## The delay unit (chapter 6) -/

theorem Calm.startAdjust (s : State) (b : BundleId) (target : Nat) :
    Calm s (s.startAdjust b target) := by
  unfold State.startAdjust
  simp only
  split
  · exact ((Calm.modPlayout s b _ id).trans (.abandonSteering _ b)).trans (.post ..)
  · exact (Calm.modPlayout s b _ id).trans (.post ..)

theorem Calm.setTarget (s : State) (b : BundleId) (target : Nat) : Calm s (s.setTarget b target) :=
  .modDelay s b _ id

theorem Calm.adoptPlaying (s : State) (b : BundleId) (target : Nat) :
    Calm s (s.adoptPlaying b target) := (Calm.setTarget s b _).trans (.startAdjust ..)

theorem Calm.propose (s : State) (b : BundleId) (proposed : Option Nat) (shown : Nat) :
    Calm s (s.propose b proposed shown) := (Calm.modDelay s b _ id).trans (.post ..)

theorem Calm.dropProposal (s : State) (b : BundleId) : Calm s (s.dropProposal b) :=
  .modDelay s b _ id

theorem Calm.settlePlaying (s : State) (b : BundleId) (r : Record) (target : Nat) :
    Calm s (s.settlePlaying b r target) := by
  unfold State.settlePlaying
  simp only
  split
  · split
    · exact .adoptPlaying ..
    · exact .ite (.refl _) (.propose ..)
  · split
    · exact .propose ..
    · exact .refl _

theorem Calm.setEqualiseFlags (s : State) (b : BundleId) (c : Computation) :
    Calm s (s.setEqualiseFlags b c) :=
  ((Calm.modDelay s b _ id).trans (.postIf ..)).trans (.postIf ..)

theorem Calm.endEstimateWait (s : State) (b : BundleId) (found : Bool) :
    Calm s (s.endEstimateWait b found) := by
  unfold State.endEstimateWait; exact .ite (.modPlayout _ _ _ id) (.refl _)

/-- A target computation changes no state of any bundle (R124). -/
theorem Calm.computeTarget (s : State) (b : BundleId) : Calm s (s.computeTarget b) := by
  unfold State.computeTarget
  simp only
  split
  · exact .refl _
  · rename_i r _
    refine .trans (.trans (.setEqualiseFlags s b ((s.bun b).computation r))
      (.endEstimateWait _ b ((s.bun b).computation r).found)) ?_
    split
    · exact .settlePlaying ..
    · exact .setTarget ..
    · exact .setTarget ..
    · exact .setTarget ..
    · exact .refl _

theorem Calm.restartAlert (s : State) (b : BundleId) (r : Record) : Calm s (s.restartAlert b r) :=
  .modDelay s b _ id

/-- A bundle's delay records are counted while the one of a path is replaced by one that is. -/
theorem Delay.counted_setPath {d : Delay} (h : d.Counted) (p : Path) {x : DelayRecord}
    (k : (d.record.atPath p).Counted → x.Counted) (e : Two Echo) :
    Delay.Counted { d with echo := e, record := d.record.setPath p x } := by
  cases p
  · exact ⟨k h.1, h.2⟩
  · exact ⟨h.1, k h.2⟩

theorem DelayRecord.sample_counted (x : DelayRecord) (r : Record) (rtt : Nat) (h : x.Counted) :
    (x.sample r rtt).1.Counted := by
  unfold DelayRecord.sample
  split
  · simp only
    split <;> simpa [DelayRecord.Counted] using h
  · simpa [DelayRecord.Counted] using h

theorem Calm.takeSample (s : State) (b : BundleId) (r : Record) (p : Path) (rtt : Nat) :
    Calm s (s.takeSample b r p rtt) := by
  unfold State.takeSample
  simp only
  split
  · refine .trans ?_ (.computeTarget ..)
    have set : Calm s (s.modDelay b fun d => { d with
        record := d.record.setPath p (((s.bun b).delay.record.atPath p).sample r rtt).1 }) :=
      .modDelay s b _ fun h => Delay.counted_setPath h p (DelayRecord.sample_counted _ r rtt) _
    split
    · exact (set.trans (.post ..)).trans (.restartAlert ..)
    · exact set
  · exact .modDelay s b _ fun h => Delay.counted_setPath h p
      (fun k => by simpa [DelayRecord.Counted] using k) _

theorem Calm.updateEcho (s : State) (b : BundleId) (p : Path) (origin arrival : Time) :
    Calm s (s.updateEcho b p origin arrival) := .modDelay s b _ id

theorem Calm.measure (s : State) (b : BundleId) (r : Record) (k : Packet) :
    Calm s (s.measure b r k) := by
  unfold State.measure
  refine .trans (.updateEcho s b k.header.path k.header.origin k.arrival) ?_
  simp only
  split
  · exact .takeSample ..
  · exact .modDelay _ b _ fun h => Delay.counted_setPath h _
      (fun k => by simpa [DelayRecord.Counted] using k) _

theorem Delay.clear_counted {d : Delay} (h : d.Counted) (zero : Bool) : (d.clear zero).Counted := by
  cases zero
  · exact h
  · simp [Delay.clear, Delay.Counted, DelayRecord.Counted, both, DelayRecord.zero]

/-! ## The ring, and changes of state (chapter 5, R39) -/

theorem Playout.emptied_counted {p : Playout} (h : p.Counted) : p.emptied.Counted :=
  ⟨h.1, Nat.zero_le _, Nat.zero_le _⟩

theorem Calm.postAbandoned (s : State) (b : BundleId) : Calm s (s.postAbandoned b) := .postIf ..

theorem Calm.emptyRing (s : State) (b : BundleId) : Calm s (s.emptyRing b) :=
  (Calm.postIf ..).trans (.modPlayout _ _ _ Playout.emptied_counted)

theorem Retold.fallBack (s : State) (b : BundleId) (new : BState) (cause : StateCause) :
    Retold s (s.fallBack b new cause) := by
  have h := Retold.changeState s b new cause
  exact .ite ((h.andCalm (.dropProposal ..)).andCalm (.computeTarget ..)) h

theorem Retold.reportDown (s : State) (b : BundleId) : Retold s (s.reportDown b) := by
  unfold State.reportDown
  exact .ite ((Calm.emptyRing s b).andThen (.fallBack ..)) (Calm.refl s).retold

/-! ## The path supervisor (chapter 7) -/

theorem Calm.pathSwitch (s : State) (b : BundleId) (r : Record) (p : Path) (cause : SwitchCause) :
    Calm s (s.pathSwitch b r p cause) :=
  (((Calm.modSelector s b _).trans (.post ..)).trans
    (.restartAlert ..)).trans (.computeTarget ..)

theorem Calm.examine (s : State) (b : BundleId) (r : Record) (e : Expired) :
    Calm s (s.examine b r e) := by
  unfold State.examine
  split
  · exact .modSelector _ _ _
  · exact .modSelector _ _ _
  · exact .modSelector _ _ _
  · exact .pathSwitch ..

theorem Calm.setMismatch (s : State) (b : BundleId) (flag : Bool) :
    Calm s (s.setMismatch b flag) := by
  unfold State.setMismatch
  refine .ite (.refl _) (.trans (.modSelector s b _ fun x h => ?_) (.post ..))
  cases flag
  · exact h
  · simpa [Selector.Counted] using h

theorem Calm.updateMismatch (s : State) (b : BundleId) (r : Record) :
    Calm s (s.updateMismatch b r) :=
  (Calm.modSelector s b _).trans (.setMismatch ..)

/-- An evaluation of the selector changes no state of any bundle (R140). -/
theorem Calm.evaluateSelector (s : State) (b : BundleId) (e : Expired) :
    Calm s (s.evaluateSelector b e) := by
  unfold State.evaluateSelector
  simp only
  split
  · exact .refl _
  · refine .ite (.trans ?_ (.updateMismatch ..)) (.refl _)
    split
    · exact .examine ..
    · exact (Calm.examine ..).trans (.examine ..)

theorem Calm.hearAnnouncement (s : State) (b : BundleId) : Calm s (s.hearAnnouncement b) := by
  unfold State.hearAnnouncement
  simp only
  split
  · exact .refl _
  · exact .ite (.updateMismatch ..) (.refl _)

/-- The supervisor's record is replaced by one within its ranges, and a down condition reported. -/
theorem Retold.supervise (s : State) (b : BundleId) (r : Record) (new : Supervisor)
    (h : (s.bun b).supervisor.Counted → new.Counted) : Retold s (s.supervise b r new) := by
  have set : Calm s (s.modBun b fun x => { x with supervisor := new }) :=
    .modSupervisor s b (fun _ => new) h
  have down : ∀ c : Bool, Retold s (if c then
      (s.modBun b fun x => { x with supervisor := new }).reportDown b
      else s.modBun b fun x => { x with supervisor := new }) := fun c =>
    .ite (set.andThen (.reportDown ..)) set.retold
  unfold State.supervise
  simp only
  refine .ite ?_ ?_
  · refine .andCalm ?_ (.evaluateSelector ..)
    exact .ite ((down _).andCalm (.hearAnnouncement ..)) (down _)
  · exact .ite ((down _).andCalm (.hearAnnouncement ..)) (down _)

theorem Supervisor.counted_setPath {x : Supervisor} (h : x.Counted) (p : Path) {y : PathRecord}
    (k : (x.path.atPath p).Counted → y.Counted) :
    (x.path.setPath p y).one.Counted ∧ (x.path.setPath p y).two.Counted := by
  cases p
  · exact ⟨k h.1, h.2.1⟩
  · exact ⟨h.1, k h.2.1⟩

theorem PathRecord.accept_counted {x : PathRecord} (timer : Timer) (fault : Bool) (h : x.Counted) :
    (x.accept timer fault).Counted := by
  unfold PathRecord.accept PathRecord.Counted
  simp only [PathRecord.Counted, counts_cons] at h ⊢
  refine ⟨?_, h.2.1, ?_, h.2.2.2⟩
  · split
    · exact h.1
    · exact bump_le_max_iff.2 h.1
  · split
    · exact bump_le_max_iff.2 h.2.2.1
    · exact h.2.2.1

theorem PathRecord.expire_counted {x : PathRecord} (h : x.Counted) : x.expire.Counted := by
  unfold PathRecord.expire PathRecord.Counted
  simp only [PathRecord.Counted, counts_cons] at h ⊢
  refine ⟨h.1, ?_, h.2.2⟩
  split
  · exact h.2.1
  · exact bump_le_max_iff.2 h.2.1

theorem Supervisor.expirePath_counted {x : Supervisor} (p : Path) (h : x.Counted) :
    (x.expirePath p).Counted := by
  obtain ⟨h1, h2⟩ := Supervisor.counted_setPath h p PathRecord.expire_counted
  exact ⟨h1, h2, h.2.2⟩

theorem Supervisor.stopTimers_counted {x : Supervisor} (h : x.Counted) : x.stopTimers.Counted := h

theorem Supervisor.zero_counted (p : Path) : (Supervisor.zero p).Counted := by
  simp [Supervisor.zero, Supervisor.Counted, Selector.Counted, PathRecord.Counted, both, PathRecord.zero, Selector.zero]

theorem Supervisor.started_counted (r : Record) (timer : Timer) :
    (Supervisor.started r timer).Counted := by
  simp [Supervisor.started, Supervisor.zero, Supervisor.Counted, Selector.Counted, PathRecord.Counted, both,
    PathRecord.zero, Selector.zero]

theorem Calm.stopPaths (s : State) (b : BundleId) : Calm s (s.stopPaths b) :=
  (Calm.modSupervisor s b _ Supervisor.stopTimers_counted).trans (.setMismatch ..)

theorem Retold.lossTimerExpiry (b : BundleId) (p : Path) (s : State) :
    Retold s (lossTimerExpiry b p s) := by
  unfold Machine.lossTimerExpiry
  simp only
  split
  · exact (Calm.refl s).retold
  · refine .ite ((Calm.postIf ..).andThen (.supervise _ b _ _ ?_)) (Calm.refl s).retold
    rw [State.bun_postIf]
    exact Supervisor.expirePath_counted p

theorem Retold.startWaitExpiry (b : BundleId) (s : State) : Retold s (startWaitExpiry b s) := by
  unfold Machine.startWaitExpiry
  simp only
  split
  · exact (Calm.refl s).retold
  · have set : Calm s (s.modSupervisor b fun x => { x with startWait := none }) :=
      .modSupervisor s b _ id
    exact .ite (.ite (set.andThen (.reportDown ..)) set.retold) (Calm.refl s).retold

theorem Calm.holdOffExpiry (b : BundleId) (s : State) : Calm s (holdOffExpiry b s) :=
  .ite ((Calm.modSelector s b _).trans
    (.evaluateSelector ..)) (.refl _)

theorem Calm.waitToRestoreExpiry (b : BundleId) (s : State) : Calm s (waitToRestoreExpiry b s) :=
  .ite ((Calm.modSelector s b _).trans
    (.evaluateSelector ..)) (.refl _)

theorem Calm.mismatchTimerExpiry (b : BundleId) (s : State) : Calm s (mismatchTimerExpiry b s) :=
  .ite ((Calm.modSelector s b _).trans
    (.setMismatch ..)) (.refl _)

/-! ## Placing a packet (R84 to R91) -/

/-- Two playout states with the same counters, start count and early run. -/
structure Playout.SameCounts (p q : Playout) : Prop where
  counters : q.counters = p.counters
  startCount : q.startCount = p.startCount
  earlyRun : q.earlyRun = p.earlyRun

theorem Playout.SameCounts.counted {p q : Playout} (h : p.SameCounts q) (k : p.Counted) : q.Counted := by
  obtain ⟨h1, h2, h3⟩ := h
  obtain ⟨k1, k2, k3⟩ := k
  exact ⟨by rw [h1]; exact k1, by rw [h2]; exact k2, by rw [h3]; exact k3⟩

theorem Playout.sameCounts_advance (p : Playout) (h : Seq) : p.SameCounts (p.advance h).1 := by
  unfold Playout.advance
  simp only
  split <;> exact ⟨rfl, rfl, rfl⟩

theorem Playout.sameCounts_slipUntil (stop : Playout → Bool) (fuel : Nat) (p : Playout) :
    p.SameCounts (p.slipUntil stop fuel).1 := by
  induction fuel generalizing p with
  | zero => exact ⟨rfl, rfl, rfl⟩
  | succ n ih =>
    unfold Playout.slipUntil
    split
    · exact ⟨rfl, rfl, rfl⟩
    · split
      · exact ⟨rfl, rfl, rfl⟩
      · next h _ =>
        have a := p.sameCounts_advance h
        have b := ih (p.advance h).1
        exact ⟨b.1.trans a.1, b.2.trans a.2, b.3.trans a.3⟩

theorem Playout.countSlipped_counted {p : Playout} (n : Nat) (h : p.Counted) :
    (p.countSlipped n).Counted := by
  refine ⟨?_, h.2⟩
  simpa [Playout.countSlipped, PlayCounters.Counted] using h.1

/-- Heads passed over and counted (R91, R95). -/
theorem Calm.slip (s : State) (b : BundleId) (stop : Playout → Bool) (fuel n : Nat) :
    Calm s (s.modPlayout b fun _ => (((s.bun b).playout.slipUntil stop fuel).1).countSlipped n) :=
  .modPlayout s b _ fun h =>
    Playout.countSlipped_counted n ((Playout.sameCounts_slipUntil stop fuel _).counted h)

theorem Calm.overflowTest (s : State) (b : BundleId) (r : Record) (q : Seq) :
    Calm s (s.overflowTest b r q) := by
  unfold State.overflowTest
  simp only
  exact .ite (.refl _) ((Calm.slip ..).trans (.post ..))

theorem Calm.endPacketWait (s : State) (b : BundleId) (r : Record) : Calm s (s.endPacketWait b r) := by
  unfold State.endPacketWait
  simp only
  exact .ite (.modPlayout _ _ _ fun h => ⟨h.1, Nat.zero_le _, h.2.2⟩)
    (.modPlayout _ _ _ fun h => ⟨h.1, Nat.zero_le _, h.2.2⟩)

theorem Playout.put_counted {p : Playout} (k : Packet) (h : p.Counted) : (p.put k).Counted := by
  refine ⟨?_, h.2.1, Nat.zero_le _⟩
  simpa [Playout.put, PlayCounters.Counted] using h.1

theorem Calm.store (s : State) (b : BundleId) (r : Record) (k : Packet) : Calm s (s.store b r k) := by
  unfold State.store
  simp only
  have h : Calm s (s.modPlayout b fun p => p.put k) := .modPlayout _ _ _ (Playout.put_counted k)
  exact .trans (.ite (h.trans (.endPacketWait ..)) h) (.overflowTest ..)

theorem Retold.resync (s : State) (b : BundleId) (q : Seq) : Retold s (s.resync b q) := by
  have h : Calm s (((s.emptyRing b).modPlay b fun c => { c with resyncs := bump c.resyncs }).post
      .playoutResync (.bundle b) (((s.bun b).playout.head.getD 0).toNat * 65536 + q.toNat)) :=
    ((Calm.emptyRing s b).trans (.modPlay _ _ _ fun h => by
      simpa [PlayCounters.Counted] using h)).trans (.post ..)
  unfold State.resync
  simp only
  exact .ite (h.andThen (.fallBack ..)) h.retold

theorem Retold.early (s : State) (b : BundleId) (q : Seq) : Retold s (s.early b q) := by
  unfold State.early
  simp only
  have h : Calm s (s.modPlay b fun c => { c with early := bump c.early }) :=
    .modPlay _ _ _ fun h => by simpa [PlayCounters.Counted] using h
  split
  · exact h.andThen (.resync ..)
  · refine (h.trans (.modPlayout _ _ _ fun k => ⟨k.1, k.2.1, ?_⟩)).retold
    simp only; omega

theorem Retold.place (s : State) (b : BundleId) (r : Record) (k : Packet) :
    Retold s (s.place b r k) := by
  unfold State.place
  simp only
  split
  · exact (Calm.modPlay _ _ _ fun h => by simpa [PlayCounters.Counted] using h).retold
  · split
    · exact (Calm.modPlay _ _ _ fun h => by simpa [PlayCounters.Counted] using h).retold
    · exact (Calm.modPlay _ _ _ fun h => by simpa [PlayCounters.Counted] using h).retold
    · exact (Calm.modPlay _ _ _ fun h => by simpa [PlayCounters.Counted] using h).retold
    · exact .early ..
    · exact (Calm.store ..).retold

end Sys2Proof.Machine
end

section
/-! The playout store at a frame start, and the bundle table's changes of state: calm or posted. -/

namespace Sys2Proof.Machine

open Safety

/-! ## A frame start of one bundle (R92 to R106) -/

theorem Playout.beginPeriod_counted {p : Playout} (kind : Period) (h : p.Counted) :
    (p.beginPeriod kind).Counted := by
  refine ⟨?_, h.2⟩
  have k := h.1
  cases kind
  · exact k
  · simp only [Playout.beginPeriod]
    split
    · simpa [PlayCounters.Counted] using k
    · exact k
  · simpa [PlayCounters.Counted, Playout.beginPeriod] using k

theorem PlayCounters.countPlayed_counted {c : PlayCounters} (path : Path) (h : c.Counted) :
    (c.countPlayed path).Counted := by
  cases path <;> simpa [PlayCounters.Counted, PlayCounters.countPlayed] using h

theorem Playout.endPeriod_counted {p : Playout} (h : p.Counted) : p.endPeriod.Counted := by
  unfold Playout.endPeriod
  split
  · exact h
  · next q _ =>
    have c : (match p.period, p.slotFor q with
        | .packet, some x => p.counters.countPlayed x.path
        | _, _ => p.counters).Counted := by
      split
      · exact PlayCounters.countPlayed_counted _ h.1
      · exact h.1
    simp only
    split
    · exact ⟨c, h.2⟩
    · exact ⟨c, h.2⟩

theorem Playout.passFrame_counted {p : Playout} (fpp : Nat) (h : p.Counted) :
    (p.passFrame fpp).Counted := by
  unfold Playout.passFrame
  simp only
  split
  · exact Playout.endPeriod_counted h
  · exact h

theorem Calm.give (s : State) (b : BundleId) (bs : List Byte) : Calm s (s.give b bs) :=
  .modPlayout s b _ id

theorem Calm.substitute (s : State) (b : BundleId) (r : Record) : Calm s (s.substitute b r) :=
  .give ..

theorem Calm.givePayload (s : State) (b : BundleId) (bs : List Byte) : Calm s (s.givePayload b bs) :=
  .modPlayout s b _ id

theorem Calm.giveParityFrame (s : State) (b : BundleId) (r : Record) (seq : Seq) :
    Calm s (s.giveParityFrame b r seq) := by
  unfold State.giveParityFrame
  refine .trans (.trans (.substitute s b r) (.recordFault ..)) (.modPlay _ b _ fun h => ?_)
  simpa [PlayCounters.Counted] using h

theorem Calm.giveFrame (s : State) (b : BundleId) (r : Record) : Calm s (s.giveFrame b r) := by
  unfold State.giveFrame
  simp only
  split
  · next x _ _ =>
    have measured : Calm s (if (s.bun b).playout.played = 0 then
        s.modPlayout b fun p => { p with residence := widen p.residence (s.timeCount - x.arrival).toNat }
        else s) := .ite (.modPlayout s b _ id) (.refl s)
    exact .ite (measured.trans (.givePayload ..)) (measured.trans (.giveParityFrame ..))
  · exact .substitute ..

theorem Retold.underrun (s : State) (b : BundleId) (r : Record) : Retold s (s.underrun b r) := by
  unfold State.underrun
  simp only
  refine .andCalm (.andCalm ?_ (.refl _)) (.give ..)
  refine Calm.andThen ?_ (.fallBack ..)
  refine .trans (.trans (.trans (.modPlay s b _ fun h => ?_) (.post ..)) (.postIf ..))
    (.modPlayout _ b _ fun h => ⟨h.1, Nat.zero_le _, h.2.2⟩)
  simpa [PlayCounters.Counted] using h

theorem Calm.beginPeriod (s : State) (b : BundleId) (kind : Period) :
    Calm s (s.modPlayout b fun p => p.beginPeriod kind) :=
  .modPlayout s b _ (Playout.beginPeriod_counted kind)

theorem Calm.passFrame (s : State) (b : BundleId) (fpp : Nat) :
    Calm s (s.modPlayout b fun p => p.passFrame fpp) :=
  .modPlayout s b _ (Playout.passFrame_counted fpp)

theorem Retold.playFrame (s : State) (b : BundleId) (r : Record) : Retold s (s.playFrame b r) := by
  unfold State.playFrame
  simp only
  split
  · split
    · exact .underrun ..
    · exact (((Calm.beginPeriod ..).trans (.giveFrame ..)).trans (.passFrame ..)).retold
  · exact ((Calm.giveFrame ..).trans (.passFrame ..)).retold

theorem Calm.setAtStart (s : State) (b : BundleId) (x : AtStart) : Calm s (s.setAtStart b x) :=
  .modPlayout s b _ id

theorem Calm.setPace (s : State) (b : BundleId) (pace : Nat) (step : Option Direction) :
    Calm s (s.setPace b pace step) := .modPlayout s b _ id

theorem Retold.skipStep (s : State) (b : BundleId) (r : Record) : Retold s (s.skipStep b r) := by
  have skip : ∀ u, Calm s u → Calm s (((((u.modPlayout b fun p => p.passFrame r.fpp).modPlay b
      fun c => { c with skipped := bump c.skipped }).setPace b 0 (some .skip)).setAtStart b .skipped)) := by
    intro u h
    refine ((((h.trans (.passFrame ..)).trans (.modPlay _ b _ fun k => ?_)).trans
      (.setPace ..)).trans (.setAtStart ..))
    simpa [PlayCounters.Counted] using k
  unfold State.skipStep
  simp only
  split
  · exact (Retold.underrun ..).andCalm (.setAtStart ..)
  · next u e =>
    refine (skip u ?_).retold
    split at e
    · obtain ⟨kind, -, rfl⟩ := Option.map_eq_some_iff.1 e
      exact .beginPeriod ..
    · cases e; exact .refl _

theorem Retold.adjustOnce (s : State) (b : BundleId) (r : Record) (a : Adjust) :
    Retold s (s.adjustStep b r a) := by
  unfold State.adjustStep
  simp only
  split
  · exact ((Calm.post ..).trans (.modPlayout _ b _ id)).retold
  · split
    · refine (((Calm.modPlay s b _ fun h => ?_).trans (.setPace ..)).trans (.setAtStart ..)).retold
      simpa [PlayCounters.Counted] using h
    · exact .skipStep ..

theorem Retold.adjustTick (s : State) (b : BundleId) (r : Record) : Retold s (s.adjustTick b r) := by
  unfold State.adjustTick
  simp only
  split
  · exact (Calm.refl s).retold
  · exact .ite (.adjustOnce ..) (Calm.setPace ..).retold

theorem Calm.startTrim (s : State) (b : BundleId) (r : Record) : Calm s (s.startTrim b r) := by
  unfold State.startTrim
  simp only
  exact .ite ((Calm.slip ..).trans (.post ..)) (.refl _)

theorem Retold.startPlayout (s : State) (b : BundleId) (r : Record) :
    Retold s (s.startPlayout b r) := by
  refine Retold.andCalm (Calm.andThen ?_ (.changeState ..)) (.setAtStart ..)
  exact (Calm.startTrim ..).trans (.modPlayout _ b _ fun h => ⟨h.1, Nat.zero_le _, h.2.2⟩)

theorem Calm.fillFrame (s : State) (b : BundleId) (r : Record) : Calm s (s.fillFrame b r) := by
  unfold State.fillFrame
  simp only
  refine .ite (.give ..) ((Calm.give ..).trans (.modPlayout _ b _ fun h => ⟨h.1, ?_, h.2.2⟩))
  exact Nat.min_le_right _ _

theorem Calm.sampleFill (s : State) (b : BundleId) (r : Record) : Calm s (s.sampleFill b r) :=
  .modPlayout s b _ id

theorem Retold.beginStart (s : State) (b : BundleId) (r : Record) : Retold s (s.beginStart b r) := by
  unfold State.beginStart
  simp only
  exact .ite (Calm.refl s).retold (.ite (.startPlayout ..) (.ite (.adjustTick ..) (Calm.refl s).retold))

theorem Retold.finishStart (s : State) (b : BundleId) (r : Record) : Retold s (s.finishStart b r) := by
  unfold State.finishStart
  simp only
  split
  · exact (Calm.substitute ..).retold
  · exact (Calm.give ..).retold
  · exact .playFrame ..
  · exact (Calm.fillFrame ..).retold

/-- A bundle's frame of bytes may change its state twice, so only its quietness is said (R92 to R104). -/
theorem Quiet.playBundle (s : State) (b : BundleId) : Quiet s (s.playBundle b) := by
  unfold State.playBundle
  simp only
  split
  · exact .refl s
  · split
    · exact ((Retold.beginStart ..).quiet.trans (Retold.finishStart ..).quiet).trans
        (Calm.setAtStart ..).quiet
    · exact .refl s

theorem Retold.playoutStart (b : BundleId) (s : State) : Retold s (playoutStart b s) := by
  unfold Machine.playoutStart
  simp only
  split
  · exact (Calm.refl s).retold
  · exact .ite ((Calm.sampleFill ..).andThen (.startPlayout ..)) (Calm.refl s).retold

theorem Retold.adjustStep (b : BundleId) (s : State) : Retold s (adjustStep b s) := by
  unfold Machine.adjustStep
  simp only
  split
  · exact .ite ((Calm.sampleFill ..).andThen (.adjustOnce ..)) (Calm.refl s).retold
  · exact (Calm.refl s).retold

theorem Calm.estimateWaitExpiry (b : BundleId) (s : State) : Calm s (estimateWaitExpiry b s) :=
  .ite (.modPlayout s b _ id) (.refl s)

theorem Calm.alertTimerExpiry (b : BundleId) (s : State) : Calm s (alertTimerExpiry b s) :=
  .ite (.modDelay s b _ id) (.refl s)

theorem Playout.fresh_counted (n : Nat) : (Playout.fresh n).Counted := by
  simp [Playout.Counted, Playout.fresh, PlayCounters.Counted, PlayCounters.zero]

theorem Playout.allocate_counted {p : Playout} (size : Nat) (zero : Bool) (h : p.Counted) :
    (p.allocate size zero).Counted := by
  cases zero
  · exact ⟨h.1, Nat.zero_le _, Nat.zero_le _⟩
  · exact Playout.fresh_counted size

/-! ## Network ports and their queues (R50 to R54) -/

/-- Both network ports changed alike. -/
theorem Calm.mapNets (s : State) (f : Net → Net) (up : ∀ x, (f x).up = x.up)
    (h : ∀ x, Keeps NetBounded Net.Counted x (f x)) : Calm s { s with nets := s.nets.map f } := by
  have e : ∀ n, ({ s with nets := s.nets.map f } : State).net n = f (s.net n) := fun n => by
    simp [State.net]
  exact {
    quiet := {
      hush := ⟨rfl, fun _ => .refl _, fun n => by rw [e, up]⟩
      kept := { Kept.refl s with nets := fun n => by rw [e]; exact h _ }
      lines := ⟨fun _ => .refl _, fun _ => rfl⟩
      claims := rfl
      records := fun _ => .refl _
      samples := fun _ => Nat.le_refl _ }
    states := fun _ => rfl }

theorem Net.queued_without_le (x : Net) (drop : QueueEntry → Bool) :
    (x.without drop).queued ≤ x.queued := by
  have h1 := x.protection.length_filter_le fun e => !drop e
  have h2 := x.priority.length_filter_le fun e => !drop e
  have h3 := x.routine.length_filter_le fun e => !drop e
  simp only [Net.queued, Net.without]
  omega

theorem Net.keeps_without (x : Net) (drop : QueueEntry → Bool) :
    Keeps NetBounded Net.Counted x (x.without drop) :=
  ⟨fun h => ⟨h.1, (x.queued_without_le drop).trans h.2⟩, id⟩

theorem Calm.withdraw (s : State) (b : BundleId) : Calm s (s.withdraw b) := by
  unfold State.withdraw
  refine .trans (.mapNets s (Net.withdraw (b := b)) (fun _ => rfl) fun x => ?_)
    (.modAssembly _ b _ (fun _ => Nat.zero_le _) id)
  refine ⟨(x.keeps_without _).1, fun h => ⟨h.1, h.2.1, ?_⟩⟩
  simpa [TxCounters.Counted, Net.withdraw] using h.2.2

theorem Calm.restartAssembly (s : State) (b : BundleId) : Calm s (s.restartAssembly b) := by
  refine (Calm.withdraw s b).trans (.modAssembly _ b _ (fun _ => Nat.zero_le _) fun _ => ?_)
  simp [Assembly.start, Assembly.Counted]

theorem Calm.stopAssembly (s : State) (b : BundleId) : Calm s (s.stopAssembly b) :=
  (Calm.withdraw s b).trans (.modAssembly _ b _ (fun _ => Nat.zero_le _) id)

/-! ## Changes of state by the bundle table (R30 to R40) -/

theorem Calm.clearDelay (s : State) (b : BundleId) (zero : Bool) :
    Calm s (s.modDelay b fun d => d.clear zero) :=
  .modDelay s b _ fun h => Delay.clear_counted h zero

theorem Calm.startPaths (s : State) (b : BundleId) (r : Record) : Calm s (s.startPaths b r) :=
  .modSupervisor s b _ fun _ => Supervisor.started_counted ..

theorem Retold.startBundle (s : State) (b : BundleId) (r : Record) : Retold s (s.startBundle b r) := by
  refine Retold.andCalm (Calm.andThen ?_ (.changeState ..)) (.computeTarget ..)
  exact (((Calm.restartAssembly s b).trans (.modPlayout _ b _ fun _ => Playout.fresh_counted _)).trans
    (.clearDelay ..)).trans (.startPaths ..)

theorem Calm.stopBlocks (s : State) (b : BundleId) : Calm s (s.stopBlocks b) :=
  (((Calm.emptyRing s b).trans (.stopAssembly ..)).trans (.clearDelay ..)).trans (.stopPaths ..)

theorem Retold.faultRecord (s : State) (b : BundleId) : Retold s (s.faultRecord b) := by
  have mark : Calm s (s.modBun b fun x => { x with recordFault := true }) :=
    .modBun s b _ ⟨rfl, rfl, rfl⟩ rfl
      ⟨id, fun k => ⟨k.assembly, k.playout, k.delay, k.supervisor, k.delivery⟩⟩
  unfold State.faultRecord
  simp only
  split
  · exact (((mark.trans (.stopBlocks ..)).trans (.recordFault ..)).andThen (.changeState ..)).andCalm
      (.computeTarget ..)
  · exact (mark.trans (.recordFault ..)).andThen (.changeState ..)

theorem Quiet.patrol (s : State) (b : BundleId) : Quiet s (s.patrol b) := by
  unfold State.patrol
  split
  · exact (Retold.faultRecord s b).quiet
  · exact .refl s

theorem Quiet.foldl {α : Type} {f : State → α → State} (h : ∀ s x, Quiet s (f s x)) (xs : List α)
    (s : State) : Quiet s (xs.foldl f s) := by
  induction xs generalizing s with
  | nil => exact .refl s
  | cons x xs ih => exact (h s x).trans (ih (f s x))

/-- What a record's effect does once the record stands in its entry (R30 to R33). -/
theorem Retold.effectNew (s : State) (b : BundleId) (r : Record) (size : Nat) :
    Retold s (s.effectNew b r size) := by
  have set : Calm s (s.modBun b fun x =>
      { x with playout := .fresh size, assembly := .start, delay := .zero, supervisor := .restart r }) :=
    .modBun s b _ ⟨rfl, rfl, rfl⟩ rfl ⟨fun _ => Nat.zero_le _, fun k =>
      ⟨by simp [Assembly.start, Assembly.Counted], Playout.fresh_counted size,
        by simp [Delay.zero, Delay.Counted, DelayRecord.Counted, both, DelayRecord.zero],
        Supervisor.zero_counted _, k.delivery⟩⟩
  exact ((Calm.ite (set.trans (.startPaths ..)) set).andThen (.changeState ..)).andCalm (.computeTarget ..)

/-- A bundle's blocks at their start, before its change of state at a RESTART (R31). -/
def State.restartBlocks (s : State) (b : BundleId) (r : Record) (size : Nat) : State :=
  ((((((s.postAbandoned b).modPlayout b fun p => p.allocate size true).restartAssembly b).modDelay b
    fun d => d.clear true).setMismatch b false).startPaths b r)

theorem State.effectRestart_eq (s : State) (b : BundleId) (r : Record) (size : Nat) :
    s.effectRestart b r size =
      (if ((s.restartBlocks b r size).bun b).state = .filling then s.restartBlocks b r size
        else (s.restartBlocks b r size).changeState b .filling .restart).computeTarget b := rfl

theorem Calm.restartBlocks (s : State) (b : BundleId) (r : Record) (size : Nat) :
    Calm s (s.restartBlocks b r size) := by
  unfold State.restartBlocks
  have ring : Calm s ((s.postAbandoned b).modPlayout b fun p => p.allocate size true) :=
    (Calm.postAbandoned s b).trans (.modPlayout _ b _ (Playout.allocate_counted size true))
  exact .trans (.trans (.trans (.trans ring (.restartAssembly ..)) (.clearDelay ..)) (.setMismatch ..))
    (.startPaths ..)

theorem Retold.effectRestart (s : State) (b : BundleId) (r : Record) (size : Nat) :
    Retold s (s.effectRestart b r size) := by
  have h := Calm.restartBlocks s b r size
  rw [State.effectRestart_eq]
  exact (Retold.ite h.retold (h.andThen (.changeState ..))).andCalm (.computeTarget ..)

theorem Calm.effectRebuilt (s : State) (b : BundleId) (r : Record) (size : Nat) :
    Calm s (s.effectRebuilt b r size) :=
  (((Calm.modPlayout s b (fun p => p.allocate size false) (Playout.allocate_counted size false)).trans
    (.clearDelay ..)).trans
    (.modSupervisor _ b _ fun _ => Supervisor.zero_counted _)).trans (.computeTarget ..)

theorem Calm.effectInPlace (s : State) (b : BundleId) (old r : Record) :
    Calm s (s.effectInPlace b old r) := by
  have target : Calm s (if sameDelay old r then s else (s.dropProposal b).computeTarget b) :=
    .ite (.refl s) ((Calm.dropProposal s b).trans (.computeTarget ..))
  refine (target.trans ?_).trans (.evaluateSelector ..)
  exact .ite (.endEstimateWait ..) (.refl _)

end Sys2Proof.Machine
end

section
/-! The transmit queues, the receive side, the timing unit and the control ports: which operations are calm. -/

namespace Sys2Proof.Machine

open Safety

/-! ## Steps whose capacity rests on the state they began in -/

/-- A network port changed after a calm step, its capacity judged against the state before that step. -/
theorem Calm.thenNet {s u : State} (pre : Calm s u) (n : NetPort) (f : Net → Net)
    (up : (f (u.net n)).up = (u.net n).up) (k : NetBounded (s.net n) → NetBounded (f (u.net n)))
    (h : (u.net n).Counted → (f (u.net n)).Counted) : Calm s (u.modNet n f) where
  quiet := {
    hush := ⟨pre.quiet.hush.now, pre.quiet.hush.queues, fun m => by
      rw [State.net_modNet]; split
      · next e => subst e; rw [up]; exact pre.quiet.hush.up _
      · exact pre.quiet.hush.up m⟩
    kept := { pre.quiet.kept with
      nets := fun m => by
        rw [State.net_modNet]; split
        · next e => subst e; exact ⟨k, h ∘ (pre.quiet.kept.nets _).2⟩
        · exact pre.quiet.kept.nets m }
    lines := ⟨pre.quiet.lines.line, pre.quiet.lines.valid⟩
    claims := pre.quiet.claims
    records := pre.quiet.records
    samples := pre.quiet.samples }
  states := pre.states

/-- The same for the packets a bundle holds. -/
theorem Calm.thenAssembly {s u : State} (pre : Calm s u) (b : BundleId) (f : Assembly → Assembly)
    (k : (s.bun b).assembly.held.length ≤ 4 → (f (u.bun b).assembly).held.length ≤ 4)
    (h : (u.bun b).assembly.Counted → (f (u.bun b).assembly).Counted) :
    Calm s (u.modAssembly b f) where
  quiet := {
    hush := ⟨pre.quiet.hush.now, pre.quiet.hush.queues, pre.quiet.hush.up⟩
    kept := { pre.quiet.kept with
      bundles := fun c => by
        unfold State.modAssembly
        rw [State.bun_modBun]; split
        · next e =>
          subst e
          refine ⟨k, fun q => ?_⟩
          have q := (pre.quiet.kept.bundles _).2 q
          exact ⟨h q.assembly, q.playout, q.delay, q.supervisor, q.delivery⟩
        · exact pre.quiet.kept.bundles c }
    lines := ⟨pre.quiet.lines.line, pre.quiet.lines.valid⟩
    claims := pre.quiet.claims
    records := fun c => by
      unfold State.modAssembly
      rw [State.bun_modBun]; split
      · next e =>
        subst e
        exact ⟨(pre.quiet.records c).active, (pre.quiet.records c).pending, (pre.quiet.records c).armed⟩
      · exact pre.quiet.records c
    samples := pre.quiet.samples }
  states c := by
    unfold State.modAssembly
    rw [State.bun_modBun]; split
    · next e => subst e; exact pre.states _
    · exact pre.states c

/-! ## The transmit queues (R50 to R55) -/

theorem Net.queue_length_le (x : Net) (c : PacketClass) : (x.queue c).length ≤ x.queued := by
  cases c <;> simp only [Net.queue, Net.queued] <;> omega

/-- The occupancy follows the sub-queue replaced. -/
theorem Net.queued_setQueue (x : Net) (c : PacketClass) (q : List QueueEntry) :
    (x.setQueue c q).queued = x.queued - (x.queue c).length + q.length := by
  cases c <;> simp only [Net.setQueue, Net.queue, Net.queued] <;> omega

@[simp] theorem Net.up_setQueue (x : Net) (c : PacketClass) (q : List QueueEntry) :
    (x.setQueue c q).up = x.up := by cases c <;> rfl

@[simp] theorem Net.list_setQueue (x : Net) (c : PacketClass) (q : List QueueEntry) :
    (x.setQueue c q).list = x.list := by cases c <;> rfl

@[simp] theorem Net.rx_setQueue (x : Net) (c : PacketClass) (q : List QueueEntry) :
    (x.setQueue c q).rx = x.rx := by cases c <;> rfl

@[simp] theorem Net.tx_setQueue (x : Net) (c : PacketClass) (q : List QueueEntry) :
    (x.setQueue c q).tx = x.tx := by cases c <;> rfl

theorem Net.counted_setQueue {x : Net} (h : x.Counted) (c : PacketClass) (q : List QueueEntry) :
    (x.setQueue c q).Counted := by simpa [Net.Counted] using h

/-- What an eviction leaves: one entry fewer, and the rest of the port as it was (R52). -/
theorem Net.evict_spec {x y : Net} {c : PacketClass} {old : QueueEntry} (h : x.evict c = some (old, y)) :
    y.queued + 1 = x.queued ∧ y.list = x.list ∧ y.up = x.up ∧ y.rx = x.rx ∧ y.tx = x.tx ∧
      y.transmitter = x.transmitter := by
  have last : ∀ {q : List QueueEntry} {e}, q.getLast? = some e → q.dropLast.length + 1 = q.length := by
    intro q e he
    have : q ≠ [] := by rintro rfl; simp at he
    have := List.length_pos_iff.2 this
    rw [List.length_dropLast]; omega
  unfold Net.evict at h
  split at h
  · cases h
  · next he =>
    cases h
    have := last he
    refine ⟨?_, rfl, rfl, rfl, rfl, rfl⟩
    simp only [Net.queued]; omega
  · next he =>
    cases h
    have := last he
    refine ⟨?_, rfl, rfl, rfl, rfl, rfl⟩
    simp only [Net.queued]; omega
  · cases h

theorem Calm.loseCopy (s : State) (b : BundleId) (q : Seq) (n : NetPort) :
    Calm s (s.loseCopy b q n) :=
  .modAssembly s b _ (fun h => (List.length_filterMap_le ..).trans h) id

theorem Calm.expireEcho (s : State) (b : BundleId) (p : Path) : Calm s (s.expireEcho b p) := by
  unfold State.expireEcho
  exact .ite (.modDelay s b _ fun h => Delay.counted_setPath h p
    (fun k => by simpa [DelayRecord.Counted] using k) _) (.refl s)

theorem Calm.transmit (s : State) (n : NetPort) (e : QueueEntry) : Calm s (s.transmit n e) := by
  unfold State.transmit
  simp only
  split
  · exact ((Calm.modNet s n _ rfl (.refl _)).trans (.expireEcho ..)).trans (.loseCopy ..)
  · exact .refl s

theorem Calm.arbitrate (s : State) (n : NetPort) : Calm s (s.arbitrate n) := by
  unfold State.arbitrate
  simp only
  split
  · split
    · exact .refl s
    · next c _ =>
      split
      · exact .refl s
      · next e rest he =>
        refine .trans (.modNet s n _ (Net.up_setQueue ..) ⟨fun h => ⟨?_, ?_⟩, fun h => ?_⟩) (.transmit ..)
        · simpa using h.1
        · have := Net.queue_length_le (s.net n) c
          rw [Net.queued_setQueue]
          rw [he, List.length_cons] at *
          have := h.2
          omega
        · exact Net.counted_setQueue h c rest
  · exact .refl s

/-- A copy joins its sub-queue where there is room for it (R50, R51). -/
theorem Calm.thenJoin {s u : State} (pre : Calm s u) (n : NetPort) (c : PacketClass) (e : QueueEntry)
    (room : NetBounded (s.net n) → (u.net n).queued < 64) : Calm s (u.join n c e) := by
  unfold State.join
  have put : Calm s (u.modNet n fun x => x.setQueue c (x.queue c ++ [e])) := by
    refine pre.thenNet n _ (Net.up_setQueue ..) (fun h => ⟨?_, ?_⟩) fun h => ?_
    · simpa using ((pre.quiet.kept.nets n).1 h).1
    · have := Net.queue_length_le (u.net n) c
      have := room h
      rw [Net.queued_setQueue, List.length_append, List.length_singleton]
      omega
    · exact Net.counted_setQueue h c _
  refine (put.trans (.modTx _ n _ fun k h => ?_)).trans (.modAssembly _ _ _ id fun h => ?_)
  · simpa [TxCounters.Counted] using h
  · simpa [Assembly.Counted] using h

theorem Calm.offerCopy (s : State) (n : NetPort) (c : PacketClass) (e : QueueEntry) :
    Calm s (s.offerCopy n c e).1 := by
  unfold State.offerCopy
  simp only
  split
  · next h => exact (Calm.refl s).thenJoin n c e fun _ => h
  · split
    · next old y he =>
      obtain ⟨hq, hl, hu, hr, ht, -⟩ := Net.evict_spec he
      have evict : Calm s (s.modNet n fun _ => y) := by
        refine .modNet s n _ hu ⟨fun h => ⟨hl ▸ h.1, ?_⟩, fun h => ⟨hl ▸ h.1, hr ▸ h.2.1, ht ▸ h.2.2⟩⟩
        have := h.2
        omega
      refine ((evict.trans (.modTx _ n _ fun k h => ?_)).trans (.loseCopy _ old.bundle old.seq n)).thenJoin
        n c e fun h => ?_
      · simpa [TxCounters.Counted] using h
      · have : ((((s.modNet n fun _ => y).modTx n fun t => { t with evicted := bump t.evicted }).loseCopy
            old.bundle old.seq n).net n).queued = y.queued := by
          simp [State.loseCopy, State.modTx, State.net, State.modAssembly, State.modBun, State.modNet,
            Net.queued]
        have := h.2
        omega
    · refine Calm.modTx s n (fun t => { t with dropped := bump t.dropped }) fun k h => ?_
      simpa [TxCounters.Counted] using h

theorem Calm.supersede (s : State) (b : BundleId) : Calm s (s.supersede b) := by
  unfold State.supersede
  split
  · next h rest he =>
    refine .ite ?_ (.refl s)
    refine .trans (.mapNets s (Net.without (drop := fun e => e.bundle == b && e.seq == h.seq))
      (fun _ => rfl) fun x => x.keeps_without _) (.modAssembly _ b _ (fun k => ?_) fun k => ?_)
    · have e : (s.bun b).assembly.held.length ≤ 4 := k
      rw [he, List.length_cons] at e
      simp only; omega
    · simpa [Assembly.Counted] using k
  · exact .refl s

/-- After giving up its oldest packet a bundle holds at most three (R48). -/
theorem State.supersede_held {s : State} {b : BundleId} (h : (s.bun b).assembly.held.length ≤ 4) :
    ((s.supersede b).bun b).assembly.held.length ≤ 3 := by
  unfold State.supersede
  split
  · next x rest he =>
    rw [he, List.length_cons] at h
    split
    · simp only [State.bun_modAssembly_self]; omega
    · next k => rw [he, List.length_cons]; omega
  · next he => rw [he]; simp

theorem State.bun_loseCopy (s : State) (b c : BundleId) (q : Seq) (n : NetPort) :
    ((s.loseCopy b q n).bun c).assembly.held.length ≤ (s.bun c).assembly.held.length := by
  unfold State.loseCopy State.modAssembly
  rw [State.bun_modBun]
  split
  · next e => subst e; exact List.length_filterMap_le ..
  · exact Nat.le_refl _

theorem State.held_join (s : State) (n : NetPort) (k : PacketClass) (e : QueueEntry) (c : BundleId) :
    ((s.join n k e).bun c).assembly.held = (s.bun c).assembly.held := by
  unfold State.join State.modAssembly State.modTx
  simp only [State.bun_modBun, State.bun_modNet]
  split
  · next h => rw [h]
  · rfl

/-- An offer takes no packet into any bundle's hold. -/
theorem State.held_offerCopy (s : State) (n : NetPort) (k : PacketClass) (e : QueueEntry) (c : BundleId) :
    ((s.offerCopy n k e).1.bun c).assembly.held.length ≤ (s.bun c).assembly.held.length := by
  unfold State.offerCopy
  simp only
  split
  · rw [State.held_join]
  · split
    · rw [State.held_join]; exact State.bun_loseCopy ..
    · exact Nat.le_refl _

theorem Calm.offerPaths (b : BundleId) (r : Record) (paths : List Path) (s : State) (h : HeldTx) :
    Calm s (s.offerPaths b r h paths).1 ∧
      ((s.offerPaths b r h paths).1.bun b).assembly.held.length ≤ (s.bun b).assembly.held.length := by
  induction paths generalizing s h with
  | nil => exact ⟨.refl s, Nat.le_refl _⟩
  | cons p ps ih =>
    obtain ⟨h1, h2⟩ := ih (s.offerCopy (r.portMap.portOf p) r.pclass ⟨b, h.seq, p⟩).1
      (h.setQueued (r.portMap.portOf p) (s.offerCopy (r.portMap.portOf p) r.pclass ⟨b, h.seq, p⟩).2)
    exact ⟨(Calm.offerCopy ..).trans h1, h2.trans (State.held_offerCopy ..)⟩

/-- A completed packet keeps every capacity: it is held only after the oldest of four is given up (R48). -/
theorem Calm.offerPacket (s : State) (b : BundleId) (r : Record) (h : HeldTx)
    (he : h.east = false) (hw : h.west = false) : Calm s (s.offerPacket b r h) := by
  obtain ⟨paths, hp⟩ : ∃ x, x = (transmittingPaths r.pathMode).filter fun p =>
    (s.net (r.portMap.portOf p)).up := ⟨_, rfl⟩
  obtain ⟨lost, hl⟩ : ∃ x, x = (transmittingPaths r.pathMode).length - paths.length := ⟨_, rfl⟩
  have counted : Calm s (notOffered s b lost) :=
    .modAssembly s b _ id fun k => by simpa [Assembly.Counted] using k
  have split : s.offerPacket b r h =
      let u := if paths.isEmpty then notOffered s b lost else (notOffered s b lost).supersede b
      let v := u.offerPaths b r h paths
      if v.2.east || v.2.west then v.1.modAssembly b fun a => { a with held := a.held ++ [v.2] }
      else v.1 := by rw [hl, hp]; rfl
  rw [split]
  by_cases hn : paths.isEmpty
  · obtain rfl : paths = [] := by simpa using hn
    simpa [State.offerPaths, he, hw] using counted
  · simp only [hn, Bool.false_eq_true, if_false]
    have freed := counted.trans (.supersede _ b)
    obtain ⟨c, l⟩ := Calm.offerPaths b r paths ((notOffered s b lost).supersede b) h
    refine .ite ((freed.trans c).thenAssembly b _ (fun k => ?_) id) (freed.trans c)
    have k : ((notOffered s b lost).bun b).assembly.held.length ≤ 4 := by
      simpa [notOffered] using k
    have := State.supersede_held k
    simp only [List.length_append, List.length_singleton]
    omega

theorem Calm.complete (s : State) (b : BundleId) (r : Record) : Calm s (s.complete b r) := by
  unfold State.complete
  simp only
  refine .trans (.trans (.trans (.modAssembly s b _ id fun h => ?_) (.offerPacket _ b r _ rfl rfl))
    (.arbitrate ..)) (.arbitrate ..)
  simp only [Assembly.Counted] at h ⊢
  split <;> simpa using h

theorem Calm.append (s : State) (b : BundleId) (r : Record) (bytes : List Byte) (mark : Bool) :
    Calm s (s.append b r bytes mark) := by
  have h : Calm s (s.modAssembly b fun a => { a with
      buffer := a.buffer ++ bytes
      frames := (s.bun b).assembly.frames + 1
      faultMark := a.faultMark || mark }) := .modAssembly s b _ id id
  exact .ite (h.trans (.complete ..)) h

theorem Calm.collect (t : TribId) (bytes : Vector Byte 32) (others : List TribId) (s : State)
    (b : BundleId) : Calm s (State.collect t bytes others s b) := by
  unfold State.collect
  simp only
  split
  · exact .refl s
  · split
    · exact .append ..
    · exact .refl s

theorem Calm.receiveFrame (t : TribId) (bytes : Vector Byte 32) (others : List TribId) (s : State) :
    Calm s (receiveFrame t bytes others s) := .foldl (Calm.collect t bytes others) _ _

theorem Calm.frameSent (n : NetPort) (s : State) : Calm s (frameSent n s) := by
  unfold Machine.frameSent
  split
  · exact .modNet s n _ rfl ⟨id, fun h => ⟨h.1, h.2.1, by simpa [TxCounters.Counted] using h.2.2⟩⟩
  · exact .refl s

theorem Calm.interFrameGapEnd (n : NetPort) (s : State) : Calm s (interFrameGapEnd n s) := by
  unfold Machine.interFrameGapEnd
  split
  · exact (Calm.modNet s n _ rfl (.refl _)).trans (.arbitrate ..)
  · exact .refl s

theorem Calm.linkIndicationAppears (n : NetPort) (s : State) : Calm s (linkIndicationAppears n s) :=
  .ite (.refl s) (.modNet s n _ rfl (.refl _))

/-! ## Received frames (R64 to R78) -/

theorem Calm.countHit (s : State) (n : NetPort) (pos : Nat) : Calm s (s.countHit n pos) := by
  refine .modNet s n _ rfl ⟨fun h => ⟨?_, h.2⟩, fun h => ⟨?_, h.2⟩⟩
  · simpa using h.1
  · intro k hk
    obtain ⟨e, he, rfl⟩ := List.mem_map.1 hk
    obtain ⟨i, hi, rfl⟩ := List.getElem_of_mem he
    have old : ∀ x ∈ (s.net n).list, x.hits ≤ 4294967295 := fun x hx => h.1 _ (List.mem_map_of_mem hx)
    simp only [List.getElem_modify]
    split
    · exact bump_le_max_iff.2 (old _ (List.getElem_mem _))
    · exact old _ (List.getElem_mem _)

theorem Calm.capture (s : State) (slot : Option CaptureId) (x : Captured) : Calm s (s.capture slot x) := by
  have set : ∀ v, Calm s { s with captures := v } := fun _ =>
    .of_rest rfl rfl rfl rfl rfl rfl rfl rfl rfl
  unfold State.capture
  split
  · exact .refl s
  · split
    · exact .refl s
    · exact (set _).trans (.post ..)
    · exact set _

theorem Calm.countDelivery (s : State) (b : BundleId) (o : PacketOutcome) :
    Calm s (s.countDelivery b o) := by
  refine .modBun s b _ ⟨rfl, rfl, rfl⟩ rfl
    ⟨id, fun k => ⟨k.assembly, k.playout, k.delay, k.supervisor, ?_⟩⟩
  have h := k.delivery
  cases o <;> simpa [Delivery.Counted, Delivery.count] using h

/-- A change undone, or not made anew, needs no other event. -/
theorem Told.settle {s t u : State} (k : Told s t) (q : ∀ cp, Grows (t.ctrl cp) (u.ctrl cp))
    (h : ∀ b, (u.bun b).state = (t.bun b).state ∨ (u.bun b).state = (s.bun b).state) : Told s u :=
  fun b ne => by
    have e := (h b).resolve_right ne
    obtain ⟨cause, r⟩ := k b (by rw [← e]; exact ne)
    exact ⟨cause, by rw [e]; exact reported_mono r q⟩

/-- A bundle's state stays, or becomes DOWN. -/
def Falls (b : BundleId) (s t : State) : Prop :=
  (t.bun b).state = (s.bun b).state ∨ (t.bun b).state = .down

theorem Falls.andCalm {b : BundleId} {s t u : State} (h : Falls b s t) (k : Calm t u) : Falls b s u := by
  unfold Falls
  rw [k.states b]
  exact h

theorem Falls.ite {b : BundleId} {s t u : State} {c : Prop} [Decidable c] (h : Falls b s t)
    (k : Falls b s u) : Falls b s (if c then t else u) := by split <;> assumption

/-- The state a fall back ends in (R39). -/
theorem State.state_fallBack (s : State) (b : BundleId) (new : BState) (cause : StateCause) :
    ((s.fallBack b new cause).bun b).state = new := by
  have h : ((s.changeState b new cause).bun b).state = new := by rw [State.bun_changeState]
  unfold State.fallBack
  simp only
  split
  · rw [((Calm.dropProposal _ b).trans (.computeTarget _ b)).states b, h]
  · exact h

theorem Falls.supervise (s : State) (b : BundleId) (r : Record) (new : Supervisor) :
    Falls b s (s.supervise b r new) := by
  have same : ((s.modBun b fun x => { x with supervisor := new }).bun b).state = (s.bun b).state := by
    simp
  have down : ∀ c : Bool, Falls b s (if c then
      (s.modBun b fun x => { x with supervisor := new }).reportDown b
      else s.modBun b fun x => { x with supervisor := new }) := by
    refine fun c => .ite ?_ (.inl same)
    unfold State.reportDown
    exact .ite (.inr (State.state_fallBack ..)) (.inl same)
  unfold State.supervise
  simp only
  refine .ite (.andCalm ?_ (.evaluateSelector ..)) ?_
  · exact .ite ((down _).andCalm (.hearAnnouncement ..)) (down _)
  · exact .ite ((down _).andCalm (.hearAnnouncement ..)) (down _)

/-- The supervisor's record after an accepted packet (R134, R136, R145). -/
def acceptedSupervisor (s : State) (x : Supervisor) (r : Record) (p : Path) (fault : Bool)
    (playing : PlayingPath) : Supervisor :=
  { x with
    path := x.path.setPath p ((x.path.atPath p).accept (s.afterMs r.lossTime) fault)
    selector := { x.selector with announcement := some playing } }

theorem acceptedSupervisor_counted {s : State} {x : Supervisor} (r : Record) (p : Path) (fault : Bool)
    (playing : PlayingPath) (h : x.Counted) : (acceptedSupervisor s x r p fault playing).Counted := by
  obtain ⟨h1, h2⟩ := Supervisor.counted_setPath h p (PathRecord.accept_counted (s.afterMs r.lossTime) fault)
  exact ⟨h1, h2, h.2.2⟩

/-- What the supervisor does of an accepted packet once its bundle has left DOWN (R134 to R138). -/
theorem acceptOnPath_rest (u : State) (b : BundleId) (r : Record) (p : Path) (fault : Bool)
    (playing : PlayingPath) (t : State) (ht : t = (u.postIf
      (((u.bun b).supervisor.path.atPath p).state != .up) .pathState (.bundlePath b p)
      (pathStateDetail ((u.bun b).supervisor.path.atPath p).state .up)).supervise b r
      (acceptedSupervisor u (u.bun b).supervisor r p fault playing)) : Retold u t ∧ Falls b u t := by
  subst ht
  constructor
  · refine (Calm.postIf ..).andThen (.supervise _ b r _ fun h => ?_)
    rw [State.bun_postIf] at h
    exact acceptedSupervisor_counted r p fault playing h
  · have h := Falls.supervise (u.postIf
      (((u.bun b).supervisor.path.atPath p).state != .up) .pathState (.bundlePath b p)
      (pathStateDetail ((u.bun b).supervisor.path.atPath p).state .up)) b r
      (acceptedSupervisor u (u.bun b).supervisor r p fault playing)
    unfold Falls at h ⊢
    rwa [State.bun_postIf] at h

/-- The supervisor's part of an accepted packet posts the change of state it makes, after which the bundle is
not PLAYING: one in DOWN is FILLING, or DOWN again (R134, R138, R139). -/
theorem Retold.acceptOnPath (s : State) (b : BundleId) (r : Record) (p : Path) (fault : Bool)
    (playing : PlayingPath) : Retold s (s.acceptOnPath b r p fault playing) ∧
      (((s.acceptOnPath b r p fault playing).bun b).state = .playing → (s.bun b).state = .playing) := by
  have others := (Local.acceptOnPath s b r p fault playing).others
  by_cases hd : (s.bun b).state = .down
  · have leave := Retold.changeState s b .filling .pathRecovered
    have filling : ((s.changeState b .filling .pathRecovered).bun b).state = .filling := by
      rw [State.bun_changeState]
    obtain ⟨rest, falls⟩ := acceptOnPath_rest (s.changeState b .filling .pathRecovered) b r p fault playing
      (s.acceptOnPath b r p fault playing) (by simp only [State.acceptOnPath, hd, if_true]; rfl)
    refine ⟨⟨leave.quiet.trans rest.quiet, leave.told.settle rest.quiet.hush.queues fun c => ?_⟩, ?_⟩
    · by_cases e : c = b
      · subst e; rw [hd]; exact falls
      · exact .inr (by rw [others c e])
    · rcases falls with h | h
      · rw [h, filling]; exact nofun
      · rw [h]; exact nofun
  · obtain ⟨rest, falls⟩ := acceptOnPath_rest s b r p fault playing
      (s.acceptOnPath b r p fault playing) (by simp only [State.acceptOnPath, hd, if_false]; rfl)
    refine ⟨rest, fun h => ?_⟩
    rcases falls with k | k
    · rw [← k]; exact h
    · rw [k] at h; exact nomatch h

/-- Only a PLAYING bundle changes its state when a packet is placed (R88). -/
theorem Calm.place {s : State} {b : BundleId} (r : Record) (k : Packet)
    (h : (s.bun b).state ≠ .playing) : Calm s (s.place b r k) := by
  have kept := Retold.place s b r k
  refine ⟨kept.quiet, fun c => ?_⟩
  by_cases e : c = b
  · subst e
    unfold State.place
    simp only
    split
    · simp [State.modPlay]
    · split
      · simp [State.modPlay]
      · simp [State.modPlay]
      · simp [State.modPlay]
      · unfold State.early State.resync
        simp only
        split
        · rw [if_neg]
          · simp [State.modPlay, State.bun_emptyRing]
          · simpa [State.modPlay, State.bun_emptyRing] using h
        · simp [State.modPlay]
      · exact (Calm.store s c r k).states c
  · rw [(Local.place s b r k).others c e]

/-- An accepted packet posts the one change of state it makes (R78). -/
theorem Retold.accept (s : State) (b : BundleId) (k : Packet) : Retold s (s.accept b k) := by
  unfold State.accept
  split
  · exact (Calm.refl s).retold
  · next r _ =>
    refine (Calm.measure s b r k).andThen ?_
    obtain ⟨heard, playing⟩ := Retold.acceptOnPath (s.measure b r k) b r k.header.path k.header.rxFault
      k.header.playing
    by_cases hp : (((s.measure b r k).acceptOnPath b r k.header.path k.header.rxFault
        k.header.playing).bun b).state = .playing
    · have same : Calm (s.measure b r k) ((s.measure b r k).acceptOnPath b r k.header.path k.header.rxFault
          k.header.playing) := ⟨heard.quiet, fun c => by
        by_cases e : c = b
        · subst e; rw [hp, playing hp]
        · rw [(Local.acceptOnPath ..).others c e]⟩
      exact same.andThen (.place ..)
    · exact heard.andCalm (.place r k hp)

theorem Retold.deliver (s : State) (k : Packet) (verdict : PacketOutcome × Option BundleId) :
    Retold s (s.deliver k verdict) := by
  unfold State.deliver
  split
  · exact (Calm.refl s).retold
  · next b _ =>
    exact .ite ((Calm.countDelivery s b _).andThen (.accept ..)) (Calm.countDelivery s b _).retold

theorem Calm.countRx (s : State) (n : NetPort) (d : Delivered) : Calm s (s.modRx n fun c => c.count d) := by
  refine .modRx s n _ fun c h => ?_
  cases d <;> simpa [RxCounters.Counted, RxCounters.count] using h

theorem Retold.classify (s : State) (k : Packet) : Retold s (s.classify k) := by
  unfold State.classify
  simp only
  split
  · refine (Calm.modRx s _ _ fun c h => ?_).retold
    simpa [RxCounters.Counted] using h
  · split
    · exact (Calm.refl s).retold
    · exact (((Calm.countHit ..).trans (.capture ..)).trans (.countRx ..)).andThen (.deliver ..)

theorem Retold.frameTaken (n : NetPort) (rxError : Bool) (bs : List Byte) (s : State) :
    Retold s (frameTaken n rxError bs s) := by
  have count : ∀ f : RxCounters → RxCounters, (∀ c, c.Counted → (f c).Counted) → Retold s (s.modRx n f) :=
    fun f h => (Calm.modRx s n f h).retold
  unfold Machine.frameTaken
  split
  · split
    · exact count _ fun c h => by simpa [RxCounters.Counted] using h
    · exact count _ fun c h => by simpa [RxCounters.Counted] using h
    · exact count _ fun c h => by simpa [RxCounters.Counted] using h
    · exact count _ fun c h => by simpa [RxCounters.Counted] using h
    · exact .classify ..
  · exact count _ fun c h => by simpa [RxCounters.Counted] using h

end Sys2Proof.Machine
end

section
/-! The timing unit and the tributary lines: what each operation changes and posts (chapters 1 and 8). -/

namespace Sys2Proof.Machine

open Safety

/-- A queue to which events are offered only grows. -/
theorem grows_foldl_offer (es : List Event) (c : Ctrl) : Grows c (es.foldl Ctrl.offer c) := by
  induction es generalizing c with
  | nil => exact .refl c
  | cons e es ih => exact (c.grows_offer e).trans (ih _)

theorem reported_foldl_offer {e : Event} {es : List Event} (h : e ∈ es) (c : Ctrl) :
    e ∈ (es.foldl Ctrl.offer c).queue ∨ (es.foldl Ctrl.offer c).lost = true := by
  induction es generalizing c with
  | nil => cases h
  | cons x es ih =>
    rcases List.mem_cons.1 h with rfl | h
    · have g := grows_foldl_offer es (c.offer e)
      exact (c.offer_reported e).imp (fun m => g.queue.subset m) g.lost
    · exact ih h _

end Sys2Proof.Machine

namespace Sys2Proof.Safety

open Machine

/-! ## Posts -/

theorem Posts.refl (s : State) : Posts s s [] := fun _ => rfl

theorem Posts.trans {s t u : State} {es fs : List Event} (h : Posts s t es) (k : Posts t u fs) :
    Posts s u (es ++ fs) := fun cp => by rw [k cp, h cp, List.foldl_append]

theorem Posts.post (s : State) (k : EventKind) (j : Subject) (d : Nat) :
    Posts s (s.post k j d) [eventNow s k j d] := fun cp => by rw [State.ctrl_post]; rfl

theorem Posts.of_ctrls {s t : State} (h : t.ctrls = s.ctrls) : Posts s t [] := fun cp => by
  simp only [State.ctrl, h, List.foldl_nil]

theorem Posts.postIf (s : State) (c : Bool) (k : EventKind) (j : Subject) (d : Nat) :
    Posts s (s.postIf c k j d) (if c then [eventNow s k j d] else []) := by
  cases c
  · exact .refl s
  · exact Posts.post s k j d

theorem Posts.grows {s t : State} {es : List Event} (h : Posts s t es) (cp : CtrlPort) :
    Grows (s.ctrl cp) (t.ctrl cp) := by rw [h cp]; exact grows_foldl_offer _ _

/-- What is posted is reported. -/
theorem Posts.reported {s t : State} {es : List Event} (h : Posts s t es) {e : Event} (m : e ∈ es) :
    Reported t e := fun cp => by rw [h cp]; exact reported_foldl_offer m _

end Sys2Proof.Safety

namespace Sys2Proof.Machine

open Safety

/-! ## The selector and its candidates (R152, R153) -/

/-- The nine candidates, the mode, the register and the window are as they were. -/
structure SameTiming (x y : Timing) : Prop where
  candidates : y.candidates = x.candidates
  mode : y.mode = x.mode
  holdover : y.holdover = x.holdover
  window : y.windowEnd = x.windowEnd

/-- The selector's entry of a state leaves its candidates and settings (R153). -/
theorem Timing.enter_same (x : Timing) (y : TimingState) : SameTiming x (x.enter y) := ⟨rfl, rfl, rfl, rfl⟩

theorem Timing.enter_counted {x : Timing} (y : TimingState) (h : x.Counted) : (x.enter y).Counted := by
  refine ⟨?_, h.2⟩
  cases y
  · exact h.1
  · exact h.1
  · exact bump_le_max_iff.2 h.1

theorem State.evaluateTiming_same (s : State) : SameTiming s.timing s.evaluateTiming.timing := by
  unfold State.evaluateTiming
  simp only
  split
  · exact ⟨rfl, rfl, rfl, rfl⟩
  · exact Timing.enter_same ..

/-- An evaluation posts the change of the selector's state it makes (R153). -/
theorem State.evaluateTiming_posts (s : State) :
    Posts s s.evaluateTiming (selectorChange s s.evaluateTiming) := by
  have e := s.evaluateTiming_state
  unfold selectorChange
  rw [e]
  unfold State.evaluateTiming
  simp only
  split
  · exact .refl s
  · intro cp
    rw [State.ctrl_post]
    rfl

theorem SameTiming.candidate {x y : Timing} (h : SameTiming x y) (c : Candidate) :
    y.candidate c = x.candidate c := by simp only [Timing.candidate, h.candidates]

/-- A change of the timing unit that keeps the validity of every line's candidate is calm. -/
theorem Calm.modTiming (s : State) (x : Timing) (h : s.timing.Counted → x.Counted)
    (valid : ∀ p, (x.candidate (.trib p)).valid = (s.timing.candidate (.trib p)).valid) :
    Calm s { s with timing := x } :=
  ⟨⟨⟨rfl, fun _ => .refl _, fun _ => rfl⟩, .modTiming s x h, ⟨fun _ => .refl _, valid⟩, rfl,
    fun _ => .refl _, fun _ => Nat.le_refl _⟩, fun _ => rfl⟩

theorem Calm.evaluateTiming (s : State) : Calm s s.evaluateTiming := by
  unfold State.evaluateTiming
  simp only
  split
  · exact .refl s
  · exact (Calm.modTiming s _ (Timing.enter_counted _) fun p => rfl).trans (.post ..)

theorem Kept.evaluateTiming (s : State) : Kept s s.evaluateTiming := (Calm.evaluateTiming s).quiet.kept

theorem Timing.setCandidate_counted {x : Timing} (h : x.Counted) (c : Candidate) {r : CandidateRecord}
    (k : r.losses ≤ 4294967295) : (x.setCandidate c r).Counted := by
  refine ⟨h.1, fun d => ?_⟩
  rw [Timing.candidate_setCandidate]
  split
  · exact k
  · exact h.2 d

/-- What a change of one candidate does to the timing unit and posts (R152, R153). -/
theorem State.setCandidate_spec (s : State) (c : Candidate) (new : CandidateRecord) :
    (∀ d, (s.setCandidate c new).timing.candidate d = if d = c then new else s.timing.candidate d) ∧
    (s.setCandidate c new).timing.mode = s.timing.mode ∧
    (s.setCandidate c new).timing.holdover = s.timing.holdover ∧
    (s.setCandidate c new).timing.windowEnd = s.timing.windowEnd ∧
    Posts s (s.setCandidate c new) (timingChange s (s.setCandidate c new) c) := by
  by_cases h : new.state = (s.timing.candidate c).state
  · have e : s.setCandidate c new = { s with timing := s.timing.setCandidate c new } := if_pos h
    have none : timingChange s (s.setCandidate c new) c = [] := by
      rw [e]
      unfold timingChange selectorChange
      simp only [Timing.candidate_setCandidate_self, h, if_true, List.nil_append]
      exact if_pos rfl
    rw [none, e]
    exact ⟨fun d => Timing.candidate_setCandidate .., rfl, rfl, rfl, .of_ctrls rfl⟩
  · obtain ⟨u, hu⟩ : ∃ u : State, u = ({ s with timing := s.timing.setCandidate c new } : State).post
        .candidateState (.candidate c)
        (changeDetail (s.timing.candidate c).state.code new.state.code 0) := ⟨_, rfl⟩
    have e : s.setCandidate c new = u.evaluateTiming := hu ▸ if_neg h
    have same := u.evaluateTiming_same
    have ut : u.timing = s.timing.setCandidate c new := by rw [hu]; rfl
    have cands : ∀ d, (s.setCandidate c new).timing.candidate d =
        if d = c then new else s.timing.candidate d := fun d => by
      rw [e, same.candidate, ut, Timing.candidate_setCandidate]
    have now : u.now = s.now := by rw [hu]; rfl
    refine ⟨cands, ?_, ?_, ?_, ?_⟩
    · rw [e, same.mode, ut]; rfl
    · rw [e, same.holdover, ut]; rfl
    · rw [e, same.window, ut]; rfl
    · have posted : Posts s u [eventNow s .candidateState (.candidate c)
          ((s.timing.candidate c).state.code * 256 + new.state.code)] := by
        have p := Posts.post ({ s with timing := s.timing.setCandidate c new } : State) .candidateState
          (.candidate c) (changeDetail (s.timing.candidate c).state.code new.state.code 0)
        rw [← hu, show eventNow ({ s with timing := s.timing.setCandidate c new } : State) = eventNow s from
          eventNow_of_now rfl] at p
        simp only [changeDetail, Nat.zero_mul, Nat.zero_add] at p
        exact fun cp => p cp
      have := posted.trans u.evaluateTiming_posts
      rw [← e] at this
      convert this using 1
      unfold timingChange
      simp only [cands, if_true, if_neg h]
      congr 1
      simp only [selectorChange, ut, eventNow_of_now now]
      rfl

theorem CandidateRecord.takeValidity_valid (x : CandidateRecord) (v : Bool) (timer : Timer) :
    (x.takeValidity v timer).valid = v := by
  unfold CandidateRecord.takeValidity
  split
  · split <;> rfl
  · rfl
  · rfl
  · rfl

/-- Of a candidate, what a change of its validity leaves (R152). -/
theorem CandidateRecord.takeValidity_kept (x : CandidateRecord) (v : Bool) (timer : Timer) :
    (x.takeValidity v timer).priority = x.priority ∧ (x.takeValidity v timer).qualify = x.qualify ∧
      (x.takeValidity v timer).frequency = x.frequency ∧
      (x.losses ≤ 4294967295 → (x.takeValidity v timer).losses ≤ 4294967295) := by
  unfold CandidateRecord.takeValidity
  split
  · split <;> exact ⟨rfl, rfl, rfl, id⟩
  · exact ⟨rfl, rfl, rfl, id⟩
  · exact ⟨rfl, rfl, rfl, id⟩
  · exact ⟨rfl, rfl, rfl, bump_le_max_iff.2⟩

/-- A change of validity changes its candidate and the selector, and posts what these change (R151, R152). -/
theorem State.setValidity_spec (s : State) (c : Candidate) (v : Bool) :
    OnlyCandidate s.timing (s.setValidity c v).timing c ∧
      ((s.setValidity c v).timing.candidate c).valid = v ∧
      Posts s (s.setValidity c v) (timingChange s (s.setValidity c v) c) := by
  by_cases h : (s.timing.candidate c).valid = v
  · have e : s.setValidity c v = s := if_pos h
    rw [e]
    refine ⟨⟨fun _ _ => rfl, rfl, rfl, rfl, rfl, rfl, rfl⟩, h, ?_⟩
    simp only [timingChange, selectorChange, if_true, List.append_nil]
    exact .refl s
  · obtain ⟨new, hn⟩ : ∃ x, x = (s.timing.candidate c).takeValidity v
      (s.afterSec (s.timing.candidate c).qualify) := ⟨_, rfl⟩
    have e : s.setValidity c v = s.setCandidate c new := hn ▸ if_neg h
    obtain ⟨cands, mode, hold, window, posts⟩ := s.setCandidate_spec c new
    obtain ⟨prio, qual, freq, -⟩ := (s.timing.candidate c).takeValidity_kept v
      (s.afterSec (s.timing.candidate c).qualify)
    rw [← hn] at prio qual freq
    rw [e]
    refine ⟨⟨fun d hd => by rw [cands, if_neg hd], mode, hold, window, ?_, ?_, ?_⟩, ?_, posts⟩
    · rw [cands, if_pos rfl, prio]
    · rw [cands, if_pos rfl, qual]
    · rw [cands, if_pos rfl, freq]
    · rw [cands, if_pos rfl, hn, CandidateRecord.takeValidity_valid]

theorem Kept.setCandidate (s : State) (c : Candidate) (new : CandidateRecord)
    (h : (s.timing.candidate c).losses ≤ 4294967295 → new.losses ≤ 4294967295) :
    Kept s (s.setCandidate c new) := by
  have set : Kept s { s with timing := s.timing.setCandidate c new } :=
    .modTiming s _ fun k => Timing.setCandidate_counted k c (h (k.2 c))
  unfold State.setCandidate
  simp only
  split
  · exact set
  · exact (set.trans (.post ..)).trans (.evaluateTiming _)

theorem Kept.setValidity (s : State) (c : Candidate) (v : Bool) : Kept s (s.setValidity c v) := by
  unfold State.setValidity
  simp only
  split
  · exact .refl s
  · exact .setCandidate s c _ (CandidateRecord.takeValidity_kept ..).2.2.2

/-! ## A change of receive state (R4 to R11) -/

theorem Trib.fallBackLoop_eq (x : Trib) (new : RxState) :
    { x.fallBackLoop new with rx := new } = { x with rx := new, txSource := sourceAfter x new } := by
  unfold Trib.fallBackLoop sourceAfter
  by_cases h : x.txSource = .line ∧ new.onLine = false
  · simp [h]
  · have : ¬ (decide (x.txSource = .line) && !new.onLine) = true := by simpa using h
    rw [if_neg this, if_neg h]

theorem State.setRx_of_eq {s : State} {p : TribId} {new : RxState} (h : (s.trib p).rx = new) :
    s.setRx p new = s := if_pos h

/-- The validity follows once the state has changed and the event is posted. -/
theorem State.setRx_of_ne {s : State} {p : TribId} {new : RxState} (h : (s.trib p).rx ≠ new) :
    s.setRx p new = ((s.modTrib p fun x => { x.fallBackLoop new with rx := new }).post .tribState (.trib p)
      (changeDetail (s.trib p).rx.code new.code 0)).setValidity (.trib p) new.onLine := if_neg h

theorem State.setValidity_frame (s : State) (c : Candidate) (v : Bool) :
    s.setValidity c v = { s with
      timing := (s.setValidity c v).timing, ctrls := (s.setValidity c v).ctrls } := by
  unfold State.setValidity
  simp only
  split
  · rfl
  · exact State.setCandidate_frame ..

theorem State.trib_setValidity (s : State) (c : Candidate) (v : Bool) (q : TribId) :
    (s.setValidity c v).trib q = s.trib q := by rw [State.setValidity_frame]; rfl

/-- The port after a change of receive state. -/
theorem State.trib_setRx (s : State) (p : TribId) {new : RxState} (h : (s.trib p).rx ≠ new) :
    (s.setRx p new).trib p =
      { s.trib p with rx := new, txSource := sourceAfter (s.trib p) new } := by
  rw [State.setRx_of_ne h, State.trib_setValidity, State.trib_post, State.trib_modTrib_self,
    Trib.fallBackLoop_eq]

theorem State.trib_setRx_ne (s : State) {p q : TribId} (new : RxState) (h : q ≠ p) :
    (s.setRx p new).trib q = s.trib q := by
  by_cases e : (s.trib p).rx = new
  · rw [State.setRx_of_eq e]
  · rw [State.setRx_of_ne e, State.trib_setValidity, State.trib_post, State.trib_modTrib_ne _ _ h]

/-- A step on port `p` before its receive state changes: nothing but the port differs, in its line state not
at all, and the events `es` are posted. -/
structure LineStep (s u : State) (p : TribId) (es : List Event) : Prop where
  frame : u = { s with tribs := u.tribs, ctrls := u.ctrls }
  others : OtherTribs s u p
  posts : Posts s u es

theorem LineStep.modTrib (s : State) (p : TribId) (f : Trib → Trib) :
    LineStep s (s.modTrib p f) p [] :=
  ⟨rfl, fun _ h => State.trib_modTrib_ne s f h, .of_ctrls rfl⟩

theorem LineStep.trans {s t u : State} {p : TribId} {es fs : List Event} (h : LineStep s t p es)
    (k : LineStep t u p fs) : LineStep s u p (es ++ fs) :=
  ⟨by rw [k.frame, h.frame], fun q hq => (k.others q hq).trans (h.others q hq), h.posts.trans k.posts⟩

/-- Clearing remote alarm in posts that it was set (R10). -/
theorem LineStep.clearRemoteAlarm (s : State) (p : TribId) :
    LineStep s (s.clearRemoteAlarm p) p (alarmCleared s p) := by
  have h := LineStep.modTrib s p fun x => { x with remoteAlarm := false, onesRun := 0, zerosRun := 0 }
  refine ⟨State.clearRemoteAlarm_frame s p, fun q hq => ?_, ?_⟩
  · unfold State.clearRemoteAlarm
    rw [State.trib_postIf, State.trib_modTrib_ne _ _ hq]
  · have k := Posts.postIf (s.modTrib p fun x => { x with remoteAlarm := false, onesRun := 0, zerosRun := 0 })
      (s.trib p).remoteAlarm .tribRemoteAlarm (.trib p) 0
    exact h.posts.trans k

theorem State.trib_clearRemoteAlarm (s : State) (p : TribId) :
    (s.clearRemoteAlarm p).trib p =
      { s.trib p with remoteAlarm := false, onesRun := 0, zerosRun := 0 } := by
  simp [State.clearRemoteAlarm]

/-- What a line's event does: after the step `u` of its own the receive state changes, which is posted, and the
port's validity as a clock candidate follows (R11, R151). -/
theorem LineStep.setRx {s u : State} {p : TribId} {es : List Event} (h : LineStep s u p es)
    (same : (u.trib p).rx = (s.trib p).rx) {new : RxState} (ne : (s.trib p).rx ≠ new) :
    LineChange s (u.setRx p new) p ∧
      (u.setRx p new).trib p = { u.trib p with rx := new, txSource := sourceAfter (u.trib p) new } ∧
      Posts s (u.setRx p new)
        (es ++ tribStateEvent s p new :: timingChange s (u.setRx p new) (.trib p)) := by
  have ne' : (u.trib p).rx ≠ new := same ▸ ne
  have now : u.now = s.now := by rw [h.frame]
  have timing : u.timing = s.timing := by rw [h.frame]
  obtain ⟨v, hv⟩ : ∃ v, v = (u.modTrib p fun x => { x.fallBackLoop new with rx := new }).post .tribState
    (.trib p) (changeDetail (u.trib p).rx.code new.code 0) := ⟨_, rfl⟩
  have e : u.setRx p new = v.setValidity (.trib p) new.onLine := hv ▸ State.setRx_of_ne ne'
  obtain ⟨only, valid, posts⟩ := v.setValidity_spec (.trib p) new.onLine
  have vt : v.timing = s.timing := by rw [hv]; exact timing
  have vn : v.now = s.now := by rw [hv]; exact now
  rw [← e, vt] at only
  rw [← e] at valid posts
  have own := u.trib_setRx p ne'
  refine ⟨⟨?_, ?_, only, ?_⟩, own, ?_⟩
  · rw [State.setRx_frame, h.frame]
  · exact fun q hq => (u.trib_setRx_ne new hq).trans (h.others q hq)
  · rw [valid, own]
  · have stated : Posts u v [tribStateEvent s p new] := by
      have k := Posts.post (u.modTrib p fun x => { x.fallBackLoop new with rx := new }) .tribState
        (.trib p) (changeDetail (u.trib p).rx.code new.code 0)
      rw [← hv] at k
      have d : eventNow (u.modTrib p fun x => { x.fallBackLoop new with rx := new }) .tribState (.trib p)
          (changeDetail (u.trib p).rx.code new.code 0) = tribStateEvent s p new := by
        rw [show eventNow (u.modTrib p fun x => { x.fallBackLoop new with rx := new }) = eventNow s from
          eventNow_of_now now]
        simp [tribStateEvent, changeDetail, same]
      rw [d] at k
      exact fun cp => k cp
    have change : timingChange v (u.setRx p new) (.trib p) =
        timingChange s (u.setRx p new) (.trib p) := by
      simp only [timingChange, selectorChange, vt, eventNow_of_now vn]
    rw [change] at posts
    simpa using (h.posts.trans stated).trans posts

end Sys2Proof.Machine
end

section
/-! The line events (R4 to R10): O26 to O30. -/

namespace Sys2Proof.Machine

open Safety

/-! ## The steps of the line events -/

/-- A lost input gives up the line's block, runs and alignment, and its alarm (R4). -/
def Trib.lostInput (x : Trib) : Trib :=
  { x.abandonLine with signalLosses := bump x.signalLosses }

/-- AIS is entered with the runs and the alignment given up (R6). -/
def Trib.enteringAis (x : Trib) : Trib :=
  { x with aisRun := 0, errorRun := 0, alignNext := false, aisEntries := bump x.aisEntries }

/-- Alignment is given up (R8). -/
def Trib.losingAlignment (x : Trib) : Trib :=
  { x with errorRun := 0, alignNext := false, alignLosses := bump x.alignLosses }

/-- A port changed by `f`, its remote alarm then cleared. -/
theorem LineStep.modTrib_clear (s : State) (p : TribId) (f : Trib → Trib)
    (h : (f (s.trib p)).remoteAlarm = (s.trib p).remoteAlarm) :
    LineStep s ((s.modTrib p f).clearRemoteAlarm p) p (alarmCleared s p) := by
  have k := (LineStep.modTrib s p f).trans (.clearRemoteAlarm _ p)
  have e : alarmCleared (s.modTrib p f) p = alarmCleared s p := by
    unfold alarmCleared
    rw [State.trib_modTrib_self, h]
    rfl
  rwa [e] at k

/-- A port whose own step changes nothing but itself. -/
theorem only_trib (s : State) (p : TribId) (f : Trib → Trib) {y : Trib} (h : f (s.trib p) = y) :
    s.modTrib p f = { s with tribs := (s.modTrib p f).tribs } ∧ OtherTribs s (s.modTrib p f) p ∧
      (s.modTrib p f).trib p = y :=
  ⟨rfl, fun _ hq => State.trib_modTrib_ne s f hq, by rw [State.trib_modTrib_self, h]⟩

theorem State.inputLost_eq {s : State} {p : TribId} (h : (s.trib p).rx ≠ .off)
    (k : (s.trib p).rx ≠ .noSignal) :
    s.inputLost p = ((s.modTrib p Trib.lostInput).clearRemoteAlarm p).setRx p .noSignal := by
  unfold State.inputLost
  split
  · next e => exact absurd e h
  · next e => exact absurd e k
  · rfl

/-- A receive input lost from a state with a signal (R4). -/
theorem inputLost_spec {s : State} {p : TribId} (h : (s.trib p).rx ≠ .off) (k : (s.trib p).rx ≠ .noSignal) :
    LineChange s (s.inputLost p) p ∧
      (s.inputLost p).trib p = { s.trib p with
        rx := .noSignal
        recovery := false
        blocks := 0
        aisRun := 0
        errorRun := 0
        alignNext := false
        onesRun := 0
        zerosRun := 0
        remoteAlarm := false
        signalLosses := bump (s.trib p).signalLosses
        txSource := sourceAfter (s.trib p) .noSignal } ∧
      Posts s (s.inputLost p)
        (alarmCleared s p ++ tribStateEvent s p .noSignal :: timingChange s (s.inputLost p) (.trib p)) := by
  rw [State.inputLost_eq h k]
  obtain ⟨change, own, posts⟩ := (LineStep.modTrib_clear s p Trib.lostInput rfl).setRx
    (by rw [State.trib_clearRemoteAlarm, State.trib_modTrib_self]; rfl) k
  refine ⟨change, ?_, posts⟩
  rw [own, State.trib_clearRemoteAlarm, State.trib_modTrib_self]
  rfl

/-- The recovery block decided (R5). -/
theorem recoveryBlock_spec {s : State} {p : TribId} (block : BitVec 512)
    (h : (s.trib p).rx = .noSignal) :
    let new : RxState := if zeroBits block < 3 then .ais
      else if (s.trib p).cfg.kind = .framed then .search else .present
    let t := recoveryBlockComplete p block s
    LineChange s t p ∧
      t.trib p = { s.trib p with
        rx := new
        recovery := false
        blocks := 1
        aisRun := 0
        txSource := sourceAfter (s.trib p) new } ∧
      Posts s t (tribStateEvent s p new :: timingChange s t (.trib p)) := by
  intro new t
  have e : t = (s.modTrib p fun x => { x with recovery := false, blocks := 1, aisRun := 0 }).setRx p new := by
    simp only [t, recoveryBlockComplete, h, if_true, new, meetsAis, Trib.live, decide_eq_true_eq]
  have ne : (s.trib p).rx ≠ new := by
    rw [h]
    simp only [new]
    split
    · exact nofun
    · split <;> exact nofun
  rw [e]
  obtain ⟨change, own, posts⟩ := (LineStep.modTrib s p fun x =>
    { x with recovery := false, blocks := 1, aisRun := 0 }).setRx (by rw [State.trib_modTrib_self]) ne
  refine ⟨change, ?_, posts⟩
  rw [own, State.trib_modTrib_self]
  rfl

/-- A block of three or more zeros ends AIS (R6). -/
theorem leaveAis_spec {s : State} {p : TribId} {block : BitVec 512} (h : (s.trib p).rx = .ais)
    (z : 3 ≤ zeroBits block) :
    let new : RxState := if (s.trib p).cfg.kind = .framed then .search else .present
    let t := aisBlockComplete p block s
    LineChange s t p ∧
      t.trib p = { s.trib p with
        rx := new, blocks := (s.trib p).blocks + 1, txSource := sourceAfter (s.trib p) new } ∧
      Posts s t (tribStateEvent s p new :: timingChange s t (.trib p)) := by
  intro new t
  have e : t = (s.modTrib p fun x => { x with blocks := x.blocks + 1 }).setRx p new := by
    simp only [t, aisBlockComplete, h, meetsAis, Trib.live, decide_eq_true_eq, new]
    exact if_neg (by omega)
  have ne : (s.trib p).rx ≠ new := by
    rw [h]; simp only [new]; split <;> exact nofun
  rw [e]
  obtain ⟨change, own, posts⟩ := (LineStep.modTrib s p fun x => { x with blocks := x.blocks + 1 }).setRx
    (by rw [State.trib_modTrib_self]) ne
  refine ⟨change, ?_, posts⟩
  rw [own, State.trib_modTrib_self]
  rfl

/-- A port on its line, in SEARCH or PRESENT: the states from which AIS is entered (R6). -/
def RxState.TestsAis (x : RxState) : Prop := x = .search ∨ x = .aligned ∨ x = .present

/-- What a completed block does in those states (R6). -/
theorem aisBlockComplete_testing {s : State} {p : TribId} {block : BitVec 512}
    (h : (s.trib p).rx.TestsAis) :
    aisBlockComplete p block s =
      if zeroBits block < 3 then
        if 1 ≤ (s.trib p).aisRun then (s.modTrib p fun x => { x with blocks := x.blocks + 1 }).enterAis p
        else (s.modTrib p fun x => { x with blocks := x.blocks + 1 }).modTrib p fun x => { x with aisRun := 1 }
      else (s.modTrib p fun x => { x with blocks := x.blocks + 1 }).modTrib p fun x =>
        { x with aisRun := 0 } := by
  rcases h with h | h | h <;> simp only [aisBlockComplete, h, meetsAis, decide_eq_true_eq]

/-- Two changes of one port are one. -/
theorem State.modTrib_modTrib (s : State) (p : TribId) (f g : Trib → Trib) :
    (s.modTrib p f).modTrib p g = s.modTrib p fun x => g (f x) := by
  simp only [State.modTrib, State.trib, Fin.getElem_fin, Vector.getElem_set_self, Vector.set_set]

/-- AIS entered (R6). -/
theorem enterAis_spec {s : State} {p : TribId} {block : BitVec 512} (h : (s.trib p).rx.TestsAis)
    (z : zeroBits block < 3) (run : 1 ≤ (s.trib p).aisRun) :
    LineChange s (aisBlockComplete p block s) p ∧
      (aisBlockComplete p block s).trib p = { s.trib p with
        rx := .ais
        blocks := (s.trib p).blocks + 1
        aisRun := 0
        errorRun := 0
        alignNext := false
        onesRun := 0
        zerosRun := 0
        remoteAlarm := false
        aisEntries := bump (s.trib p).aisEntries
        txSource := sourceAfter (s.trib p) .ais } ∧
      Posts s (aisBlockComplete p block s) (alarmCleared s p ++ tribStateEvent s p .ais ::
        timingChange s (aisBlockComplete p block s) (.trib p)) := by
  have e : aisBlockComplete p block s = ((s.modTrib p fun x =>
      { x.enteringAis with blocks := x.blocks + 1 }).clearRemoteAlarm p).setRx p .ais := by
    rw [aisBlockComplete_testing h, if_pos z, if_pos run]
    simp only [State.enterAis, State.modTrib_modTrib]
    rfl
  have ne : (s.trib p).rx ≠ .ais := by rcases h with h | h | h <;> rw [h] <;> exact nofun
  rw [e]
  obtain ⟨change, own, posts⟩ := (LineStep.modTrib_clear s p
    (fun x => { x.enteringAis with blocks := x.blocks + 1 }) rfl).setRx
    (by rw [State.trib_clearRemoteAlarm, State.trib_modTrib_self]; rfl) ne
  refine ⟨change, ?_, posts⟩
  rw [own, State.trib_clearRemoteAlarm, State.trib_modTrib_self]
  rfl

/-- Alignment found (R7). -/
theorem alignmentFound_spec {s : State} {p : TribId} {window : BitVec 519} (h : (s.trib p).rx = .search)
    (pass : candidatePasses window = true) :
    LineChange s (alignmentFound p window s) p ∧
      (alignmentFound p window s).trib p =
        { s.trib p with rx := .aligned, errorRun := 0, alignNext := false } ∧
      Posts s (alignmentFound p window s) (tribStateEvent s p .aligned ::
        timingChange s (alignmentFound p window s) (.trib p)) := by
  have e : alignmentFound p window s =
      (s.modTrib p fun x => { x with errorRun := 0, alignNext := false }).setRx p .aligned := by
    simp [alignmentFound, h, pass]
  have ne : (s.trib p).rx ≠ .aligned := by rw [h]; exact nofun
  rw [e]
  obtain ⟨change, own, posts⟩ := (LineStep.modTrib s p fun x =>
    { x with errorRun := 0, alignNext := false }).setRx (by rw [State.trib_modTrib_self]) ne
  refine ⟨change, ?_, posts⟩
  rw [own, State.trib_modTrib_self]
  simp [sourceAfter, RxState.onLine]

/-- The third errored alignment word in a row (R8). -/
theorem alignmentLost_spec {s : State} {p : TribId} {bits : BitVec 7} (h : (s.trib p).rx = .aligned)
    (due : (s.trib p).alignNext = true) (bad : bits ≠ alignmentPattern) (third : 3 ≤ (s.trib p).errorRun + 1) :
    LineChange s (alignmentWord p bits s) p ∧
      (alignmentWord p bits s).trib p = { s.trib p with
        rx := .search
        errorRun := 0
        alignNext := false
        onesRun := 0
        zerosRun := 0
        remoteAlarm := false
        erroredWords := bump (s.trib p).erroredWords
        alignLosses := bump (s.trib p).alignLosses
        txSource := sourceAfter (s.trib p) .search } ∧
      Posts s (alignmentWord p bits s) (alarmCleared s p ++ tribStateEvent s p .search ::
        timingChange s (alignmentWord p bits s) (.trib p)) := by
  have e : alignmentWord p bits s = ((s.modTrib p fun x =>
      { x.losingAlignment with erroredWords := bump x.erroredWords }).clearRemoteAlarm p).setRx p
        .search := by
    simp only [alignmentWord, h, due, bad, third, decide_true, Bool.and_self, if_true, if_false,
      State.loseAlignment, State.modTrib_modTrib]
    rfl
  have ne : (s.trib p).rx ≠ .search := by rw [h]; exact nofun
  rw [e]
  obtain ⟨change, own, posts⟩ := (LineStep.modTrib_clear s p
    (fun x => { x.losingAlignment with erroredWords := bump x.erroredWords }) rfl).setRx
    (by rw [State.trib_clearRemoteAlarm, State.trib_modTrib_self]; rfl) ne
  refine ⟨change, ?_, posts⟩
  rw [own, State.trib_clearRemoteAlarm, State.trib_modTrib_self]
  rfl

/-- A word that is not due, or that comes outside ALIGNED, does nothing (R7, log entry 14). -/
theorem alignmentWord_idle {s : State} {p : TribId} (bits : BitVec 7)
    (h : (s.trib p).rx ≠ .aligned ∨ (s.trib p).alignNext = false) : alignmentWord p bits s = s := by
  rcases h with h | h <;> simp [alignmentWord, h]

/-- A sound alignment word, and an errored one before the third (R8). -/
theorem alignmentWord_stays {s : State} {p : TribId} {bits : BitVec 7} (h : (s.trib p).rx = .aligned)
    (due : (s.trib p).alignNext = true) (few : bits = alignmentPattern ∨ (s.trib p).errorRun + 1 < 3) :
    alignmentWord p bits s = s.modTrib p fun x =>
      if bits = alignmentPattern then { x with errorRun := 0, alignNext := false }
      else { x with errorRun := x.errorRun + 1, alignNext := false, erroredWords := bump x.erroredWords } := by
  by_cases e : bits = alignmentPattern
  · simp [alignmentWord, h, due, e]
  · have := few.resolve_left e
    simp only [alignmentWord, h, due, e, decide_true, Bool.and_self, if_true, if_false]
    exact if_neg (by omega)

theorem nonAlignmentWord_idle {s : State} {p : TribId} (bit3 : Bool)
    (h : (s.trib p).rx ≠ .aligned ∨ (s.trib p).alignNext = true) : nonAlignmentWord p bit3 s = s := by
  rcases h with h | h <;> simp [nonAlignmentWord, h]

/-- A due read of bit 3 (R10). -/
theorem nonAlignmentWord_due {s : State} {p : TribId} (bit3 : Bool) (h : (s.trib p).rx = .aligned)
    (due : (s.trib p).alignNext = false) :
    nonAlignmentWord p bit3 s =
      (s.modTrib p fun _ => { (s.trib p).readAlarm bit3 with alignNext := true }).postIf
        (((s.trib p).readAlarm bit3).remoteAlarm != (s.trib p).remoteAlarm) .tribRemoteAlarm (.trib p)
        ((s.trib p).readAlarm bit3).remoteAlarm.toNat := by
  simp [nonAlignmentWord, h, due]

/-! ## The obligations -/

/-- Settles O26. -/
theorem lossOfInputEntersNoSignal : Obligations.LossOfInputEntersNoSignal := by
  unfold Obligations.LossOfInputEntersNoSignal
  intro s p c hc
  have run : exec c s = .next (s.inputLost p) := by rcases hc with rfl | rfl <;> rfl
  rw [run]
  refine ⟨fun h => ?_, fun h => ⟨_, rfl, ?_⟩, fun h k => ⟨_, rfl, inputLost_spec h k⟩⟩
  · simp [State.inputLost, h]
  · have e : s.inputLost p = s.modTrib p fun x => { x with recovery := false } := by
      simp [State.inputLost, h]
    rw [e]
    exact only_trib s p _ rfl

/-- Settles O27. -/
theorem recoveryBlockDecidesTheNextState : Obligations.RecoveryBlockDecidesTheNextState := by
  unfold Obligations.RecoveryBlockDecidesTheNextState
  intro s p block
  refine ⟨fun h => ⟨?_, ?_⟩, fun h => ⟨⟨_, rfl, ?_⟩, ?_⟩⟩
  · simp [exec, execRecoveryBlockBegins, recoveryBlockBegins, h]
  · simp [exec, execRecoveryBlockComplete, recoveryBlockComplete, h]
  · have e : recoveryBlockBegins p s = s.modTrib p fun x => { x with recovery := true } := if_pos h
    rw [e]
    exact only_trib s p _ rfl
  · obtain ⟨change, own, posts⟩ := recoveryBlock_spec block h
    exact ⟨_, _, rfl, change, rfl, own, posts⟩

/-- Settles O28, by the receive state in which the block completes. -/
theorem twoAllOnesBlocksEnterAisAndZerosLeaveIt :
    Obligations.TwoAllOnesBlocksEnterAisAndZerosLeaveIt := by
  unfold Obligations.TwoAllOnesBlocksEnterAisAndZerosLeaveIt
  rintro s p block x rfl
  refine ⟨fun h => ?_, fun h z => ⟨_, rfl, ?_⟩, fun h z => ?_, fun h => ⟨fun z => ⟨_, rfl, ?_⟩,
    fun z run => ⟨_, rfl, ?_⟩, fun z run => ⟨_, rfl, enterAis_spec h z run⟩⟩⟩
  · rcases h with h | h <;> simp [exec, execAisBlockComplete, aisBlockComplete, h]
  · have e : aisBlockComplete p block s = s.modTrib p fun x => { x with blocks := x.blocks + 1 } := by
      simp [aisBlockComplete, h, meetsAis, z]
    rw [e]
    exact only_trib s p _ rfl
  · obtain ⟨change, own, posts⟩ := leaveAis_spec h z
    exact ⟨_, _, rfl, change, rfl, own, posts⟩
  · rw [aisBlockComplete_testing h, if_neg (by omega), State.modTrib_modTrib]
    exact only_trib s p _ rfl
  · rw [aisBlockComplete_testing h, if_pos z, if_neg (by omega), State.modTrib_modTrib]
    exact only_trib s p _ rfl

/-- Settles O29. -/
theorem alignmentIsFoundAndLostOnTheThirdError : Obligations.AlignmentIsFoundAndLostOnTheThirdError := by
  unfold Obligations.AlignmentIsFoundAndLostOnTheThirdError
  rintro s p window bits x rfl
  refine ⟨fun h h1 h2 h3 => ⟨_, rfl, alignmentFound_spec h ?_⟩, fun h => ?_, fun h => ?_,
    fun h due good => ⟨_, rfl, ?_⟩, fun h due bad few => ⟨_, rfl, ?_⟩,
    fun h due bad third => ⟨_, rfl, alignmentLost_spec h due bad third⟩⟩
  · simp [candidatePasses, h1, h2, h3, alignmentPattern]
  · have : ¬ ((s.trib p).rx = .search ∧ candidatePasses window = true) := by
      rintro ⟨h0, pass⟩
      simp only [candidatePasses, Bool.and_eq_true, beq_iff_eq] at pass
      obtain ⟨⟨h1, h2⟩, h3⟩ := pass
      rcases h with h | h | h | h
      · exact h h0
      · exact h h1
      · rw [h] at h2; exact nomatch h2
      · exact h h3
    have e : alignmentFound p window s = s := if_neg (by simpa using this)
    exact congrArg Host.Outcome.next e
  · exact congrArg Host.Outcome.next (alignmentWord_idle bits h)
  · rw [alignmentWord_stays h due (.inl good)]
    exact only_trib s p _ (if_pos good)
  · rw [alignmentWord_stays h due (.inr few)]
    exact only_trib s p _ (if_neg bad)

/-- Remote alarm in and its runs after a read of bit 3 (R10). -/
theorem Trib.readAlarm_eq (x : Trib) (bit3 : Bool) :
    x.readAlarm bit3 = { x with
      onesRun := if bit3 then x.onesRun + 1 else 0
      zerosRun := if bit3 then 0 else x.zerosRun + 1
      remoteAlarm := if bit3 = true ∧ 3 ≤ x.onesRun + 1 then true
        else if bit3 = false ∧ 3 ≤ x.zerosRun + 1 then false else x.remoteAlarm } := by
  cases bit3
  · by_cases h : 3 ≤ x.zerosRun + 1 <;> simp [Trib.readAlarm, h]
  · by_cases h : 3 ≤ x.onesRun + 1 <;> simp [Trib.readAlarm, h]

/-- Settles O30. -/
theorem remoteAlarmFollowsThreeReadsOfBit3 : Obligations.RemoteAlarmFollowsThreeReadsOfBit3 := by
  unfold Obligations.RemoteAlarmFollowsThreeReadsOfBit3
  rintro s p bit3 x rfl
  refine ⟨fun h => congrArg Host.Outcome.next (nonAlignmentWord_idle bit3 h), fun h due => ?_⟩
  obtain ⟨y, hy⟩ : ∃ y, y = (s.trib p).readAlarm bit3 := ⟨_, rfl⟩
  have e : nonAlignmentWord p bit3 s = (s.modTrib p fun _ => { y with alignNext := true }).postIf
      (y.remoteAlarm != (s.trib p).remoteAlarm) .tribRemoteAlarm (.trib p) y.remoteAlarm.toNat := by
    rw [nonAlignmentWord_due bit3 h due, hy]
  have own := (s.trib p).readAlarm_eq bit3
  refine ⟨_, y.remoteAlarm, rfl, ?_, ?_, ?_, ?_, ?_⟩
  · rw [e]
    unfold State.postIf
    split <;> rfl
  · intro q hq
    rw [e, State.trib_postIf, State.trib_modTrib_ne _ _ hq]
  · rw [hy, own]
  · rw [e, State.trib_postIf, State.trib_modTrib_self, hy, own]
  · rw [e]
    have posts := (LineStep.modTrib s p fun _ => { y with alignNext := true }).posts.trans
      (Posts.postIf _ (y.remoteAlarm != (s.trib p).remoteAlarm) .tribRemoteAlarm (.trib p)
        y.remoteAlarm.toNat)
    by_cases k : y.remoteAlarm = (s.trib p).remoteAlarm
    · simpa [k] using posts
    · rw [if_neg k]
      simp only [bne_iff_ne, ne_eq, k, not_false_eq_true, if_true, List.nil_append] at posts
      exact posts

end Sys2Proof.Machine
end

section
/-! The remaining calm commands: the timing unit, the control ports, the requests that move no line or record. -/

namespace Sys2Proof.Machine

open Safety

/-! ## The timing unit (chapter 8) -/

theorem Calm.setCandidate (s : State) (c : Candidate) (new : CandidateRecord)
    (h : (s.timing.candidate c).losses ≤ 4294967295 → new.losses ≤ 4294967295)
    (v : c = .station ∨ new.valid = (s.timing.candidate c).valid) : Calm s (s.setCandidate c new) := by
  have set : Calm s { s with timing := s.timing.setCandidate c new } := by
    refine .modTiming s _ (fun k => Timing.setCandidate_counted k c (h (k.2 c))) fun p => ?_
    rw [Timing.candidate_setCandidate]
    split
    · next e =>
      subst e
      exact v.resolve_left nofun
    · rfl
  unfold State.setCandidate
  simp only
  exact .ite set ((set.trans (.post ..)).trans (.evaluateTiming _))

theorem Calm.setStation (s : State) (v : Bool) : Calm s (s.setValidity .station v) := by
  unfold State.setValidity
  simp only
  exact .ite (.refl s) (.setCandidate s _ _ (CandidateRecord.takeValidity_kept ..).2.2.2 (.inl rfl))

theorem Calm.qualifyTimerExpiry (c : Candidate) (s : State) : Calm s (qualifyTimerExpiry c s) :=
  .ite (.setCandidate s c _ id (.inr rfl)) (.refl s)

theorem Calm.stationActivityLoss (s : State) : Calm s (stationActivityLoss s) :=
  (Calm.modTiming s { s.timing with stationGap := true } id fun _ => rfl).trans (.setStation ..)

/-- Stored measurements change frequencies alone (R151). -/
theorem Timing.storeMeasured_kept (station : Option Int) (lines : Vector Int 8) (x : Timing) (c : Candidate) :
    (x.Counted → (x.storeMeasured station lines c).Counted) ∧
      ∀ d, ((x.storeMeasured station lines c).candidate d).valid = (x.candidate d).valid := by
  unfold Timing.storeMeasured
  split
  · exact ⟨id, fun _ => rfl⟩
  · refine ⟨fun h => Timing.setCandidate_counted h c (h.2 c), fun d => ?_⟩
    rw [Timing.candidate_setCandidate]
    split
    · next e => subst e; rfl
    · rfl

theorem Timing.foldl_storeMeasured_kept (station : Option Int) (lines : Vector Int 8) (cs : List Candidate)
    (x : Timing) : (x.Counted → (cs.foldl (Timing.storeMeasured station lines) x).Counted) ∧
      ∀ d, ((cs.foldl (Timing.storeMeasured station lines) x).candidate d).valid = (x.candidate d).valid := by
  induction cs generalizing x with
  | nil => exact ⟨id, fun _ => rfl⟩
  | cons c cs ih =>
    obtain ⟨h1, h2⟩ := Timing.storeMeasured_kept station lines x c
    obtain ⟨k1, k2⟩ := ih (x.storeMeasured station lines c)
    exact ⟨k1 ∘ h1, fun d => (k2 d).trans (h2 d)⟩

/-- A candidate of the next window (R151). -/
theorem Timing.candidate_openWindow (x : Timing) (c : Candidate) :
    x.openWindow.candidate c = { x.candidate c with whole := (x.candidate c).valid } := by
  simp [Timing.candidate, Timing.openWindow]

theorem Calm.testStation (s : State) (m : Option Int) : Calm s (s.testStation m) := by
  unfold State.testStation
  split
  · exact .refl _
  · exact .setStation ..

theorem Calm.openWindow (s : State) : Calm s { s with timing := s.timing.openWindow } := by
  refine .modTiming s _ (fun h => ⟨h.1, fun c => ?_⟩) fun p => ?_
  · rw [Timing.candidate_openWindow]; exact h.2 c
  · rw [Timing.candidate_openWindow]

theorem Calm.holdover (s : State) (y : Timing) (h : Int) (counted : s.timing.Counted → y.Counted)
    (valid : ∀ d, (y.candidate d).valid = (s.timing.candidate d).valid) :
    Calm s { s with timing := { y with holdover := h } } :=
  .modTiming s _ counted fun _ => valid _

theorem Calm.measurementWindowEnd (station : Option Int) (lines : Vector Int 8) (s : State) :
    Calm s (measurementWindowEnd station lines s) := by
  obtain ⟨counted, valid⟩ := Timing.foldl_storeMeasured_kept station lines allCandidates s.timing
  exact .ite (((Calm.holdover s _ _ counted valid).trans (.testStation _ _)).trans (.openWindow _)) (.refl s)

theorem Steering.finish_counted {x : Steering} (kp ki : Nat) (h : x.Counted) : (x.finish kp ki).Counted := by
  unfold Steering.Counted Steering.finish
  simp only [Steering.Counted, counts_cons] at h ⊢
  refine ⟨bump_le_max_iff.2 h.1, h.2.1, ?_, h.2.2.2⟩
  split
  · exact bump_le_max_iff.2 h.2.2.1
  · exact h.2.2.1

/-- The end of a steering interval leaves the integrator and the offset within ±65536 (R161). -/
theorem Trib.keeps_finish (x : Trib) :
    Keeps TribBounded Trib.Counted x { x with steer := x.steer.finish x.cfg.kp x.cfg.ki } :=
  x.keeps_steer _ (fun _ => clampInt_mem (by decide) _) (fun _ => clampInt_mem (by decide) _)
    (Steering.finish_counted _ _) (fun _ => Nat.zero_le _)

theorem Calm.modTrib (s : State) (p : TribId) (f : Trib → Trib) (line : SameLine (s.trib p) (f (s.trib p)))
    (kept : Keeps TribBounded Trib.Counted (s.trib p) (f (s.trib p)))
    (samples : (f (s.trib p)).steer.samples ≤ (s.trib p).steer.samples) : Calm s (s.modTrib p f) := by
  refine .of_tribs rfl (fun q => ?_) (fun q => ?_) (fun q => ?_) <;> rw [State.trib_modTrib] <;> split
  · next e => subst e; exact line
  · exact .refl _
  · next e => subst e; exact kept
  · exact .refl _
  · next e => subst e; exact samples
  · exact Nat.le_refl _

theorem Calm.steeringIntervalEnd (p : TribId) (s : State) : Calm s (steeringIntervalEnd p s) := by
  refine .modTrib s p _ ?_ ?_ ?_ <;> split
  · exact ⟨rfl, rfl, rfl, rfl, rfl, rfl⟩
  · exact .refl _
  · exact Trib.keeps_finish _
  · exact .refl _
  · exact Nat.zero_le _
  · exact Nat.le_refl _

theorem Timing.candidate_configure (x : Timing) (raw : Vector RawPriority 9) (c : Candidate) :
    (x.configure raw).candidate c = { x.candidate c with
      priority := (raw[c.index].clamp).priority, qualify := (raw[c.index].clamp).qualify } := by
  simp [Timing.candidate, Timing.configure]

theorem Calm.configure (s : State) (raw : Vector RawPriority 9) (mode : TimingMode) :
    Calm s { s with timing := { s.timing.configure raw with mode := mode } } := by
  have same : ∀ c, ({ s.timing.configure raw with mode := mode } : Timing).candidate c =
      (s.timing.configure raw).candidate c := fun _ => rfl
  refine .modTiming s _ (fun h => ⟨h.1, fun c => ?_⟩) fun p => ?_
  · rw [same, Timing.candidate_configure]; exact h.2 c
  · rw [same, Timing.candidate_configure]

/-! ## The control ports (chapter 9) -/

theorem Calm.ofCtrl (s : State) (cp : CtrlPort) (f : Ctrl → Ctrl) (queue : ∀ c, (f c).queue = c.queue)
    (lost : ∀ c, (f c).lost = c.lost) (counted : ∀ c : Ctrl, c.Counted → (f c).Counted) :
    Calm s (s.modCtrl cp f) :=
  .modCtrl s cp f ⟨by rw [queue], by rw [lost]; exact id⟩
    ⟨fun h => by unfold QueueBounded; rw [queue]; exact h, counted _⟩

theorem Calm.handOver {s : State} (cp : CtrlPort) (i : Instr) {work : State → State}
    (h : Calm s (work s)) : Calm s (s.handOver cp i work) :=
  .ite (.ofCtrl s cp _ (fun _ => rfl) (fun _ => rfl) fun _ => id) h

/-- Receiving a frame leaves a port's event queue and counts within range (R165, R166). -/
theorem Ctrl.prepare_counted {c : Ctrl} (r : Response) (h : c.Counted) : (c.prepare r).Counted := h

theorem Ctrl.overrunBy_counted {c : Ctrl} (h : c.Counted) : c.overrunBy.Counted := by
  simpa [Ctrl.Counted, Ctrl.overrunBy] using h

theorem Ctrl.badFrame_spec (c : Ctrl) (kind : Nat) : (c.badFrame kind).queue = c.queue ∧
    (c.badFrame kind).lost = c.lost ∧ (c.Counted → (c.badFrame kind).Counted) := by
  unfold Ctrl.badFrame
  split
  · exact ⟨rfl, rfl, Ctrl.overrunBy_counted⟩
  · exact ⟨rfl, rfl, fun h => by simpa [Ctrl.Counted, Ctrl.prepare] using h⟩

theorem Ctrl.receive_spec (c : Ctrl) (cp : CtrlPort) (kind : Nat) (params : List Byte) :
    (c.receive cp kind params).queue = c.queue ∧ (c.receive cp kind params).lost = c.lost ∧
      (c.Counted → (c.receive cp kind params).Counted) := by
  unfold Ctrl.receive
  split
  · exact ⟨rfl, rfl, Ctrl.overrunBy_counted⟩
  · split
    · refine ⟨rfl, rfl, fun h => ?_⟩
      simp only [Ctrl.take, Ctrl.Counted, counts_cons] at h ⊢
      refine ⟨h.1, bump_le_max_iff.2 h.2.1, h.2.2.1, h.2.2.2.1, ?_, h.2.2.2.2.2⟩
      split
      · exact h.2.2.2.2.1
      · exact bump_le_max_iff.2 h.2.2.2.2.1
    · exact c.badFrame_spec kind

theorem Calm.restartIdle (s : State) (cp : CtrlPort) : Calm s (s.restartIdle cp) :=
  .ofCtrl s cp _ (fun _ => rfl) (fun _ => rfl) fun _ => id

theorem Calm.requestWrite (cp : CtrlPort) (bs : List Byte) (s : State) : Calm s (requestWrite cp bs s) := by
  have closed : Calm s (s.modCtrl cp fun c => { c with reading := none }) :=
    .ofCtrl s cp _ (fun _ => rfl) (fun _ => rfl) fun _ => id
  unfold Machine.requestWrite
  simp only
  split
  · next kind _ =>
    exact closed.trans (.ofCtrl _ cp _ (fun c => (c.badFrame_spec kind).1)
      (fun c => (c.badFrame_spec kind).2.1) fun c => (c.badFrame_spec kind).2.2)
  · next kind params _ =>
    exact (closed.trans (.restartIdle _ cp)).trans (.ofCtrl _ cp _ (fun c => (c.receive_spec cp kind params).1)
      (fun c => (c.receive_spec cp kind params).2.1) fun c => (c.receive_spec cp kind params).2.2)

theorem Calm.responseRead (cp : CtrlPort) (piece : ReadPiece) (s : State) :
    Calm s (responseRead cp piece s) := .ofCtrl s cp _ (fun _ => rfl) (fun _ => rfl) fun _ => id

theorem Calm.transferIgnored (cp : CtrlPort) (dir : Byte) (n : Nat) (s : State) :
    Calm s (transferIgnored cp dir n s) :=
  .ite (.refl s) (.ofCtrl s cp _ (fun _ => rfl) (fun _ => rfl) fun _ => id)

theorem Calm.responsePrepared (cp : CtrlPort) (s : State) : Calm s (responsePrepared cp s) := by
  unfold Machine.responsePrepared
  simp only
  split
  · exact .ite (.ofCtrl s cp _ (fun _ => rfl) (fun _ => rfl) fun _ => id) (.refl s)
  · exact .refl s

/-- New settings within their ranges. -/
theorem Calm.settings (s : State) (x : Settings) (h : s.settings.Ranged → x.Ranged) :
    Calm s { s with settings := x } :=
  ⟨⟨⟨rfl, fun _ => .refl _, fun _ => rfl⟩, { Kept.refl s with settings := h },
    ⟨fun _ => .refl _, fun _ => rfl⟩, rfl, fun _ => .refl _, fun _ => Nat.le_refl _⟩, fun _ => rfl⟩

theorem Calm.writeSettings (cp : CtrlPort) (raw : RawSettings) (s : State) :
    Calm s (writeSettings cp raw s) := by
  unfold Machine.writeSettings
  refine .ite (.refuse ..) (.ite (.refuse ..) ?_)
  split
  · exact .refuse ..
  · next v =>
    refine (Calm.settings s (writtenSettings raw) fun _ => ⟨by simpa [writtenSettings] using v, ?_⟩).trans (.decide ..)
    exact clampNat_mem (by decide) _

theorem Calm.clearFaults (cp : CtrlPort) (s : State) : Calm s (clearFaults cp s) := by
  have none : Calm s { s with faults := .none } :=
    ⟨⟨⟨rfl, fun _ => .refl _, fun _ => rfl⟩, { Kept.refl s with faults := fun _ => Nat.zero_le _ },
      ⟨fun _ => .refl _, fun _ => rfl⟩, rfl, fun _ => .refl _, fun _ => Nat.le_refl _⟩, fun _ => rfl⟩
  exact none.trans (.decide ..)

theorem Calm.saveImage (cp : CtrlPort) (s : State) : Calm s (saveImage cp s) := by
  unfold Machine.saveImage
  refine .ite (.refuse ..) (.ite (.refuse ..) (.trans ?_ (.decide ..)))
  exact .of_rest rfl rfl rfl rfl rfl rfl rfl rfl rfl

theorem Calm.failSave (s : State) (cause : ImageCause) : Calm s (s.failSave cause) := by
  have ended : Calm s (s.endSave .failed) := .of_rest rfl rfl rfl rfl rfl rfl rfl rfl rfl
  exact (ended.trans (.recordFault ..)).trans (.post ..)

theorem Calm.saveReadBack (bs : List Byte) (s : State) : Calm s (saveReadBack bs s) := by
  have ended : Calm s (s.endSave .done) := .of_rest rfl rfl rfl rfl rfl rfl rfl rfl rfl
  unfold Machine.saveReadBack
  split
  · exact .refl s
  · exact .ite (ended.trans (.post ..)) (.failSave ..)

theorem Calm.saveTimeout (s : State) : Calm s (saveTimeout s) := by
  unfold Machine.saveTimeout
  split
  · exact .refl s
  · exact .ite (.failSave ..) (.refl s)

/-- The load's outcome is in no range. -/
theorem Calm.load (s : State) (x : Load) : Calm s { s with load := x } :=
  .of_rest rfl rfl rfl rfl rfl rfl rfl rfl rfl

theorem Calm.memoryReadyTimeout (s : State) : Calm s (memoryReadyTimeout s) :=
  .ite ((Calm.load s .absentNoAnswer).trans (.post ..)) (.refl s)

/-! ## Requests that move no line and no record -/

theorem Calm.timingConfig (cp : CtrlPort) (raw : Vector RawPriority 9) (s : State) :
    Calm s (timingConfig cp raw s) := by
  unfold Machine.timingConfig
  exact .ite (.refuse ..) (.ite (.refuse ..)
    (((Calm.configure s raw s.timing.mode).trans (.evaluateTiming _)).trans (.decide ..)))

theorem Calm.timingCommand (cp : CtrlPort) (mode c : Nat) (s : State) :
    Calm s (timingCommand cp mode c s) := by
  unfold Machine.timingCommand
  refine .ite (.refuse ..) (.ite (.refuse ..) ?_)
  split
  · exact .refuse ..
  · next m _ =>
    exact ((Calm.modTiming s { s.timing with mode := m } id fun _ => rfl).trans
      (.evaluateTiming _)).trans (.decide ..)

theorem Calm.clearDelayExtremes (cp : CtrlPort) (b p : Nat) (s : State) :
    Calm s (clearDelayExtremes cp b p s) := by
  unfold Machine.clearDelayExtremes
  split
  · next b p _ _ =>
    refine .trans (.modDelay s b _ fun h => Delay.counted_setPath h p (fun k => ?_) _) (.decide ..)
    unfold DelayRecord.clearExtremes
    split
    · exact k
    · exact k
  · exact .refuse ..

theorem Calm.applyEqualisation (cp : CtrlPort) (b : Nat) (s : State) :
    Calm s (applyEqualisation cp b s) := by
  unfold Machine.applyEqualisation
  refine .ite (.refuse ..) ?_
  split
  · exact .refuse ..
  · split
    · exact .refuse ..
    · exact ((Calm.dropProposal ..).trans (.adoptPlaying ..)).trans (.decide ..)

theorem Calm.pathCommand (cp : CtrlPort) (b req q : Nat) (s : State) :
    Calm s (pathCommand cp b req q s) := by
  unfold Machine.pathCommand
  refine .ite (.refuse ..) ?_
  split
  · next b request _ _ =>
    have taken : Calm s (s.commandPath b request) :=
      (Calm.modSelector s b (fun x => { x with request := request })).trans (.evaluateSelector ..)
    exact .ite (.refuse ..) (.ite (.refuse ..) (taken.trans (.decide ..)))
  · exact .refuse ..

/-- A list edit that keeps the list's capacity and hit counts (R69, R72). -/
theorem Calm.editList (s : State) (cp : CtrlPort) (kind port : Nat)
    {edit : List ListEntry → Except Status (List ListEntry)}
    (h : ∀ xs ys, edit xs = .ok ys → (xs.length ≤ 48 → ys.length ≤ 48) ∧
      ((Counts (xs.map fun e => e.hits)) → Counts (ys.map fun e => e.hits))) :
    Calm s (s.editList cp kind port edit) := by
  unfold State.editList
  refine .ite (.refuse ..) ?_
  split
  · exact .refuse ..
  · next n _ =>
    refine .ite (.refuse ..) ?_
    split
    · exact .refuse ..
    · next xs e =>
      obtain ⟨len, hits⟩ := h _ _ e
      exact (Calm.modNet s n _ rfl ⟨fun k => ⟨len k.1, k.2⟩, fun k => ⟨hits k.1, k.2⟩⟩).trans (.decide ..)

/-- The hit counts of a list, member by member. -/
theorem counts_hits {xs : List ListEntry} :
    Counts (xs.map fun e => e.hits) ↔ ∀ e ∈ xs, e.hits ≤ 4294967295 := by simp [Counts]

theorem Calm.listInsert (cp : CtrlPort) (port pos : Nat) (raw : RawEntry) (s : State) :
    Calm s (listInsert cp port pos raw s) := by
  refine .editList s cp _ port fun xs ys h => ?_
  unfold insertEdit at h
  split at h
  · cases h
  · split at h
    · cases h
    · split at h
      · cases h
      · next full =>
        cases h
        simp only [Config.listEntries, Nat.not_le] at full
        refine ⟨fun _ => ?_, ?_⟩
        · simp only [List.length_append, List.length_take, List.length_cons, List.length_drop]; omega
        · simp only [counts_hits, List.mem_append, List.mem_cons]
          rintro k e (m | rfl | m)
          · exact k e (List.mem_of_mem_take m)
          · exact Nat.zero_le _
          · exact k e (List.mem_of_mem_drop m)

theorem Calm.listRemove (cp : CtrlPort) (port pos : Nat) (s : State) :
    Calm s (listRemove cp port pos s) := by
  refine .editList s cp _ port fun xs ys h => ?_
  unfold removeEdit at h
  split at h
  · cases h
  · cases h
    refine ⟨(List.length_eraseIdx_le ..).trans, ?_⟩
    simp only [counts_hits]
    exact fun k e m => k e (List.mem_of_mem_eraseIdx m)

theorem Calm.listReplace (cp : CtrlPort) (port pos : Nat) (raw : RawEntry) (s : State) :
    Calm s (listReplace cp port pos raw s) := by
  refine .editList s cp _ port fun xs ys h => ?_
  unfold replaceEdit at h
  split at h
  · cases h
  · split at h
    · cases h
    · cases h
      refine ⟨by simp, ?_⟩
      simp only [counts_hits]
      intro k e m
      rcases List.mem_or_eq_of_mem_set m with m | rfl
      · exact k e m
      · exact Nat.zero_le _

theorem Calm.captureArm (cp : CtrlPort) (slot : Nat) (s : State) : Calm s (captureArm cp slot s) := by
  unfold Machine.captureArm
  split
  · exact .refuse ..
  · refine .trans ?_ (.decide ..)
    exact .of_rest rfl rfl rfl rfl rfl rfl rfl rfl rfl

theorem Retold.handOver {s : State} (cp : CtrlPort) (i : Instr) {work : State → State}
    (h : Retold s (work s)) : Retold s (s.handOver cp i work) :=
  .ite (Calm.ofCtrl s cp (fun c => { c with abandoned := c.abandoned.erase i }) (fun _ => rfl) (fun _ => rfl)
    fun _ => id).retold h

theorem Retold.start (cp : CtrlPort) (b : Nat) (s : State) : Retold s (start cp b s) := by
  unfold Machine.start
  refine .ite (Calm.refuse ..).retold ?_
  split
  · exact (Calm.refuse ..).retold
  · split
    · exact (Calm.refuse ..).retold
    · exact .ite ((Retold.startBundle ..).andCalm (.decide ..)) (Calm.refuse ..).retold

theorem Retold.stop (cp : CtrlPort) (b : Nat) (s : State) : Retold s (stop cp b s) := by
  unfold Machine.stop
  refine .ite (Calm.refuse ..).retold ?_
  split
  · exact (Calm.refuse ..).retold
  · next b _ =>
    have stopped : Retold s (((((s.stopBlocks b).changeState b .stopped .stop).computeTarget b)).decide cp
        kindStop .ok []) :=
      (((Calm.stopBlocks s b).andThen (.changeState ..)).andCalm (.computeTarget ..)).andCalm (.decide ..)
    split
    · exact (Calm.refuse ..).retold
    · exact (Calm.decide ..).retold
    · exact stopped
    · exact stopped
    · exact stopped

end Sys2Proof.Machine
end

section
/-! The commands that change records and claims, and the frame start: what they keep (`Steady`, `Stated`). -/

namespace Sys2Proof.Machine

open Safety

/-- A step that moves no line and no link, and keeps every range. -/
structure Steady (s t : State) : Prop where
  hush : Hush s t
  kept : Kept s t
  lines : SameLines s t
  samples : ∀ p, (t.trib p).steer.samples ≤ (s.trib p).steer.samples

theorem Quiet.steady {s t : State} (h : Quiet s t) : Steady s t := ⟨h.hush, h.kept, h.lines, h.samples⟩

theorem Calm.steady {s t : State} (h : Calm s t) : Steady s t := h.quiet.steady

theorem Steady.refl (s : State) : Steady s s := (Quiet.refl s).steady

theorem Steady.trans {s t u : State} (h : Steady s t) (k : Steady t u) : Steady s u :=
  ⟨h.hush.trans k.hush, h.kept.trans k.kept, h.lines.trans k.lines, fun p => (k.samples p).trans (h.samples p)⟩

theorem Steady.ite {s t u : State} {c : Prop} [Decidable c] (h : Steady s t) (k : Steady s u) :
    Steady s (if c then t else u) := by split <;> assumption

theorem Steady.foldl {α : Type} {f : State → α → State} (h : ∀ s x, Steady s (f s x)) (xs : List α)
    (s : State) : Steady s (xs.foldl f s) := by
  induction xs generalizing s with
  | nil => exact .refl s
  | cons x xs ih => exact (h s x).trans (ih (f s x))

/-- A change of a bundle that keeps its ranges, whatever it makes of its records. -/
theorem Steady.modBun (s : State) (b : BundleId) (f : Bundle → Bundle)
    (k : Keeps Bundle.HeldBounded Bundle.Counted (s.bun b) (f (s.bun b))) : Steady s (s.modBun b f) where
  hush := ⟨rfl, fun _ => .refl _, fun _ => rfl⟩
  kept := .modBun s b f k
  lines := ⟨fun _ => .refl _, fun _ => rfl⟩
  samples _ := Nat.le_refl _

theorem Steady.setHolder (s : State) (sec : Machine.Section) (h : Option CtrlPort) :
    Steady s (s.setHolder sec h) where
  hush := ⟨rfl, fun _ => .refl _, fun _ => rfl⟩
  kept := .of_ctrls (fun _ => .refl _) rfl rfl rfl rfl rfl rfl
  lines := ⟨fun _ => .refl _, fun _ => rfl⟩
  samples _ := Nat.le_refl _

/-- A step that moves no line and no link, keeps every range, and posts every change of bundle state. -/
structure Stated (s t : State) : Prop where
  steady : Steady s t
  told : Told s t

theorem Retold.stated {s t : State} (h : Retold s t) : Stated s t := ⟨h.quiet.steady, h.told⟩

theorem Calm.stated {s t : State} (h : Calm s t) : Stated s t := h.retold.stated

theorem Stated.ite {s t u : State} {c : Prop} [Decidable c] (h : Stated s t) (k : Stated s u) :
    Stated s (if c then t else u) := by split <;> assumption

theorem Stated.andCalm {s t u : State} (h : Stated s t) (k : Calm t u) : Stated s u :=
  ⟨h.steady.trans k.steady, h.told.after k.quiet.hush.queues k.states⟩

/-- A steady step in which no bundle changes its state, before one that posts what changes. -/
theorem Steady.andThen {s t u : State} (h : Steady s t) (e : ∀ b, (t.bun b).state = (s.bun b).state)
    (k : Stated t u) : Stated s u := ⟨h.trans k.steady, k.told.before h.hush.now e⟩

theorem Stated.of_states {s t : State} (h : Steady s t) (e : ∀ b, (t.bun b).state = (s.bun b).state) :
    Stated s t := ⟨h, .of_states e⟩

/-! ## A record taking effect (R29) -/

/-- The table entry of bundle `b` once record `r` is its active record, its claim released (R29 steps 1 to
4). -/
def State.recorded (s : State) (b : BundleId) (r : Record) (size : Nat) : State :=
  (s.modBun b fun x =>
    { x with
      active := some r
      pending := r
      check := Config.checkWord r
      recordFault := false
      ringSize := size
      armed := none }).setHolder (.bundle b) none

theorem State.bun_recorded (s : State) (b c : BundleId) (r : Record) (size : Nat) :
    (s.recorded b r size).bun c = if c = b then
      { s.bun b with active := some r, pending := r, check := Config.checkWord r, recordFault := false,
                     ringSize := size, armed := none }
    else s.bun c := by
  unfold State.recorded
  rw [State.bun_setHolder, State.bun_modBun]

theorem State.state_recorded (s : State) (b c : BundleId) (r : Record) (size : Nat) :
    ((s.recorded b r size).bun c).state = (s.bun c).state := by
  rw [State.bun_recorded]; split
  · next e => subst e; rfl
  · rfl

theorem Steady.recorded (s : State) (b : BundleId) (r : Record) (size : Nat) :
    Steady s (s.recorded b r size) :=
  (Steady.modBun s b _ ⟨id, fun k => ⟨k.assembly, k.playout, k.delay, k.supervisor, k.delivery⟩⟩).trans
    (.setHolder ..)

/-- The blocks of a bundle follow its new record, whatever the class of change (R30 to R33). -/
theorem Retold.takeEffect (s : State) (b : BundleId) (r : Record) (size : Nat) :
    Retold (s.recorded b r size) (s.takeEffect b r size) := by
  have effect : Retold (s.recorded b r size) (match (s.bun b).changeClass r with
      | .new => (s.recorded b r size).effectNew b r size
      | .restart => (s.recorded b r size).effectRestart b r size
      | .rebuilt => (s.recorded b r size).effectRebuilt b r size
      | .inPlace => (s.recorded b r size).effectInPlace b ((s.bun b).active.getD r) r) := by
    split
    · exact .effectNew ..
    · exact .effectRestart ..
    · exact (Calm.effectRebuilt ..).retold
    · exact (Calm.effectInPlace ..).retold
  exact effect.andCalm (.post ..)

theorem Stated.takeEffect (s : State) (b : BundleId) (r : Record) (size : Nat) :
    Stated s (s.takeEffect b r size) :=
  (Steady.recorded s b r size).andThen (s.state_recorded b · r size) (Retold.takeEffect ..).stated

theorem Stated.activationTakesEffect (b : BundleId) (s : State) : Stated s (activationTakesEffect b s) := by
  unfold Machine.activationTakesEffect
  split
  · exact (Calm.refl s).stated
  · exact .takeEffect ..

theorem Steady.activateFor (p : TribId) (s : State) (b : BundleId) : Steady s (s.activateFor p b) :=
  .ite (Stated.activationTakesEffect b s).steady (.refl s)

/-! ## The frame start (R14) -/

theorem Calm.applyUpset (s : State) (u : Upset) : Calm s (s.applyUpset u) := by
  refine .modPlayout s _ _ fun h => ?_
  split
  · exact h
  · exact h

theorem Calm.latchTiming (s : State) (p : TribId) : Calm s (s.modTrib p Trib.latchTiming) := by
  have latch : ∀ x : Trib, SameLine x x.latchTiming ∧ x.latchTiming.steer = x.steer ∧
      Keeps TribBounded Trib.Counted x x.latchTiming := fun x => by
    unfold Trib.latchTiming
    split
    · exact ⟨⟨rfl, rfl, rfl, rfl, rfl, rfl⟩, rfl, id, id⟩
    · exact ⟨⟨rfl, rfl, rfl, rfl, rfl, rfl⟩, rfl, id, id⟩
    · exact ⟨⟨rfl, rfl, rfl, rfl, rfl, rfl⟩, rfl, id, id⟩
  obtain ⟨line, steer, keeps⟩ := latch (s.trib p)
  exact .modTrib s p _ line keeps (by rw [steer])

/-- A port that opens its frame has room for a sample (R161). -/
theorem steeringIntervalEnd_samples (p : TribId) (s : State) :
    ((steeringIntervalEnd p s).trib p).steer.samples < 8192 := by
  unfold steeringIntervalEnd
  rw [State.trib_modTrib_self]
  split
  · simp [Steering.finish]
  · next h => simpa [intervalSamples] using h

theorem State.openFrame_eq (s : State) (p : TribId) (upsets : List Upset) : s.openFrame p upsets =
    (allBundles.foldl (State.activateFor p)
      (steeringIntervalEnd p (upsets.foldl State.applyUpset s))).modTrib p Trib.latchTiming := rfl

theorem Steady.openFrame (s : State) (p : TribId) (upsets : List Upset) :
    Steady s (s.openFrame p upsets) ∧ ((s.openFrame p upsets).trib p).steer.samples < 8192 := by
  have upset : Steady s (upsets.foldl State.applyUpset s) := .foldl (fun s u => (Calm.applyUpset s u).steady) ..
  have rest (u : State) : Steady u ((allBundles.foldl (State.activateFor p) u).modTrib p Trib.latchTiming) :=
    (Steady.foldl (.activateFor p) allBundles u).trans (Calm.latchTiming ..).steady
  have ended := rest (steeringIntervalEnd p (upsets.foldl State.applyUpset s))
  rw [State.openFrame_eq]
  have room := (ended.samples p).trans_lt (steeringIntervalEnd_samples p (upsets.foldl State.applyUpset s))
  exact ⟨(upset.trans (Calm.steeringIntervalEnd ..).steady).trans ended, room⟩

theorem Calm.sampleOn (p : TribId) (s : State) (b : BundleId) : Calm s (s.sampleOn p b) := by
  unfold State.sampleOn
  simp only
  split
  · exact .refl s
  · exact .ite (.sampleFill ..) (.refl s)

theorem Quiet.playOn (p : TribId) (s : State) (b : BundleId) : Quiet s (s.playOn p b) := by
  unfold State.playOn
  split
  · exact .playBundle ..
  · exact .refl s

/-- A step that moves no line, no link, no record and no claim. -/
structure Still (s t : State) : Prop where
  hush : Hush s t
  kept : Kept s t
  lines : SameLines s t
  claims : t.claims = s.claims
  records : ∀ b, SameRecords (s.bun b) (t.bun b)

theorem Quiet.still {s t : State} (h : Quiet s t) : Still s t := ⟨h.hush, h.kept, h.lines, h.claims, h.records⟩

theorem Calm.still {s t : State} (h : Calm s t) : Still s t := h.quiet.still

theorem Still.trans {s t u : State} (h : Still s t) (k : Still t u) : Still s u :=
  ⟨h.hush.trans k.hush, h.kept.trans k.kept, h.lines.trans k.lines, k.claims.trans h.claims,
    fun b => (h.records b).trans (k.records b)⟩

/-- A sample that a steering interval has room for (R160, R161). -/
theorem Still.steerSample (s : State) (p : TribId) (h : (s.trib p).steer.samples < 8192) :
    Still s (s.steerSample p) := by
  unfold State.steerSample
  split
  · split
    · next b _ _ =>
      have keep : Keeps TribBounded Trib.Counted (s.trib p) { s.trib p with
          steer := (s.trib p).steer.take (s.bun b).playout.sample (s.bun b).delay.target } :=
        Trib.keeps_steer _ id id id fun _ => h
      exact {
        hush := ⟨rfl, fun _ => .refl _, fun _ => rfl⟩
        kept := .modTrib s p _ keep
        lines := ⟨fun q => by
          rw [State.trib_modTrib]; split
          · next e => subst e; exact ⟨rfl, rfl, rfl, rfl, rfl, rfl⟩
          · exact .refl _, fun _ => rfl⟩
        claims := rfl
        records := fun _ => .refl _ }
    · exact (Calm.refl s).still
  · exact (Calm.refl s).still

theorem Still.playPort (s : State) (p : TribId) (h : (s.trib p).steer.samples < 8192) :
    Still s (s.playPort p) := by
  have sampled : Calm s (allBundles.foldl (State.sampleOn p) s) := .foldl (.sampleOn p) ..
  have room := (sampled.quiet.samples p).trans_lt h
  exact (sampled.still.trans (.steerSample _ p room)).trans (Quiet.foldl (.playOn p) _ _).still

theorem Calm.sendFrame (s : State) (p : TribId) (frame : List Byte) (ones : Bool) :
    Calm s (s.modTrib p fun x => x.sendFrame frame ones) :=
  .modTrib s p _ ⟨rfl, rfl, rfl, rfl, rfl, rfl⟩ ⟨id, id⟩ (Nat.le_refl _)

/-- An enabled port's frame start opens its frame, and moves no record or claim after that (R14, R29). -/
theorem transmitFrameStart_split (p : TribId) (upsets : List Upset) (s : State) :
    transmitFrameStart p upsets s = s ∨
      Still (s.openFrame p upsets) (transmitFrameStart p upsets s) := by
  unfold transmitFrameStart
  split
  · exact .inl rfl
  · exact .inr ((Still.playPort _ p (Steady.openFrame s p upsets).2).trans (Calm.sendFrame ..).still)

/-! ## Claims and requests that change records (R20 to R28, R36 to R38, R171, R172) -/

theorem Bundle.returnPending_spec (x : Bundle) : x.returnPending.state = x.state ∧
    Keeps Bundle.HeldBounded Bundle.Counted x x.returnPending := by
  unfold Bundle.returnPending
  split
  · exact ⟨rfl, .refl x⟩
  · exact ⟨rfl, id, fun k => ⟨k.assembly, k.playout, k.delay, k.supervisor, k.delivery⟩⟩

/-- A step that only posts and moves claims and pending records: no bundle changes its state. -/
theorem Stated.modBun (s : State) (b : BundleId) (f : Bundle → Bundle)
    (e : (f (s.bun b)).state = (s.bun b).state)
    (k : Keeps Bundle.HeldBounded Bundle.Counted (s.bun b) (f (s.bun b))) : Stated s (s.modBun b f) :=
  .of_states (.modBun s b f k) fun c => by
    rw [State.bun_modBun]; split
    · next h => subst h; exact e
    · rfl

theorem Stated.setHolder (s : State) (sec : Machine.Section) (h : Option CtrlPort) :
    Stated s (s.setHolder sec h) := .of_states (.setHolder ..) fun _ => rfl

theorem Stated.release (s : State) (sec : Machine.Section) : Stated s (s.release sec) ∧
    ∀ b, ((s.release sec).bun b).state = (s.bun b).state := by
  unfold State.release
  simp only
  split
  · next b =>
    obtain ⟨e, k⟩ := Bundle.returnPending_spec (s.bun b)
    have states : ∀ c, (((s.setHolder (.bundle b) none).modBun b Bundle.returnPending).bun c).state =
        (s.bun c).state := fun c => by
      rw [State.bun_modBun]; split
      · next h => subst h; exact e
      · rfl
    exact ⟨.of_states ((Steady.setHolder ..).trans (.modBun _ b _ k)) states, states⟩
  · exact ⟨.setHolder .., fun _ => rfl⟩

theorem Stated.openEdit (cp : CtrlPort) (raw : RawSection) (s : State) : Stated s (openEdit cp raw s) := by
  unfold Machine.openEdit
  refine .ite (Calm.refuse ..).stated ?_
  split
  · exact (Calm.refuse ..).stated
  · exact .ite (Calm.refuse ..).stated ((Stated.setHolder ..).andCalm (.decide ..))

theorem Stated.closeEdit (cp : CtrlPort) (raw : RawSection) (s : State) : Stated s (closeEdit cp raw s) := by
  unfold Machine.closeEdit
  refine .ite (Calm.refuse ..).stated ?_
  split
  · exact (Calm.refuse ..).stated
  · exact .ite (Calm.refuse ..).stated (.ite (Calm.refuse ..).stated ((Stated.release ..).1.andCalm (.decide ..)))

theorem Stated.releases (secs : List Machine.Section) (s : State) : Stated s (secs.foldl State.release s) := by
  induction secs generalizing s with
  | nil => exact (Calm.refl s).stated
  | cons sec secs ih =>
    obtain ⟨h, e⟩ := Stated.release s sec
    exact h.steady.andThen e (ih _)

theorem Calm.stopIdle (s : State) (cp : CtrlPort) : Calm s (s.modCtrl cp fun c => { c with idleTimer := none }) :=
  .ofCtrl s cp _ (fun _ => rfl) (fun _ => rfl) fun _ => id

theorem Stated.idleTimerExpiry (cp : CtrlPort) (s : State) : Stated s (idleTimerExpiry cp s) := by
  refine .ite ?_ (Calm.refl s).stated
  exact ((Calm.stopIdle s cp).steady.andThen (fun _ => rfl) (.releases _ _)).andCalm (.postIf ..)

theorem Stated.writePending (cp : CtrlPort) (b : Nat) (raw : RawRecord) (s : State) :
    Stated s (writePending cp b raw s) := by
  unfold Machine.writePending
  refine .ite (Calm.refuse ..).stated ?_
  split
  · exact (Calm.refuse ..).stated
  · next b _ =>
    refine .ite (Calm.refuse ..).stated (.ite (Calm.refuse ..).stated ?_)
    split
    · exact (Calm.refuse ..).stated
    · exact (Stated.modBun s b _ rfl ⟨id, fun k =>
        ⟨k.assembly, k.playout, k.delay, k.supervisor, k.delivery⟩⟩).andCalm (.decide ..)

theorem Stated.activate (cp : CtrlPort) (b : Nat) (s : State) : Stated s (activate cp b s) := by
  unfold Machine.activate
  refine .ite (Calm.refuse ..).stated ?_
  split
  · exact (Calm.refuse ..).stated
  · next b _ =>
    refine .ite (Calm.refuse ..).stated (.ite (Calm.refuse ..).stated ?_)
    split
    · exact (Calm.refuse ..).stated
    · exact (Stated.modBun s b _ rfl ⟨id, fun k =>
        ⟨k.assembly, k.playout, k.delay, k.supervisor, k.delivery⟩⟩).andCalm (.decide ..)

/-- The table entry of a bundle that has been freed (R38). -/
theorem Bundle.freed_counted {d : Delivery} (h : d.Counted) : (Bundle.freed d).Counted :=
  ⟨by simp [Bundle.freed, Assembly.start, Assembly.Counted], Playout.fresh_counted 0,
    by simp [Bundle.freed, Delay.zero, Delay.Counted, DelayRecord.Counted, both, DelayRecord.zero],
    Supervisor.zero_counted _, h⟩

/-- A BUNDLE_STATE as it is posted, with the status of a refused load (R35, Table 73a). -/
theorem reported_postBundleState (s : State) (b : BundleId) (old new : BState) (cause : StateCause) (code : Nat) :
    Reported (s.postBundleState b old new cause code) (eventNow s .bundleState (.bundle b)
      (code * 16777216 + (cause.code * 65536 + old.code * 256 + new.code))) := by
  unfold State.postBundleState changeDetail
  exact reported_post s .bundleState (.bundle b) _

theorem State.bun_freeBundle (s : State) (b c : BundleId) :
    (s.freeBundle b).bun c = if c = b then .freed (s.bun b).delivery else s.bun c := by
  unfold State.freeBundle State.postBundleState
  simp only
  rw [State.bun_post, State.bun_setHolder, State.bun_modBun]

theorem Stated.freeBundle (s : State) (b : BundleId) : Stated s (s.freeBundle b) := by
  have freed : Steady s (s.modBun b fun x => .freed x.delivery) :=
    .modBun s b _ ⟨fun _ => Nat.zero_le _, fun k => Bundle.freed_counted k.delivery⟩
  have posted := reported_postBundleState ((s.modBun b fun x => .freed x.delivery).setHolder (.bundle b) none) b
    (s.bun b).state .free .freed 0
  have now : ((s.modBun b fun x => .freed x.delivery).setHolder (.bundle b) none).now = s.now := rfl
  rw [eventNow_of_now now, Nat.zero_mul, Nat.zero_add] at posted
  refine ⟨(freed.trans (.setHolder ..)).trans (Calm.post ..).steady, fun c ne => ?_⟩
  obtain rfl : c = b := by
    by_contra e
    exact ne (by rw [State.bun_freeBundle, if_neg e])
  refine ⟨.freed, ?_⟩
  rw [State.bun_freeBundle, if_pos rfl]
  exact posted

theorem Stated.free (cp : CtrlPort) (b : Nat) (s : State) : Stated s (free cp b s) := by
  unfold Machine.free
  refine .ite (Calm.refuse ..).stated ?_
  split
  · exact (Calm.refuse ..).stated
  · exact .ite (Calm.refuse ..).stated (.ite (Calm.refuse ..).stated (.ite (Calm.refuse ..).stated
      ((Stated.freeBundle ..).andCalm (.decide ..))))

theorem Stated.handOver {s : State} (cp : CtrlPort) (i : Instr) {work : State → State}
    (h : Stated s (work s)) : Stated s (s.handOver cp i work) :=
  .ite (Calm.ofCtrl s cp (fun c => { c with abandoned := c.abandoned.erase i }) (fun _ => rfl) (fun _ => rfl)
    fun _ => id).stated h

/-! ## The record patrol (R40) -/

theorem Steady.readRecord (s : State) (read : BundleId × Record) : Steady s (s.readRecord read) ∧
    ∀ b, ((s.readRecord read).bun b).state = (s.bun b).state := by
  have spec : ∀ x : Bundle, (if x.active.isSome && !x.recordFault then { x with active := some read.2 }
      else x).state = x.state ∧ Keeps Bundle.HeldBounded Bundle.Counted x
        (if x.active.isSome && !x.recordFault then { x with active := some read.2 } else x) := fun x => by
    split
    · exact ⟨rfl, id, fun k => ⟨k.assembly, k.playout, k.delay, k.supervisor, k.delivery⟩⟩
    · exact ⟨rfl, .refl x⟩
  refine ⟨.modBun s _ _ (spec _).2, fun b => ?_⟩
  unfold State.readRecord
  rw [State.bun_modBun]; split
  · next h => subst h; exact (spec _).1
  · rfl

theorem Steady.readRecords (reads : List (BundleId × Record)) (s : State) :
    Steady s (reads.foldl State.readRecord s) ∧
      ∀ b, ((reads.foldl State.readRecord s).bun b).state = (s.bun b).state := by
  induction reads generalizing s with
  | nil => exact ⟨.refl s, fun _ => rfl⟩
  | cons r rs ih =>
    obtain ⟨h, e⟩ := Steady.readRecord s r
    obtain ⟨k, f⟩ := ih (s.readRecord r)
    exact ⟨h.trans k, fun b => (f b).trans (e b)⟩

theorem Quiet.patrols (s : State) : Quiet s (allBundles.foldl State.patrol s) := .foldl .patrol ..

end Sys2Proof.Machine
end

section
/-! The full reset (R176): the values it leaves (O2), and that they meet every invariant (O3). -/

namespace Sys2Proof.Machine

open Safety

/-! ## The reset values, block by block -/

@[simp] theorem State.bun_reset (b : BundleId) : State.reset.bun b = .freed .zero := by
  simp [State.reset, State.bun]

@[simp] theorem State.trib_reset (p : TribId) : State.reset.trib p = .default := by
  simp [State.reset, State.trib]

@[simp] theorem State.net_reset (n : NetPort) : State.reset.net n = .default := by cases n <;> rfl

@[simp] theorem State.ctrl_reset (cp : CtrlPort) : State.reset.ctrl cp = .default := by cases cp <;> rfl

/-- No claim is held (R172). -/
@[simp] theorem Claims.holder_none (sec : Machine.Section) : Claims.none.holder sec = .none := by
  cases sec with
  | bundle b => simp [Claims.holder, Claims.none]
  | trib p => simp [Claims.holder, Claims.none]
  | list n => cases n <;> rfl
  | timing => rfl
  | settings => rfl

@[simp] theorem State.holder_reset (sec : Machine.Section) : State.reset.holder sec = none :=
  Claims.holder_none sec

@[simp] theorem Timing.candidate_default (c : Candidate) : Timing.default.candidate c = .default := by
  simp [Timing.default, Timing.candidate]

/-- The link indication input is the one thing a full reset leaves of a network port (R81, log entry 19). -/
theorem State.net_fullReset (s : State) (n : NetPort) : (fullReset s).net n = (s.net n).full := by
  cases n <;> rfl

/-- Settles O2. -/
theorem fullResetLeavesTheResetValues : Obligations.FullResetLeavesTheResetValues := by
  intro s
  refine ⟨fullReset s, rfl, rfl, rfl, State.bun_reset, State.trib_reset, fun n => ?_, fun c => ?_, rfl,
    State.ctrl_reset, State.holder_reset, rfl, rfl, rfl, rfl, rfl⟩
  · rw [State.net_fullReset]; rfl
  · simp [fullReset, State.reset]

/-! ## The reset values are within every range -/

theorem Ctrl.default_bounded : QueueBounded .default ∧ Ctrl.default.Counted := by
  simp [QueueBounded, Ctrl.default, Ctrl.Counted]

theorem Net.full_bounded (x : Net) : NetBounded x.full ∧ x.full.Counted := by
  simp [NetBounded, Net.full, Net.default, Net.queued, Net.Counted, RxCounters.Counted, TxCounters.Counted,
    RxCounters.zero, TxCounters.zero]

theorem Trib.default_bounded : TribBounded .default ∧ Trib.default.Counted := by
  simp [TribBounded, Trib.default, TribConfig.default, Steering.zero, Trib.Counted, Steering.Counted]

theorem Bundle.freed_bounded : (Bundle.freed .zero).HeldBounded ∧ (Bundle.freed .zero).Counted :=
  ⟨Nat.zero_le _, Bundle.freed_counted (by simp [Delivery.zero, Delivery.Counted])⟩

theorem Timing.default_counted : Timing.default.Counted :=
  ⟨Nat.zero_le _, fun c => by rw [Timing.candidate_default]; exact Nat.zero_le _⟩

theorem Settings.default_ranged : Settings.default.Ranged := by
  simp [Settings.Ranged, Settings.default, bundleTypeValid]

theorem Kept.fullReset (s : State) : Kept s (fullReset s) where
  ctrls cp := by
    rw [show (Machine.fullReset s).ctrl cp = .default from State.ctrl_reset cp]
    exact ⟨fun _ => Ctrl.default_bounded.1, fun _ => Ctrl.default_bounded.2⟩
  nets n := by
    rw [State.net_fullReset]
    exact ⟨fun _ => (Net.full_bounded _).1, fun _ => (Net.full_bounded _).2⟩
  tribs p := by
    rw [show (Machine.fullReset s).trib p = .default from State.trib_reset p]
    exact ⟨fun _ => Trib.default_bounded.1, fun _ => Trib.default_bounded.2⟩
  bundles b := by
    rw [show (Machine.fullReset s).bun b = .freed .zero from State.bun_reset b]
    exact ⟨fun _ => Bundle.freed_bounded.1, fun _ => Bundle.freed_bounded.2⟩
  timing _ := Timing.default_counted
  faults _ := Nat.zero_le _
  settings _ := Settings.default_ranged

/-! ## The reset state meets every invariant -/

theorem reset_bounded : Bounded State.reset where
  queues cp := by rw [State.ctrl_reset]; exact Ctrl.default_bounded.1
  nets n := by
    rw [State.net_reset]
    simp [NetBounded, Net.default, Net.queued]
  held b := by rw [State.bun_reset]; exact Nat.zero_le _
  tribs p := by rw [State.trib_reset]; exact Trib.default_bounded.1
  faults := Nat.zero_le _
  bundleType := Settings.default_ranged.1
  idleLimit := Settings.default_ranged.2

theorem reset_countersBounded : CountersBounded State.reset := by
  refine countersBounded_iff.2 ⟨fun cp => ?_, fun n => ?_, fun p => ?_, Timing.default_counted, fun b => ?_⟩
  · rw [State.ctrl_reset]; exact Ctrl.default_bounded.2
  · rw [State.net_reset]; simp [Net.default, Net.Counted, RxCounters.Counted, TxCounters.Counted,
      RxCounters.zero, TxCounters.zero]
  · rw [State.trib_reset]; exact Trib.default_bounded.2
  · rw [State.bun_reset]; exact Bundle.freed_bounded.2

theorem reset_tableSound : TableSound State.reset where
  active b := by rw [State.bun_reset]; simp [Bundle.freed]
  pool := by simp [State.poolSum, Bundle.poolCharge, Bundle.freed]

/-- No record is in force after a full reset (R42). -/
theorem not_inForce_reset (b : BundleId) (r : Record) : ¬ InForce State.reset b r := by
  simp [InForce, Bundle.freed, Bundle.armedRecord]

theorem RecordSound.default : RecordSound Record.default := by
  unfold RecordSound; decide

theorem reset_ringsSound : RingsSound State.reset where
  ring b i x h := by
    rw [State.bun_reset] at h
    simp [Bundle.freed, Playout.fresh] at h
  size b := by rw [State.bun_reset]; exact .inl rfl
  armed b n h := by
    rw [State.bun_reset] at h
    cases h

theorem reset_linesSound : LinesSound State.reset where
  legal p := by rw [State.trib_reset]; rfl
  alarm p _ := by rw [State.trib_reset]; exact ⟨rfl, rfl, rfl⟩
  turn p _ := by rw [State.trib_reset]; rfl
  valid p := by
    rw [State.trib_reset, show State.reset.timing = .default from rfl, Timing.candidate_default]; rfl

theorem reset_timingSound : TimingSound State.reset where
  lock _ h := nomatch h
  ever _ h := nomatch h
  unavailable c := by
    rw [show State.reset.timing = .default from rfl, Timing.candidate_default]
    simp [CandidateRecord.default]

theorem reset_linksSound : LinksSound State.reset := fun n => by
  rw [State.net_reset]
  exact ⟨fun _ => rfl, fun _ => rfl, nofun⟩

/-- Settles O3. -/
theorem resetMeetsEveryInvariant : Obligations.ResetMeetsEveryInvariant := by
  refine ⟨reset_bounded, reset_countersBounded, reset_tableSound, fun b _ q _ _ h => absurd h (not_inForce_reset b q),
    fun b r h => absurd h (not_inForce_reset b r), ⟨fun b => ?_, fun b r h => absurd h (not_inForce_reset b r),
      fun b r h => absurd h (not_inForce_reset b r)⟩, fun b _ => ?_, reset_ringsSound, reset_linesSound,
    reset_timingSound, reset_linksSound⟩
  · rw [State.bun_reset]; exact RecordSound.default
  · rw [State.bun_reset]; exact ⟨rfl, rfl⟩

end Sys2Proof.Machine
end

section
/-! The warm reset (R177), block by block, and O25. -/

namespace Sys2Proof.Machine

open Safety

/-! ## Targets of bundles just cleared (R124, R133) -/

/-- A bundle whose delay records are cleared and which waits for a packet, outside PLAYING. -/
structure Bundle.Cleared (x : Bundle) : Prop where
  state : x.state ≠ .playing
  record : x.delay.record = both .zero
  phase : x.playout.phase = .waitPacket

/-- A cleared bundle after a target computation: no raw depth is formed, and its target is the FIXED or the
initial depth (R121, R122, R125). -/
def Bundle.retargeted (x : Bundle) : Bundle :=
  match x.active with
  | none => x
  | some r =>
    { x with
      delay := { x.delay with
        short := false
        long := false
        rawDepth := 0
        target := if x.state = .free then x.delay.target
          else clampNat r.fpp (Machine.effectiveMax r x.ringSize)
            (if r.delayMode = .fixed then r.targetDepth else r.initialDepth) } }

theorem Bundle.Cleared.retargeted {x : Bundle} (h : x.Cleared) : x.retargeted.Cleared := by
  unfold Bundle.retargeted
  split
  · exact h
  · exact ⟨h.state, h.record, h.phase⟩

/-- Cleared records give no estimate, and so a computation forms no raw depth (R120, R122). -/
theorem Bundle.Cleared.computation {x : Bundle} (h : x.Cleared) (r : Record) : x.computation r =
    ⟨clampNat r.fpp (Machine.effectiveMax r x.ringSize)
      (if r.delayMode = .fixed then r.targetDepth else r.initialDepth),
      false, false, 0, false⟩ := by
  have none : x.delay.estimate r.pathMode x.supervisor.selector.active = .none := by
    unfold Delay.estimate Delay.estimatePath
    rw [h.record]
    have untracked : ∀ p : Path, ((both DelayRecord.zero).atPath p).tracking = false := fun p => by
      cases p <;> rfl
    cases r.pathMode with
    | single => rfl
    | selected => simp [untracked]
    | merged => rfl
  unfold Bundle.computation
  rw [none]
  unfold Machine.computation
  cases r.delayMode <;> rfl

theorem Bundle.retargeted_of_none {x : Bundle} (h : x.active = none) : x.retargeted = x := by
  unfold Bundle.retargeted; rw [h]

theorem Bundle.retargeted_of_some {x : Bundle} {r : Record} (h : x.active = some r) : x.retargeted =
    { x with
      delay := { x.delay with
        short := false
        long := false
        rawDepth := 0
        target := if x.state = .free then x.delay.target
          else clampNat r.fpp (Machine.effectiveMax r x.ringSize)
            (if r.delayMode = .fixed then r.targetDepth else r.initialDepth) } } := by
  unfold Bundle.retargeted; rw [h]

theorem State.computeTarget_of_none {s : State} {b : BundleId} (h : (s.bun b).active = none) :
    s.computeTarget b = s := by
  unfold State.computeTarget; simp only [h]

/-- The flags of a computation leave the bundle's other parts and every other bundle. -/
theorem State.setEqualiseFlags_spec (s : State) (b : BundleId) (x : Computation) :
    s.setEqualiseFlags b x = { s with
      bundles := (s.setEqualiseFlags b x).bundles, ctrls := (s.setEqualiseFlags b x).ctrls } ∧
    (∀ c, (s.setEqualiseFlags b x).bun c = if c = b then
      { s.bun b with
        delay := { (s.bun b).delay with
          short := x.short
          long := x.long
          rawDepth := x.raw } }
      else s.bun c) ∧
    ∃ es, Posts s (s.setEqualiseFlags b x) es := by
  unfold State.setEqualiseFlags
  simp only
  refine ⟨?_, fun c => ?_, _,
    fun cp => Posts.trans (Posts.postIf (s.modDelay b _) _ _ _ _) (Posts.postIf _ _ _ _ _) cp⟩
  · unfold State.postIf
    split <;> split <;> rfl
  · rw [State.bun_postIf, State.bun_postIf]
    exact State.bun_modBun ..

/-- A target computation of a cleared bundle changes that bundle and the control ports alone. -/
theorem State.computeTarget_cleared {s : State} {b : BundleId} (h : (s.bun b).Cleared) :
    s.computeTarget b = { s with
      bundles := (s.computeTarget b).bundles, ctrls := (s.computeTarget b).ctrls } ∧
    (∀ c, (s.computeTarget b).bun c = if c = b then (s.bun b).retargeted else s.bun c) ∧
    ∃ es, Posts s (s.computeTarget b) es := by
  cases e : (s.bun b).active with
  | none =>
    rw [State.computeTarget_of_none e]
    refine ⟨rfl, fun c => ?_, [], .refl s⟩
    split
    · next k => rw [k, Bundle.retargeted_of_none e]
    · rfl
  | some r =>
    obtain ⟨frame, flags, es, posts⟩ :=
      s.setEqualiseFlags_spec b ⟨clampNat r.fpp (Machine.effectiveMax r (s.bun b).ringSize)
      (if r.delayMode = .fixed then r.targetDepth else r.initialDepth), false, false, 0, false⟩
    have wait : ∀ v : State, v.endEstimateWait b false = v := fun v => if_neg (by simp)
    rw [Bundle.retargeted_of_some e]
    unfold State.computeTarget
    simp only [e]
    rw [h.computation r]
    simp only [wait]
    generalize s.setEqualiseFlags b _ = u at frame flags posts
    have set (target : Nat) : u.setTarget b target = { s with
          bundles := (u.setTarget b target).bundles, ctrls := (u.setTarget b target).ctrls } ∧
        (∀ c, (u.setTarget b target).bun c = if c = b then
          { s.bun b with
            delay := { (s.bun b).delay with
              short := false
              long := false
              rawDepth := 0
              target := target } }
          else s.bun c) ∧ ∃ es, Posts s (u.setTarget b target) es := by
      refine ⟨?_, fun c => ?_, es, posts⟩
      · conv_lhs => unfold State.setTarget State.modDelay State.modBun; rw [frame]
        rfl
      · refine (State.bun_modBun ..).trans ?_
        by_cases hc : c = b
        · rw [if_pos hc, if_pos hc, flags, if_pos rfl]
        · rw [if_neg hc, if_neg hc, flags, if_neg hc]
    cases k : (s.bun b).state with
    | playing => exact absurd k h.state
    | free => simpa [e, k] using And.intro frame (And.intro flags ⟨es, posts⟩)
    | stopped => simpa [e, k] using set _
    | filling => simpa [e, k] using set _
    | down => simpa [e, k] using set _

/-- The computations of several cleared bundles. -/
theorem State.computeTargets_cleared (bs : List BundleId) (nodup : bs.Nodup) {s : State}
    (h : ∀ b, (s.bun b).Cleared) :
    bs.foldl State.computeTarget s = { s with
      bundles := (bs.foldl State.computeTarget s).bundles, ctrls := (bs.foldl State.computeTarget s).ctrls } ∧
    (∀ c, (bs.foldl State.computeTarget s).bun c = if c ∈ bs then (s.bun c).retargeted else s.bun c) ∧
    ∃ es, Posts s (bs.foldl State.computeTarget s) es := by
  induction bs generalizing s with
  | nil => exact ⟨rfl, fun _ => rfl, [], .refl s⟩
  | cons b bs ih =>
    obtain ⟨fresh, nodup⟩ := List.nodup_cons.1 nodup
    obtain ⟨frame, own, es, posts⟩ := State.computeTarget_cleared (h b)
    have cleared : ∀ c, ((s.computeTarget b).bun c).Cleared := fun c => by
      rw [own]; split
      · exact (h b).retargeted
      · exact h c
    obtain ⟨frames, each, fs, more⟩ := ih nodup cleared
    rw [List.foldl_cons]
    refine ⟨by rw [frames]; rw [frame], fun c => ?_, _, Posts.trans posts more⟩
    rw [each, own]
    by_cases e : c = b
    · subst e; simp [fresh]
    · simp [e]

/-! ## The blocks after a warm reset -/

theorem Bundle.warm_cleared (x : Bundle) (timer : Record → Timer) : (x.warm timer).Cleared := by
  unfold Bundle.warm
  split
  · exact ⟨nofun, rfl, rfl⟩
  · refine ⟨?_, rfl, rfl⟩
    cases x.state <;> simp [BState.running]

theorem Trib.warm_eq (x : Trib) : x.warm = { x with
    rx := restartState x.cfg.kind
    recovery := false
    blocks := 0
    aisRun := 0
    errorRun := 0
    alignNext := false
    onesRun := 0
    zerosRun := 0
    remoteAlarm := false
    signalLosses := 0
    aisEntries := 0
    alignLosses := 0
    erroredWords := 0
    odd := false
    txSource := sourceAfter x (restartState x.cfg.kind)
    steer := x.steer.warm } := by
  have source : (x.abandonLine.fallBackLoop (restartState x.cfg.kind)).txSource =
      sourceAfter x (restartState x.cfg.kind) :=
    congrArg Trib.txSource (Trib.fallBackLoop_eq x.abandonLine (restartState x.cfg.kind))
  have rest : x.abandonLine.fallBackLoop (restartState x.cfg.kind) = { x.abandonLine with
      txSource := (x.abandonLine.fallBackLoop (restartState x.cfg.kind)).txSource } := by
    unfold Trib.fallBackLoop; split <;> rfl
  unfold Trib.warm
  rw [rest, source]
  rfl

/-- The candidates of the lines `ps` lost (R164). -/
def Timing.linesLost (ps : List TribId) (x : Timing) : Timing :=
  ps.foldl (fun (x : Timing) p => x.setCandidate (.trib p) (x.candidate (.trib p)).lineLost) x

theorem Timing.linesLost_spec (ps : List TribId) (x : Timing) :
    x.linesLost ps = { x with candidates := (x.linesLost ps).candidates } ∧
    ∀ c, (x.linesLost ps).candidate c =
      if ∃ p ∈ ps, c = .trib p then (x.candidate c).lineLost else x.candidate c := by
  induction ps generalizing x with
  | nil => exact ⟨rfl, fun c => by simp [Timing.linesLost]⟩
  | cons p ps ih =>
    obtain ⟨rest, each⟩ := ih (x.setCandidate (.trib p) (x.candidate (.trib p)).lineLost)
    have e : x.linesLost (p :: ps) =
      (x.setCandidate (.trib p) (x.candidate (.trib p)).lineLost).linesLost ps := rfl
    rw [e]
    refine ⟨rest, fun c => ?_⟩
    rw [each, Timing.candidate_setCandidate]
    by_cases k : c = .trib p
    · subst k
      split <;> simp [CandidateRecord.lineLost]
    · simp [k]

theorem SameTiming.best {x y : Timing} (h : SameTiming x y) : y.best = x.best := by
  have better : y.better = x.better := by
    funext a c; simp only [Timing.better, h.candidate]
  simp only [Timing.best, better]

theorem Timing.fallback_ne_locked (x : Timing) (c : Candidate) : x.fallback ≠ .locked c := by
  unfold Timing.fallback; split <;> nofun

/-- What the selector decides depends on its mode and candidates, and where it locks to none on whether it has
been locked (R153). -/
theorem SameTiming.decided {x y : Timing} (h : SameTiming x y)
    (back : y.fallback = x.fallback ∨ ∃ c, x.decided = .locked c) : y.decided = x.decided := by
  unfold Timing.decided at back ⊢
  rw [h.mode, h.best]
  cases e : x.mode with
  | free => rfl
  | forced c =>
    simp only [h.candidate, e] at back ⊢
    split
    · rfl
    · next k =>
      rw [if_neg k] at back
      exact back.resolve_right fun ⟨d, hd⟩ => x.fallback_ne_locked d hd
  | auto =>
    simp only [e] at back ⊢
    cases k : x.best with
    | some c => rfl
    | none =>
      simp only [k] at back ⊢
      exact back.resolve_right fun ⟨d, hd⟩ => x.fallback_ne_locked d hd

/-- The selector decides the same state again once it has entered it (R153). -/
theorem Timing.decided_enter (x : Timing) : (x.enter x.decided).decided = x.decided := by
  refine (x.enter_same x.decided).decided ?_
  cases e : x.decided with
  | locked c => exact .inr ⟨c, rfl⟩
  | freeRun => exact .inl rfl
  | holdover => exact .inl rfl

/-- The selector evaluated without an event (R164). -/
def Timing.evaluated (x : Timing) : Timing := if x.decided = x.state then x else x.enter x.decided

theorem Timing.evaluated_spec (x : Timing) : SameTiming x x.evaluated ∧ x.evaluated.state = x.evaluated.decided ∧
    (x.everLocked = true → x.evaluated.everLocked = true) ∧
    ((∀ c, x.evaluated.state ≠ .locked c) → x.evaluated.everLocked = x.everLocked) := by
  unfold Timing.evaluated
  split
  · next h => exact ⟨⟨rfl, rfl, rfl, rfl⟩, h.symm, id, fun _ => rfl⟩
  · refine ⟨x.enter_same _, x.decided_enter.symm, fun h => ?_, fun h => ?_⟩
    · unfold Timing.enter
      cases x.decided with
      | locked c => rfl
      | freeRun => exact h
      | holdover => exact h
    · unfold Timing.enter at h ⊢
      cases e : x.decided with
      | locked c => exact absurd e (h c)
      | freeRun => rfl
      | holdover => rfl

theorem Timing.warm_eq (x : Timing) : x.warm = { Timing.evaluated { x.linesLost allTribs with
    candidates := (x.linesLost allTribs).candidates.map CandidateRecord.warm } with holdoverEntries := 0 } := rfl

/-- A candidate after a warm reset (R164). -/
theorem Timing.candidate_warm (x : Timing) (c : Candidate) :
    x.warm.candidate c = ((x.linesLost allTribs).candidate c).warm := by
  obtain ⟨same, -⟩ := Timing.evaluated_spec { x.linesLost allTribs with
    candidates := (x.linesLost allTribs).candidates.map CandidateRecord.warm }
  rw [Timing.warm_eq]
  refine (same.candidate c).trans ?_
  simp [Timing.candidate]

theorem Timing.candidate_warm_line (x : Timing) (p : TribId) : x.warm.candidate (.trib p) =
    { x.candidate (.trib p) with
      valid := false, whole := false, state := .unavailable, timer := none, losses := 0 } := by
  rw [Timing.candidate_warm, (x.linesLost_spec allTribs).2, if_pos ⟨p, by simp [allTribs], rfl⟩]
  rfl

theorem Timing.candidate_warm_station (x : Timing) : x.warm.candidate .station = (x.candidate .station).warm := by
  rw [Timing.candidate_warm, (x.linesLost_spec allTribs).2, if_neg (by simp)]

/-- The selector after a warm reset: its configuration and register as they were, the state decided (R164). -/
theorem Timing.warm_spec (x : Timing) : x.warm.mode = x.mode ∧ x.warm.holdover = x.holdover ∧
    x.warm.windowEnd = x.windowEnd ∧ x.warm.state = x.warm.decided ∧
    (x.everLocked = true → x.warm.everLocked = true) ∧
    ((∀ c, x.warm.state ≠ .locked c) → x.warm.everLocked = x.everLocked) := by
  obtain ⟨same, decided, ever, stays⟩ := Timing.evaluated_spec { x.linesLost allTribs with
    candidates := (x.linesLost allTribs).candidates.map CandidateRecord.warm }
  have rest := (x.linesLost_spec allTribs).1
  have mode : (x.linesLost allTribs).mode = x.mode := by rw [rest]
  have holdover : (x.linesLost allTribs).holdover = x.holdover := by rw [rest]
  have window : (x.linesLost allTribs).windowEnd = x.windowEnd := by rw [rest]
  have locked : (x.linesLost allTribs).everLocked = x.everLocked := by rw [rest]
  rw [Timing.warm_eq]
  exact ⟨same.mode.trans mode, same.holdover.trans holdover, same.window.trans window, decided,
    fun k => ever (locked.trans k), fun k => (stays k).trans locked⟩

theorem CandidateRecord.warm_losses (x : CandidateRecord) : x.warm.losses = 0 := by
  unfold CandidateRecord.warm; split <;> rfl

theorem Timing.warm_counted (x : Timing) : x.warm.Counted :=
  ⟨Nat.zero_le _, fun c => by rw [Timing.candidate_warm, CandidateRecord.warm_losses]; exact Nat.zero_le _⟩

/-! ## The state after a warm reset -/

/-- The lines, the network ports, the timing unit and the bundles reset, the targets not yet computed
(R177). -/
def State.warmStarted (s : State) : State :=
  State.warmBundles { s with
    tribs := s.tribs.map Trib.warm
    timing := s.timing.warm
    nets := s.nets.map (Net.warm (timer := s.qualifyTimer))
    captures := Vector.replicate 4 ⟨.empty, false⟩ }

theorem State.bun_warmStarted (s : State) (b : BundleId) :
    s.warmStarted.bun b = (s.bun b).warm fun r => s.afterMs r.lossTime := by
  simp [State.warmStarted, State.warmBundles, State.bun, State.afterMs, State.afterTicks]

/-- The targets computed change no more than the bundles and the control ports. -/
theorem State.warmBlocks_spec (s : State) :
    s.warmBlocks = { s.warmStarted with bundles := s.warmBlocks.bundles, ctrls := s.warmBlocks.ctrls } ∧
    (∀ b, s.warmBlocks.bun b = ((s.bun b).warm fun r => s.afterMs r.lossTime).retargeted) ∧
    ∃ es, Posts s s.warmBlocks es := by
  have cleared : ∀ b, (s.warmStarted.bun b).Cleared := fun b => by
    rw [State.bun_warmStarted]; exact Bundle.warm_cleared ..
  obtain ⟨frame, each, es, posts⟩ := State.computeTargets_cleared allBundles (List.nodup_finRange 64) cleared
  refine ⟨frame, fun b => ?_, es, posts⟩
  refine (each b).trans ?_
  rw [if_pos (by simp [allBundles]), State.bun_warmStarted]

/-- A control port after a warm reset, before its response is prepared (R177). -/
theorem State.ctrl_warmControl (s : State) (cp dp : CtrlPort) : (s.warmControl cp).ctrl dp =
    (if dp = cp then s.ctrl dp else (s.ctrl dp).abandonRequest).warm := by
  have h : (s.warmControl cp).ctrl dp = ((s.modCtrl cp.other Ctrl.abandonRequest).ctrl dp).warm := by
    cases dp <;> rfl
  rw [h, State.ctrl_modCtrl]
  cases cp <;> cases dp <;> rfl

/-- Taking events changes a port's queue and its losses alone (R173). -/
theorem Ctrl.foldl_offer_frame (es : List Event) (c : Ctrl) : ∃ queue lost count, es.foldl Ctrl.offer c =
    { c with queue := queue, lost := lost, lostCount := count } := by
  induction es generalizing c with
  | nil => exact ⟨_, _, _, rfl⟩
  | cons e es ih =>
    obtain ⟨queue, lost, count, h⟩ := ih (c.offer e)
    exact ⟨queue, lost, count, by rw [List.foldl_cons, h, Ctrl.offer_frame]⟩

/-- A control port once a warm reset has posted its end (R177). -/
theorem State.ctrl_warmed (s : State) (cp dp : CtrlPort) :
    ((s.warmBlocks.warmControl cp).post .warmResetDone (.ctrl cp) 0).ctrl dp =
      { (if dp = cp then s.ctrl dp else (s.ctrl dp).abandonRequest).warm with
        queue := [eventNow s .warmResetDone (.ctrl cp) 0] } := by
  obtain ⟨frame, -, es, posts⟩ := s.warmBlocks_spec
  generalize s.warmBlocks = u at frame posts ⊢
  have now : (u.warmControl cp).eventTime = s.eventTime := by
    have kept : (u.warmControl cp).eventTime = u.eventTime := rfl
    rw [kept, frame]; rfl
  obtain ⟨queue, lost, count, h⟩ := Ctrl.foldl_offer_frame es (s.ctrl dp)
  rw [State.ctrl_post, State.ctrl_warmControl, posts dp, h, now]
  split <;> rfl

theorem warmReset_eq {s : State} (h : s.load ≠ .loading) (cp : CtrlPort) : warmReset cp s =
    ((s.warmBlocks.warmControl cp).post .warmResetDone (.ctrl cp) 0).modCtrl cp fun c =>
      c.prepare ⟨kindWarmReset, .ok, []⟩ := if_neg (by simpa [State.loading] using h)

/-- What a warm reset leaves of each block, the control ports apart (R177). -/
theorem warmReset_spec {s : State} (h : s.load ≠ .loading) (cp : CtrlPort) :
    warmReset cp s = { s.warmStarted with
      bundles := (warmReset cp s).bundles, ctrls := (warmReset cp s).ctrls, claims := .none } ∧
    ∀ b, (warmReset cp s).bun b = ((s.bun b).warm fun r => s.afterMs r.lossTime).retargeted := by
  obtain ⟨frame, each, -⟩ := s.warmBlocks_spec
  rw [warmReset_eq h]
  generalize s.warmBlocks = u at frame each ⊢
  refine ⟨?_, fun b => ?_⟩
  · have kept (v : State) : ((v.warmControl cp).post .warmResetDone (.ctrl cp) 0).modCtrl cp (fun c =>
          c.prepare ⟨kindWarmReset, .ok, []⟩) = { v with
        ctrls := (((v.warmControl cp).post .warmResetDone (.ctrl cp) 0).modCtrl cp fun c =>
          c.prepare ⟨kindWarmReset, .ok, []⟩).ctrls
        claims := .none } := rfl
    rw [kept]
    generalize (State.modCtrl _ _ _).ctrls = k
    rw [frame]
  · rw [State.bun_modCtrl, State.bun_post]
    exact each b

/-- A cleared bundle's targets leave its delay unit cleared (R119). -/
theorem Bundle.retargeted_delay (x : Bundle) : x.retargeted.delay.echo = x.delay.echo ∧
    x.retargeted.delay.record = x.delay.record ∧ x.retargeted.delay.proposed = x.delay.proposed ∧
    x.retargeted.delay.alertTimer = x.delay.alertTimer := by
  unfold Bundle.retargeted
  split
  · exact ⟨rfl, rfl, rfl, rfl⟩
  · exact ⟨rfl, rfl, rfl, rfl⟩

theorem Bundle.warm_of_some {x : Bundle} {r : Record} (h : x.active = some r) (timer : Record → Timer) :
    x.warm timer = { x with
      armed := none
      pending := r
      state := if x.state.running then .filling else x.state
      assembly := if x.state.running then .start else { Assembly.start with seq := x.assembly.seq }
      playout := .fresh x.playout.ring.length
      delay := x.delay.clear true
      supervisor := if x.state.running then .started r (timer r) else .restart r
      delivery := .zero } := by
  unfold Bundle.warm; rw [h]

theorem Bundle.warm_of_none {x : Bundle} (h : x.active = none) (timer : Record → Timer) :
    (x.warm timer).retargeted = .freed .zero := by
  have e : x.warm timer = .freed .zero := by unfold Bundle.warm; rw [h]
  rw [e, Bundle.retargeted_of_none rfl]

theorem warmReset_bundle {s : State} (h : s.load ≠ .loading) (cp : CtrlPort) {b : BundleId} {r : Record}
    (e : (s.bun b).active = some r) : ∃ d : Delay, (warmReset cp s).bun b = { s.bun b with
      pending := r
      armed := none
      state := if (s.bun b).state.running then .filling else (s.bun b).state
      assembly := if (s.bun b).state.running then Assembly.start
        else { Assembly.start with seq := (s.bun b).assembly.seq }
      playout := Playout.fresh (s.bun b).playout.ring.length
      delay := d
      supervisor := if (s.bun b).state.running then .started r (s.afterMs r.lossTime) else .restart r
      delivery := ⟨0, 0, 0, 0⟩ } ∧ DelayCleared d ∧ d.record = both DelayRecord.zero ∧
    ((s.bun b).state ≠ .free → d.short = false ∧ d.long = false ∧ d.rawDepth = 0 ∧
      d.target = clampNat r.fpp (Machine.effectiveMax r (s.bun b).ringSize)
        (if r.delayMode = .fixed then r.targetDepth else r.initialDepth)) := by
  have own := (warmReset_spec h cp).2 b
  obtain ⟨echo, record, proposed, alert⟩ :=
    ((s.bun b).warm fun r => s.afterMs r.lossTime).retargeted_delay
  rw [Bundle.retargeted_of_some (x := (s.bun b).warm _) (r := r)
    (by rw [Bundle.warm_of_some e]; exact e)] at own echo record proposed alert
  rw [Bundle.warm_of_some e] at own echo record proposed alert
  refine ⟨_, own, ⟨fun p => ?_, fun p => ?_, proposed, alert⟩, record, fun k => ⟨rfl, rfl, rfl, ?_⟩⟩
  · rw [echo]; cases p <;> rfl
  · rw [record]; cases p <;> rfl
  · refine if_neg ?_
    cases e : (s.bun b).state <;> simp_all [BState.running]

/-- Every request is handed over to its block (R165). -/
theorem exec_request {i : Instr} {cp : CtrlPort} {kind : Nat} {ps : List Byte}
    (h : requestBytes i = some (cp, kind, ps)) :
    ∃ work, ∀ s, exec i s = .next (s.handOver cp i work) := by
  cases i <;> cases h <;> exact ⟨_, fun _ => rfl⟩

/-- Settles O25. -/
theorem warmResetKeepsConfigurationAndClearsTheRest :
    Obligations.WarmResetKeepsConfigurationAndClearsTheRest := by
  refine ⟨fun s cp h carried => ?_, Ctrl.handed_eq_some_iff, fun s i cp kind ps e m n => ?_⟩
  · refine ⟨warmReset cp s, congrArg Host.Outcome.next (State.handOver_of_carried _ carried), ?_⟩
    obtain ⟨frame, each⟩ := warmReset_spec h cp
    have timing : (warmReset cp s).timing = s.timing.warm := by rw [frame]; rfl
    have tribs : ∀ p, (warmReset cp s).trib p = (s.trib p).warm := fun p => by
      rw [frame]; simp [State.trib, State.warmStarted, State.warmBundles]
    obtain ⟨mode, holdover, window, decided, ever, stays⟩ := s.timing.warm_spec
    have other : cp.other ≠ cp := by cases cp <;> simp [CtrlPort.other]
    rw [timing]
    refine ⟨by rw [frame]; rfl, fun c => by rw [frame]; exact Claims.holder_none c, fun b e => ?_, ?_, ?_, ?_, ?_,
      s.timing.candidate_warm_line, ?_, mode, holdover, rfl, decided, ever, stays, window, ?_, ?_, ?_⟩
    · rw [each, Bundle.warm_of_none e]; rfl
    · rintro b r x timer rfl e rfl
      obtain ⟨d, own, cleared, record, target⟩ := warmReset_bundle h cp e
      rw [own]
      refine ⟨rfl, cleared, record, fun k => ?_⟩
      obtain ⟨short, long, raw, depth⟩ := target k
      refine ⟨short, long, raw, depth.trans ?_⟩
      rfl
    · rintro p x new rfl rfl
      rw [tribs, Trib.warm_eq]
      cases (s.trib p).cfg.kind <;> rfl
    · intro n
      rw [frame]; cases n <;> rfl
    · intro c; rw [frame]; simp [State.warmStarted, State.warmBundles]
    · rintro x rfl
      rw [Timing.candidate_warm_station]; rfl
    · rw [warmReset_eq h, State.ctrl_modCtrl_self, State.ctrl_warmed, if_pos rfl]; rfl
    · rw [warmReset_eq h, State.ctrl_modCtrl_ne _ _ other, State.ctrl_warmed, if_neg other]; rfl
    · rw [warmReset_eq h, State.ctrl_modCtrl_ne _ _ other, State.ctrl_warmed, if_neg other]; rfl
  · obtain ⟨work, hw⟩ := exec_request e
    rw [hw, State.handOver_of_mem work m n]

end Sys2Proof.Machine
end

section
/-! What the line events, the links, the configuration of a port, the resets and the image load keep of the ranges. -/

namespace Sys2Proof.Machine

open Safety

theorem Kept.ite {s t u : State} {c : Prop} [Decidable c] (h : Kept s t) (k : Kept s u) :
    Kept s (if c then t else u) := by split <;> assumption

theorem Kept.foldl {α : Type} {f : State → α → State} (h : ∀ s x, Kept s (f s x)) (xs : List α)
    (s : State) : Kept s (xs.foldl f s) := by
  induction xs generalizing s with
  | nil => exact .refl s
  | cons x xs ih => exact (h s x).trans (ih (f s x))

/-! ## Lines (R4 to R10) -/

/-- A port's line in another state: its configuration and its steering are as they were. -/
theorem Trib.keeps_line {x y : Trib} (cfg : y.cfg = x.cfg) (steer : y.steer = x.steer)
    (h : Counts [x.signalLosses, x.aisEntries, x.alignLosses, x.erroredWords] →
      Counts [y.signalLosses, y.aisEntries, y.alignLosses, y.erroredWords]) :
    Keeps TribBounded Trib.Counted x y := by
  refine ⟨?_, ?_⟩
  · unfold TribBounded; rw [cfg, steer]; exact id
  · unfold Trib.Counted; rw [steer]; exact fun k => ⟨h k.1, k.2⟩

theorem Kept.clearRemoteAlarm (s : State) (p : TribId) : Kept s (s.clearRemoteAlarm p) :=
  (Kept.modTrib s p _ (Trib.keeps_line rfl rfl id)).trans (Calm.postIf ..).quiet.kept

theorem Kept.setRx (s : State) (p : TribId) (new : RxState) : Kept s (s.setRx p new) := by
  by_cases h : (s.trib p).rx = new
  · rw [State.setRx_of_eq h]; exact .refl s
  · rw [State.setRx_of_ne h]
    refine ((Kept.modTrib s p _ ?_).trans (.post ..)).trans (.setValidity ..)
    rw [Trib.fallBackLoop_eq]
    exact Trib.keeps_line rfl rfl id

/-- The shape of a line event: the port's own change, remote alarm in cleared, the new receive state. -/
theorem Kept.restart {s u : State} (h : Kept s u) (p : TribId) (new : RxState) :
    Kept s ((u.clearRemoteAlarm p).setRx p new) := (h.trans (.clearRemoteAlarm ..)).trans (.setRx ..)

theorem Kept.inputLost (s : State) (p : TribId) : Kept s (s.inputLost p) := by
  have lost : Kept s (s.modTrib p fun x => { x.abandonLine with signalLosses := bump x.signalLosses }) :=
    .modTrib s p _ (Trib.keeps_line rfl rfl (by simp [Trib.abandonLine]))
  unfold State.inputLost
  split
  · exact .refl s
  · exact .modTrib s p _ (Trib.keeps_line rfl rfl id)
  · exact lost.restart p _

theorem Kept.recoveryBlockBegins (p : TribId) (s : State) : Kept s (recoveryBlockBegins p s) :=
  .ite (.modTrib s p _ (Trib.keeps_line rfl rfl id)) (.refl s)

theorem Kept.recoveryBlockComplete (p : TribId) (block : BitVec 512) (s : State) :
    Kept s (recoveryBlockComplete p block s) :=
  .ite ((Kept.modTrib s p _ (Trib.keeps_line rfl rfl id)).trans (.setRx ..)) (.refl s)

theorem Kept.enterAis (s : State) (p : TribId) : Kept s (s.enterAis p) :=
  (Kept.modTrib s p _ (Trib.keeps_line rfl rfl (by simp))).restart p _

theorem Kept.aisBlockComplete (p : TribId) (block : BitVec 512) (s : State) :
    Kept s (aisBlockComplete p block s) := by
  have counted : Kept s (s.modTrib p fun x => { x with blocks := x.blocks + 1 }) :=
    .modTrib s p _ (Trib.keeps_line rfl rfl id)
  have run : ∀ u n, Kept u (u.modTrib p fun x => { x with aisRun := n }) := fun u n =>
    .modTrib u p _ (Trib.keeps_line rfl rfl id)
  have tested := Kept.ite (c := meetsAis block = true)
    (.ite (c := 1 ≤ (s.trib p).aisRun) (counted.trans (.enterAis _ p)) (counted.trans (run _ 1)))
    (counted.trans (run _ 0))
  unfold Machine.aisBlockComplete
  simp only
  split
  · exact .refl s
  · exact .refl s
  · exact .ite counted (counted.trans (.setRx ..))
  · exact tested
  · exact tested
  · exact tested

theorem Kept.alignmentFound (p : TribId) (window : BitVec 519) (s : State) :
    Kept s (alignmentFound p window s) :=
  .ite ((Kept.modTrib s p _ (Trib.keeps_line rfl rfl id)).trans (.setRx ..)) (.refl s)

theorem Kept.alignmentWord (p : TribId) (bits : BitVec 7) (s : State) : Kept s (alignmentWord p bits s) := by
  have errored : Kept s (s.modTrib p fun x =>
      { x with errorRun := x.errorRun + 1, alignNext := false, erroredWords := bump x.erroredWords }) :=
    .modTrib s p _ (Trib.keeps_line rfl rfl (by simp))
  refine .ite (.ite (.modTrib s p _ (Trib.keeps_line rfl rfl id)) (.ite ?_ errored)) (.refl s)
  exact (errored.trans (.modTrib _ p _ (Trib.keeps_line rfl rfl (by simp)))).restart p _

theorem Trib.keeps_readAlarm (x : Trib) (bit3 : Bool) :
    Keeps TribBounded Trib.Counted x { x.readAlarm bit3 with alignNext := true } := by
  unfold Trib.readAlarm
  split
  · exact Trib.keeps_line rfl rfl id
  · exact Trib.keeps_line rfl rfl id

theorem Kept.nonAlignmentWord (p : TribId) (bit3 : Bool) (s : State) : Kept s (nonAlignmentWord p bit3 s) :=
  .ite ((Kept.modTrib s p _ (Trib.keeps_readAlarm ..)).trans (Calm.postIf ..).quiet.kept) (.refl s)

/-! ## The configuration of a port (R1 to R3) -/

/-- A configuration as taken has its shifts in their ranges (R1 step 6). -/
theorem RawTribConfig.typed_shifts {raw : RawTribConfig} {clock : TxClock} {cfg : TribConfig}
    (h : raw.typed clock = some cfg) : 6 ≤ cfg.kp ∧ cfg.kp ≤ 18 ∧ 8 ≤ cfg.ki ∧ cfg.ki ≤ 20 := by
  simp only [RawTribConfig.typed, Option.bind_eq_bind, Option.bind_eq_some_iff, Option.pure_def,
    Option.some.injEq] at h
  obtain ⟨kind, -, alert, -, rfl⟩ := h
  obtain ⟨h1, h2⟩ := clampNat_mem (lo := 6) (hi := 18) (by decide) raw.kp
  obtain ⟨h3, h4⟩ := clampNat_mem (lo := 8) (hi := 20) (by decide) raw.ki
  exact ⟨h1, h2, h3, h4⟩

theorem Kept.changeKind (s : State) (p : TribId) (kind : TribKind) : Kept s (s.changeKind p kind) :=
  (Kept.modTrib s p _ (Trib.keeps_line rfl rfl id)).restart p _

/-- A port configured, its line not yet restarted (R1, R162). -/
def Trib.configured (x : Trib) (cfg : TribConfig) : Trib :=
  { x with cfg := cfg, steer := if x.cfg.clock = cfg.clock then x.steer else x.steer.abandon }

theorem State.applyTrib_eq (s : State) (p : TribId) (cfg : TribConfig) : s.applyTrib p cfg =
    if (s.trib p).cfg.kind = cfg.kind then s.modTrib p fun x => x.configured cfg
    else (s.modTrib p fun x => x.configured cfg).changeKind p cfg.kind := by
  have e : s.modTrib p (fun x => { x with
      cfg := cfg, steer := if (s.trib p).cfg.clock = cfg.clock then x.steer else x.steer.abandon }) =
      s.modTrib p fun x => x.configured cfg := rfl
  unfold State.applyTrib
  simp only [e]

theorem Trib.keeps_configured (x : Trib) {cfg : TribConfig}
    (h : 6 ≤ cfg.kp ∧ cfg.kp ≤ 18 ∧ 8 ≤ cfg.ki ∧ cfg.ki ≤ 20) :
    Keeps TribBounded Trib.Counted x (x.configured cfg) := by
  have steer : Keeps TribBounded Trib.Counted x { x with
      steer := if x.cfg.clock = cfg.clock then x.steer else x.steer.abandon } := by
    split
    · exact .refl x
    · exact x.keeps_abandon
  refine ⟨fun k => ?_, steer.2⟩
  obtain ⟨i1, i2, o1, o2, -⟩ := steer.1 k
  exact ⟨i1, i2, o1, o2, h⟩

theorem Kept.applyTrib (s : State) (p : TribId) {cfg : TribConfig}
    (h : 6 ≤ cfg.kp ∧ cfg.kp ≤ 18 ∧ 8 ≤ cfg.ki ∧ cfg.ki ≤ 20) : Kept s (s.applyTrib p cfg) := by
  have set : Kept s (s.modTrib p fun x => x.configured cfg) := .modTrib s p _ (Trib.keeps_configured _ h)
  rw [State.applyTrib_eq]
  exact .ite set (set.trans (.changeKind ..))

/-- What a TRIB_CONFIG asks for is a configuration as typed, its clock accepted (R1 step 4, R3). -/
theorem State.tribRequest_eq_some {s : State} {p : TribId} {raw : RawTribConfig} {cfg : TribConfig} :
    s.tribRequest p raw = some cfg ↔ ∃ clock, raw.txClock = some clock ∧ raw.typed clock = some cfg ∧
      s.clockAccepted p cfg.kind clock = true := by
  simp only [State.tribRequest, Option.bind_eq_bind, Option.bind_eq_some_iff, Option.ite_none_right_eq_some,
    Option.pure_def, Option.some.injEq]
  constructor
  · rintro ⟨clock, h, c, k, a, rfl⟩
    exact ⟨clock, h, k, a⟩
  · rintro ⟨clock, h, k, a⟩
    exact ⟨clock, h, cfg, k, a, rfl⟩

theorem Kept.tribConfig (cp : CtrlPort) (port : Nat) (raw : RawTribConfig) (s : State) :
    Kept s (tribConfig cp port raw s) := by
  have refused : ∀ status, Kept s (s.refuse cp kindTribConfig status) := fun _ => (Calm.refuse ..).quiet.kept
  unfold Machine.tribConfig
  refine .ite (refused _) ?_
  split
  · exact refused _
  · next p _ =>
    refine .ite (refused _) ?_
    split
    · exact refused _
    · next cfg e =>
      obtain ⟨clock, -, typed, -⟩ := State.tribRequest_eq_some.1 e
      exact .ite (refused _) ((Kept.applyTrib s p (RawTribConfig.typed_shifts typed)).trans
        (Calm.decide ..).quiet.kept)

/-! ## Links (R54, R63) -/

theorem Assembly.losePort_spec (x : Assembly) (n : NetPort) :
    (x.losePort n).held.length ≤ x.held.length ∧ (x.Counted → (x.losePort n).Counted) :=
  ⟨by unfold Assembly.losePort; exact List.length_filterMap_le .., id⟩

/-- A transmit queue flushed is empty, and the frame in transmission aborted (R54). -/
theorem Net.keeps_cutOff (x : Net) : Keeps NetBounded Net.Counted x x.abort.flush := by
  have abort : Keeps NetBounded Net.Counted x x.abort := by
    unfold Net.abort
    split
    · exact ⟨id, fun h => ⟨h.1, h.2.1, by simpa [TxCounters.Counted] using h.2.2⟩⟩
    · exact .refl x
    · exact .refl x
  exact abort.trans ⟨fun h => ⟨h.1, Nat.zero_le _⟩, fun h =>
    ⟨h.1, h.2.1, by simpa [TxCounters.Counted, Net.flush] using h.2.2⟩⟩

theorem Net.up_cutOff (x : Net) : x.abort.flush.up = x.up := by
  unfold Net.abort; split <;> rfl

/-- Every bundle changed alike. -/
theorem Calm.mapBundles (s : State) (f : Bundle → Bundle) (records : ∀ x, SameRecords x (f x))
    (states : ∀ x, (f x).state = x.state) (h : ∀ x, Keeps Bundle.HeldBounded Bundle.Counted x (f x)) :
    Calm s { s with bundles := s.bundles.map f } := by
  have e : ∀ b, ({ s with bundles := s.bundles.map f } : State).bun b = f (s.bun b) := fun b => by
    simp [State.bun]
  exact {
    quiet := {
      hush := ⟨rfl, fun _ => .refl _, fun _ => rfl⟩
      kept := { Kept.refl s with bundles := fun b => by rw [e]; exact h _ }
      lines := ⟨fun _ => .refl _, fun _ => rfl⟩
      claims := rfl
      records := fun b => by rw [e]; exact records _
      samples := fun _ => Nat.le_refl _ }
    states := fun b => by rw [e]; exact states _ }

theorem Calm.cutOff (s : State) (n : NetPort) : Calm s (s.cutOff n) :=
  (Calm.modNet s n (fun x => x.abort.flush) (Net.up_cutOff _) (Net.keeps_cutOff _)).trans
    (.mapBundles _ (Bundle.losePort (n := n)) (fun _ => ⟨rfl, rfl, rfl⟩) (fun _ => rfl) fun x =>
      ⟨fun h => (x.assembly.losePort_spec n).1.trans h, fun k =>
        ⟨k.assembly, k.playout, k.delay, k.supervisor, k.delivery⟩⟩)

/-- A network port whose link changes alone. -/
theorem Net.keeps_link {x y : Net} (list : y.list = x.list) (queued : y.queued = x.queued) (rx : y.rx = x.rx)
    (tx : y.tx = x.tx) : Keeps NetBounded Net.Counted x y := by
  refine ⟨?_, ?_⟩
  · unfold NetBounded; rw [list, queued]; exact id
  · unfold Net.Counted; rw [list, rx, tx]; exact id

theorem Kept.loseLink (s : State) (n : NetPort) (back : Bool) : Kept s (s.loseLink n back) := by
  have down : Kept s (s.modNet n fun x =>
      { x with up := false, indication := back, qualification := if back then s.qualifyTimer else none }) :=
    .modNet s n _ (Net.keeps_link rfl rfl rfl rfl)
  exact .ite (down.trans ((Calm.cutOff ..).trans (.post ..)).quiet.kept) down

/-- A frame cut off in reception is counted (R64). -/
theorem Calm.countCut (s : State) (n : NetPort) :
    Calm s (s.modRx n fun c => { c with whileDown := bump c.whileDown }) :=
  .modRx s n _ fun _ h => by simpa [RxCounters.Counted] using h

theorem Kept.linkIndicationLost (n : NetPort) (cut back : Bool) (s : State) :
    Kept s (linkIndicationLost n cut back s) := by
  refine .ite ?_ (.refl s)
  split
  · exact (Calm.countCut s n).quiet.kept.trans (.loseLink ..)
  · exact .loseLink ..

theorem Kept.linkQualificationExpiry (n : NetPort) (s : State) : Kept s (linkQualificationExpiry n s) :=
  .ite ((Kept.modNet s n _ (Net.keeps_link rfl rfl rfl rfl)).trans (.post ..)) (.refl s)

/-! ## Events (R173) -/

theorem Ctrl.keeps_drain (c : Ctrl) (cp : CtrlPort) (time : Nat) :
    Keeps QueueBounded Ctrl.Counted c (c.drain cp time) := by
  have room : QueueBounded c → (c.queue.drop eventsPerRead).length + 1 ≤ 32 := fun h => by
    unfold QueueBounded at h
    simp only [List.length_drop, eventsPerRead]; omega
  unfold Ctrl.drain
  simp only
  split
  · refine ⟨fun h => ?_, fun h => ?_⟩
    · unfold QueueBounded; simpa using room h
    · exact counts_cons.2 ⟨Nat.zero_le _, (counts_cons.1 h).2⟩
  · exact ⟨fun h => Nat.le_of_succ_le (room h), id⟩

theorem Kept.readEvents (cp : CtrlPort) (s : State) : Kept s (readEvents cp s) :=
  (Kept.modCtrl s cp _ (Ctrl.keeps_drain ..)).trans (Calm.decide ..).quiet.kept

/-! ## The warm reset (R177) -/

theorem Ctrl.warm_bounded (c : Ctrl) : QueueBounded c.warm ∧ c.warm.Counted :=
  ⟨Nat.zero_le _, by simp [Ctrl.warm, Ctrl.default, Ctrl.Counted]⟩

theorem Net.keeps_warm (x : Net) (timer : Timer) : Keeps NetBounded Net.Counted x (x.warm timer) := by
  refine ⟨fun h => ⟨by simpa [Net.warm] using h.1, Nat.zero_le _⟩, fun _ => ⟨?_, ?_, ?_⟩⟩
  · simp [Net.warm, Counts]
  · simp [Net.warm, RxCounters.Counted, RxCounters.zero]
  · simp [Net.warm, TxCounters.Counted, TxCounters.zero]

theorem Trib.keeps_warm (x : Trib) : Keeps TribBounded Trib.Counted x x.warm := by
  rw [Trib.warm_eq]
  exact ⟨id, fun _ => ⟨by simp, by simp [Steering.Counted, Steering.warm], Nat.zero_le _⟩⟩

theorem Bundle.keeps_warm (x : Bundle) (timer : Record → Timer) :
    Keeps Bundle.HeldBounded Bundle.Counted x (x.warm timer) := by
  unfold Bundle.warm
  split
  · exact ⟨fun _ => Bundle.freed_bounded.1, fun _ => Bundle.freed_bounded.2⟩
  · refine ⟨fun _ => ?_, fun k => ⟨?_, Playout.fresh_counted _, Delay.clear_counted k.delay true, ?_, ?_⟩⟩
    · unfold Bundle.HeldBounded; split <;> exact Nat.zero_le _
    · simp only; split <;> simp [Assembly.start, Assembly.Counted]
    · simp only; split
      · exact Supervisor.started_counted ..
      · exact Supervisor.zero_counted _
    · simp [Delivery.zero, Delivery.Counted]

theorem Kept.warmStarted (s : State) : Kept s s.warmStarted where
  ctrls _ := .refl _
  nets n := by
    rw [show s.warmStarted.net n = (s.net n).warm s.qualifyTimer by cases n <;> rfl]
    exact Net.keeps_warm ..
  tribs p := by
    rw [show s.warmStarted.trib p = (s.trib p).warm by simp [State.trib, State.warmStarted, State.warmBundles]]
    exact Trib.keeps_warm _
  bundles b := by rw [State.bun_warmStarted]; exact Bundle.keeps_warm ..
  timing _ := Timing.warm_counted _
  faults := id
  settings := id

theorem Kept.warmControl (s : State) (cp : CtrlPort) : Kept s (s.warmControl cp) :=
  .of_ctrls (fun dp => by
    rw [State.ctrl_warmControl]
    exact ⟨fun _ => (Ctrl.warm_bounded _).1, fun _ => (Ctrl.warm_bounded _).2⟩) rfl rfl rfl rfl rfl rfl

theorem Kept.warmReset (cp : CtrlPort) (s : State) : Kept s (warmReset cp s) := by
  have blocks : Kept s s.warmBlocks :=
    (Kept.warmStarted s).trans (.foldl (fun s b => (Calm.computeTarget s b).quiet.kept) ..)
  refine .ite (Calm.refuse ..).quiet.kept ?_
  exact ((blocks.trans (.warmControl ..)).trans (.post ..)).trans
    (.modCtrl _ cp _ ⟨id, Ctrl.prepare_counted _⟩)

/-! ## The image load (R176) -/

theorem Kept.loadSettings (s : State) (x : RawSettings) : Kept s (s.loadSettings x) := by
  refine (Calm.settings s _ fun h => ⟨?_, clampNat_mem (by decide) _⟩).quiet.kept
  split
  · assumption
  · exact h.1

theorem Kept.loadTrib (s : State) (x : Nat × RawTribConfig) : Kept s (s.loadTrib x) := by
  unfold State.loadTrib
  split
  · next typed => exact .ite (.refl s) (.applyTrib s _ (RawTribConfig.typed_shifts typed))
  · exact .refl s

theorem Calm.loadTiming (s : State) (x : Vector RawPriority 9) (mode c : Nat) :
    Calm s (s.loadTiming x mode c) := (Calm.configure s x _).trans (.evaluateTiming _)

theorem installed_spec (xs : List RawEntry) :
    (installed xs).length ≤ 48 ∧ Counts ((installed xs).map fun e => e.hits) := by
  refine ⟨?_, fun n h => ?_⟩
  · simp [installed, Config.listEntries]
  · obtain ⟨e, he, rfl⟩ := List.mem_map.1 h
    obtain ⟨y, -, rfl⟩ := List.mem_map.1 he
    exact Nat.zero_le _

theorem Calm.install (s : State) (n : NetPort) (xs : List RawEntry) :
    Calm s (s.modNet n fun x => { x with list := installed xs }) := by
  obtain ⟨len, hits⟩ := installed_spec xs
  exact .modNet s n _ rfl ⟨fun h => ⟨len, h.2⟩, fun h => ⟨hits, h.2⟩⟩

theorem Calm.loadLists (s : State) (east west : List RawEntry) : Calm s (s.loadLists east west) :=
  (Calm.install ..).trans (.install ..)

theorem Stated.loadRecord (s : State) (b : BundleId) (raw : RawRecord) : Stated s (s.loadRecord b raw).1 := by
  have refused : ∀ status, Stated s (s.loadRefused b status) := fun _ => (Calm.post ..).stated
  unfold State.loadRecord
  split
  · exact refused _
  · split
    · exact refused _
    · split
      · exact refused _
      · exact .takeEffect ..

theorem Progress.record_state (p : Progress) (x : Nat × RawRecord) : (p.record x).state =
    match bundleOf x.1 with
    | none => p.state
    | some b => (p.state.loadRecord b x.2).1 := by
  unfold Progress.record
  cases bundleOf x.1 with
  | none => rfl
  | some b => dsimp only; split <;> rfl

theorem Kept.record (p : Progress) (x : Nat × RawRecord) : Kept p.state (p.record x).state := by
  rw [Progress.record_state]
  split
  · exact .refl _
  · exact (Stated.loadRecord ..).steady.kept

theorem Kept.records (xs : List (Nat × RawRecord)) (p : Progress) :
    Kept p.state (xs.foldl Progress.record p).state := by
  induction xs generalizing p with
  | nil => exact .refl _
  | cons x xs ih => exact (Kept.record p x).trans (ih _)

theorem Kept.apply (p : Progress) (x : ImageSection) : Kept p.state (p.apply x).state := by
  cases x with
  | settings x => exact .loadSettings ..
  | tribs xs => exact .foldl .loadTrib ..
  | timing x mode c => exact (Calm.loadTiming ..).quiet.kept
  | lists east west => exact (Calm.loadLists ..).quiet.kept
  | bundles xs => exact .records _ p
  | skipped => exact .refl _

theorem Kept.sections (xs : List ImageSection) (p : Progress) :
    Kept p.state (xs.foldl Progress.apply p).state := by
  induction xs generalizing p with
  | nil => exact .refl _
  | cons x xs ih => exact (Kept.apply p x).trans (ih _)

theorem Kept.settleClock (s : State) (p : TribId) : Kept s (s.settleClock p) := by
  unfold State.settleClock
  split
  · exact .ite (.refl s) (.modTrib s p _ ⟨id, id⟩)
  · exact .refl s

theorem Kept.imageLoad (bs : List Byte) (s : State) : Kept s (imageLoad bs s) := by
  refine .ite ?_ (.refl s)
  split
  · exact ((Calm.load s _).trans (.post ..)).quiet.kept
  · exact (((Calm.recordFault s _ _ _).trans (.load ..)).trans (.post ..)).quiet.kept
  · exact ((Kept.sections _ ⟨s, 0, 0⟩).trans (.foldl .settleClock ..)).trans
      ((Calm.load ..).trans (.post ..)).quiet.kept

theorem Kept.transmitFrameStart (p : TribId) (upsets : List Upset) (s : State) :
    Kept s (transmitFrameStart p upsets s) := by
  rcases transmitFrameStart_split p upsets s with h | h
  · rw [h]; exact .refl s
  · exact (Steady.openFrame s p upsets).1.kept.trans h.kept

theorem Kept.recordPatrol (reads : List (BundleId × Record)) (s : State) : Kept s (recordPatrol reads s) :=
  (Steady.readRecords reads s).1.kept.trans (Quiet.patrols _).kept

theorem Kept.handOver {s : State} (cp : CtrlPort) (i : Instr) {work : State → State}
    (h : Kept s (work s)) : Kept s (s.handOver cp i work) :=
  .ite (Calm.ofCtrl s cp (fun c => { c with abandoned := c.abandoned.erase i }) (fun _ => rfl) (fun _ => rfl)
    fun _ => id).quiet.kept h

end Sys2Proof.Machine
end

section
/-! The twelve reading requests (R17, R41, R73, R76, R80, R108, R131, R149, R163, R170, R174, R178), and O15. -/

namespace Sys2Proof.Machine

open Safety

/-! ## Lengths (R181) -/

@[simp] theorem length_optBytes (n : Nat) (v : Option Nat) : (optBytes n v).length = n + 1 := by
  simp [optBytes]

@[simp] theorem length_signedBytes (n : Nat) (v : Int) : (signedBytes n v).length = n := by simp [signedBytes]

@[simp] theorem length_addressBytes (a : Address) : (addressBytes a).length = 6 := by simp [addressBytes]

@[simp] theorem length_optTagBytes (x : Option Tag) : (optTagBytes x).length = 3 := by
  cases x <;> simp [optTagBytes]

@[simp] theorem length_recordBytes (r : RawRecord) : r.bytes.length = 49 := by
  unfold RawRecord.bytes
  simp only [List.length_append, length_bytesOf, length_addressBytes, length_optTagBytes, List.length_singleton]

@[simp] theorem length_tribConfigBytes (x : RawTribConfig) : x.bytes.length = 8 := by simp [RawTribConfig.bytes]

@[simp] theorem length_settingsBytes (x : RawSettings) : x.bytes.length = 15 := by simp [RawSettings.bytes]

@[simp] theorem length_freqBytes (x : Option Int) : (freqBytes x).length = 5 := by
  cases x <;> simp [freqBytes]

theorem length_bundleBytes (s : State) (b : BundleId) (copy : RecordCopy) :
    (s.bundleBytes b copy).length = 62 := by
  have copied : ∀ x, (optRecordBytes x).length = 50 := fun x => by
    cases x <;> simp [optRecordBytes, recordLength]
  simp [State.bundleBytes, copied]

theorem length_delayBytes (s : State) (b : BundleId) (p : Path) : (s.delayBytes b p).length = 79 := by
  have estimate : ∀ x : Bundle, x.estimateBytes.length = 5 := fun x => by
    unfold Bundle.estimateBytes; split <;> simp
  simp [State.delayBytes, estimate, Echo.bytes, DelayRecord.bytes]

theorem length_pathBytes (s : State) (b : BundleId) : (s.pathBytes b).length = 62 := by
  simp [State.pathBytes, State.pathRecordBytes]

theorem length_tribStatusBytes (s : State) (p : TribId) : (s.tribStatusBytes p).length = 30 := by
  simp [State.tribStatusBytes]

theorem length_portBytes (s : State) (n : NetPort) : (s.portBytes n).length = 75 := by
  simp [State.portBytes, RxCounters.bytes, TxCounters.bytes]

theorem length_faultBytes (x : Option FaultRecord) : (faultBytes x).length = 10 := by
  cases x <;> simp [faultBytes]

theorem length_flatMap_const {α : Type} (xs : List α) (f : α → List Byte) (k : Nat) (h : ∀ x, (f x).length = k) :
    (xs.flatMap f).length = xs.length * k := by
  induction xs with
  | nil => simp
  | cons x xs ih => rw [List.flatMap_cons, List.length_append, ih, h, List.length_cons, Nat.succ_mul, Nat.add_comm]

theorem length_settingsContent (s : State) : (s.settings.raw.bytes
      ++ (allSections.flatMap fun sec => bytesOf 1 (holderCode (s.holder sec)))
      ++ optBytes 2 (s.msLeft (s.ctrl .cp1).idleTimer) ++ optBytes 2 (s.msLeft (s.ctrl .cp2).idleTimer)).length
      = 97 := by
  have sections : (allSections.flatMap fun sec => bytesOf 1 (holderCode (s.holder sec))).length = 76 := by
    rw [length_flatMap_const _ _ 1 fun _ => length_bytesOf ..]
    simp [allSections, allBundles, allTribs]
  simp only [List.length_append, length_settingsBytes, sections, length_optBytes]

theorem length_timingContent (s : State) : (allCandidates.flatMap s.candidateBytes ++ s.selectorBytes
    ++ allTribs.flatMap s.steeringBytes).length = 395 := by
  have candidate : ∀ c, (s.candidateBytes c).length = 18 := fun c => by simp [State.candidateBytes]
  have steering : ∀ p, (s.steeringBytes p).length = 27 := fun p => by simp [State.steeringBytes]
  have selector : s.selectorBytes.length = 17 := by simp [State.selectorBytes]
  simp only [List.length_append, length_flatMap_const _ _ _ candidate, length_flatMap_const _ _ _ steering, selector]
  rfl

/-- What LIST_READ gives of port `n` (R73). -/
def State.listBytes (s : State) (n : NetPort) : List Byte :=
  bytesOf 1 (s.net n).list.length ++ (s.net n).list.flatMap fun x => x.entry.raw.bytes ++ bytesOf 4 x.hits

/-! ## A request that reads decides its outcome and nothing else -/

/-- What the request at hand gives: `status`, and content of its kind's length. -/
def Decides (s t : State) (cp : CtrlPort) (kind : Nat) (status : Status) : Prop :=
  ∃ content, t = s.decide cp kind status content ∧ ∀ n, contentLength kind = some n → content.length = n

theorem Decides.refuse (s : State) (cp : CtrlPort) (kind : Nat) (status : Status) :
    Decides s (s.refuse cp kind status) cp kind status := ⟨_, rfl, fun _ => refusedContent_length⟩

theorem Decides.decide (s : State) (cp : CtrlPort) (kind : Nat) (status : Status) {content : List Byte}
    (h : ∀ n, contentLength kind = some n → content.length = n) :
    Decides s (s.decide cp kind status content) cp kind status := ⟨_, rfl, h⟩

/-- A request that names something by a number: OK where it exists, BAD_VALUE where it does not. -/
theorem Decides.lookup {α : Type} {s t : State} {cp : CtrlPort} {kind : Nat} {x : Option α} {found : Bool}
    (isSome : x.isSome = found) (content : α → List Byte)
    (length : ∀ y n, contentLength kind = some n → (content y).length = n)
    (missing : x = none → t = s.refuse cp kind .badValue)
    (present : ∀ y, x = some y → t = s.decide cp kind .ok (content y)) :
    Decides s t cp kind (if found then .ok else .badValue) := by
  subst isSome
  cases x with
  | none => rw [missing rfl]; exact .refuse ..
  | some y => rw [present y rfl]; exact .decide s cp kind .ok (length y)

theorem bundleOf_isSome (n : Nat) : (bundleOf n).isSome = decide (n < 64) := by
  unfold bundleOf; split <;> simp [*]

theorem tribOf_isSome (n : Nat) : (tribOf n).isSome = decide (n < 8) := by
  unfold tribOf; split <;> simp [*]

theorem captureOf_isSome (n : Nat) : (captureOf n).isSome = decide (n < 4) := by
  unfold captureOf; split <;> simp [*]

theorem netOf_isSome (n : Nat) : (netOf n).isSome = decide (n < 2) := by
  match n with
  | 0 => rfl
  | 1 => rfl
  | n + 2 => simp [netOf]

@[simp] theorem bundleOf_val (b : BundleId) : bundleOf b.val = some b := dif_pos b.isLt

@[simp] theorem tribOf_val (p : TribId) : tribOf p.val = some p := dif_pos p.isLt

@[simp] theorem captureOf_val (c : CaptureId) : captureOf c.val = some c := dif_pos c.isLt

theorem pathOf_isSome (n : Nat) : (pathOf n).isSome = decide (1 ≤ n ∧ n ≤ 2) := by
  match n with
  | 0 => rfl
  | 1 => rfl
  | 2 => rfl
  | n + 3 => simp [pathOf]

@[simp] theorem pathOf_code (p : Path) : pathOf p.code = some p := by cases p <;> rfl

theorem Decides.readDelay (s : State) (cp : CtrlPort) (b p : Nat) :
    Decides s (readDelay cp b p s) cp 13 (if Decidable.decide (b < 64 ∧ 1 ≤ p ∧ p ≤ 2) then .ok else .badValue) := by
  have found : Decidable.decide (b < 64 ∧ 1 ≤ p ∧ p ≤ 2) = ((bundleOf b).isSome && (pathOf p).isSome) := by
    rw [bundleOf_isSome, pathOf_isSome]; simp
  rw [found]
  unfold Machine.readDelay
  split
  · next hb hp =>
    rw [hb, hp]
    exact .decide s cp 13 .ok fun n h => by cases h; exact length_delayBytes ..
  · next h =>
    have missing : ((bundleOf b).isSome && (pathOf p).isSome) = false := by
      cases hb : bundleOf b with
      | none => rfl
      | some b' => cases hp : pathOf p with
        | none => rfl
        | some p' => exact absurd hp (h b' p' hb)
    rw [missing]
    exact .refuse ..

/-- A reading request is handed over to a block that decides its outcome alone (R165). -/
theorem exec_reading {i : Instr} {cp : CtrlPort} {kind : Nat} {found : Bool}
    (h : reading i = some (cp, kind, found)) : ∃ work, (∀ s, exec i s = .next (s.handOver cp i work)) ∧
      ∀ s, Decides s (work s) cp kind (if found then .ok else .badValue) := by
  cases i with
  | readIdentity cp =>
    cases h
    exact ⟨_, fun _ => rfl, fun s => .decide s cp 1 .ok fun n h => by cases h; simp [Ctrl.counterBytes]⟩
  | readSettings cp =>
    cases h
    exact ⟨_, fun _ => rfl, fun s => .decide s cp 2 .ok fun n h => by cases h; exact length_settingsContent s⟩
  | readBundle cp b copy =>
    cases h
    exact ⟨_, fun _ => rfl, fun s => .lookup (bundleOf_isSome b) (fun b => s.bundleBytes b copy)
      (fun _ n h => by cases h; exact length_bundleBytes ..)
      (fun e => by unfold Machine.readBundle; rw [e]; rfl)
      fun y e => by unfold Machine.readBundle; rw [e]; rfl⟩
  | readPlayout cp b =>
    cases h
    exact ⟨_, fun _ => rfl, fun s => .lookup (bundleOf_isSome b) (fun b => s.playoutBytes b)
      nofun (fun e => by unfold Machine.readPlayout; rw [e]; rfl)
      fun y e => by unfold Machine.readPlayout; rw [e]; rfl⟩
  | readDelay cp b p =>
    cases h
    exact ⟨_, fun _ => rfl, fun s => .readDelay s cp b p⟩
  | readPath cp b =>
    cases h
    exact ⟨_, fun _ => rfl, fun s => .lookup (bundleOf_isSome b) (fun b => s.pathBytes b)
      (fun _ n h => by cases h; exact length_pathBytes ..)
      (fun e => by unfold Machine.readPath; rw [e]; rfl)
      fun y e => by unfold Machine.readPath; rw [e]; rfl⟩
  | listRead cp n =>
    cases h
    exact ⟨_, fun _ => rfl, fun s => .lookup (netOf_isSome n) (fun n => s.listBytes n)
      nofun (fun e => by unfold Machine.listRead; rw [e]; rfl)
      fun y e => by unfold Machine.listRead; rw [e]; rfl⟩
  | captureRead cp c =>
    cases h
    exact ⟨_, fun _ => rfl, fun s => .lookup (captureOf_isSome c) (fun c => s.captures[c].bytes)
      nofun (fun e => by unfold Machine.captureRead; rw [e]; rfl)
      fun y e => by unfold Machine.captureRead; rw [e]; rfl⟩
  | tribStatus cp p =>
    cases h
    exact ⟨_, fun _ => rfl, fun s => .lookup (tribOf_isSome p) (fun p => s.tribStatusBytes p)
      (fun _ n h => by cases h; exact length_tribStatusBytes ..)
      (fun e => by unfold Machine.tribStatus; rw [e]; rfl)
      fun y e => by unfold Machine.tribStatus; rw [e]; rfl⟩
  | portStatus cp n =>
    cases h
    exact ⟨_, fun _ => rfl, fun s => .lookup (netOf_isSome n) (fun n => s.portBytes n)
      (fun _ n h => by cases h; exact length_portBytes ..)
      (fun e => by unfold Machine.portStatus; rw [e]; rfl)
      fun y e => by unfold Machine.portStatus; rw [e]; rfl⟩
  | timingStatus cp =>
    cases h
    exact ⟨_, fun _ => rfl, fun s => .decide s cp 29 .ok fun n h => by cases h; exact length_timingContent s⟩
  | readFaults cp =>
    cases h
    exact ⟨_, fun _ => rfl, fun s => .decide s cp 31 .ok fun n h => by cases h; simp [length_faultBytes]⟩
  | _ => cases h

/-! ## The fields as statements write them -/

@[simp] theorem bytesOf_zero (n : Nat) : bytesOf n 0 = List.replicate n 0 := by
  induction n with
  | zero => rfl
  | succ n ih => rw [bytesOf, ih, List.replicate_succ, Nat.zero_div]; rfl

theorem flagField_eq (p : Bool) : flagField p = flagByte p := rfl

theorem yesField_eq (p : Bool) : yesField p = yesNoByte p := rfl

theorem optField_eq (n : Nat) (v : Option Nat) : optField n v = optBytes n v := by
  cases v with
  | none => simp [optField, optBytes, flagByte]
  | some v => rfl

theorem signedField_eq (n : Nat) (v : Int) : signedField n v = signedBytes n v := by
  have width : (2 : Nat) ^ (8 * n) = 256 ^ n := by rw [Nat.pow_mul]
  unfold signedField signedBytes
  rw [BitVec.toNat_ofInt, width]

theorem leftField_eq (s : State) (n : Nat) (x : Timer) : leftField s n x = optBytes n (s.msLeft x) :=
  optField_eq ..

theorem holderField_eq (s : State) (sec : Machine.Section) :
    bytesOf 1 (holderCode (s.holder sec)) = [holderField s sec] := by
  unfold holderField
  match s.holder sec with
  | none => rfl
  | some .cp1 => rfl
  | some .cp2 => rfl

theorem timeCount_toNat (s : State) : s.timeCount.toNat = s.now % 4294967296 := by
  simp [State.timeCount]

/-! ## The contents -/

theorem readBundle_eq (s : State) (cp : CtrlPort) (b : BundleId) (copy : RecordCopy) (x : Bundle) (h : s.bun b = x) :
    readBundle cp b.val copy s = s.decide cp 6 .ok (
        ((match copy, x.active with
          | .pending, _ => 1 :: x.pending.raw.bytes
          | .active, some r => 1 :: r.raw.bytes
          | .active, none => List.replicate 50 0 : List Byte)) ++
        bytesOf 1 x.state.code ++ [if x.recordFault then (1 : Byte) else 0] ++
        (match x.armed with
          | some size => 1 :: bytesOf 2 size
          | none => ([0, 0, 0] : List Byte)) ++
        bytesOf 2 x.ringSize ++ bytesOf 2 x.poolCharge ++
        (match s.holder (.bundle b) with
          | none => ([0] : List Byte)
          | some .cp1 => [1]
          | some .cp2 => [2]) ++
        bytesOf 2 (allBundles.map fun c => (s.bun c).poolCharge).sum) := by
  have copied : optRecordBytes (x.copy copy) = (match copy, x.active with
      | .pending, _ => 1 :: x.pending.raw.bytes
      | .active, some r => 1 :: r.raw.bytes
      | .active, none => List.replicate 50 0 : List Byte) := by
    cases copy with
    | pending => rfl
    | active => cases e : x.active <;> simp only [Bundle.copy, e] <;> rfl
  have armed : optBytes 2 x.armed = (match x.armed with
      | some size => 1 :: bytesOf 2 size
      | none => ([0, 0, 0] : List Byte)) := by
    cases x.armed <;> rfl
  have holder : bytesOf 1 (holderCode (s.holder (.bundle b))) = (match s.holder (.bundle b) with
      | none => ([0] : List Byte)
      | some .cp1 => [1]
      | some .cp2 => [2]) := by
    match s.holder (.bundle b) with
    | none => rfl
    | some .cp1 => rfl
    | some .cp2 => rfl
  subst h
  unfold readBundle
  rw [bundleOf_val]
  unfold State.bundleBytes
  simp only [copied, armed, holder] <;> rfl

theorem bytesOf_one (v : Nat) : bytesOf 1 v = [BitVec.ofNat 8 v] := by simp [bytesOf]

theorem readIdentity_eq (s : State) (cp : CtrlPort) :
    readIdentity cp s = s.decide cp 1 .ok (identityContent s) := by
  unfold readIdentity identityContent
  refine congrArg (s.decide cp 1 .ok) ?_
  have marker : bytesOf 4 1 = [0, 0, 0, 1] := rfl
  cases e : s.load <;>
    simp [timeCount_toNat, State.eventTime, Ctrl.counterBytes, flagField_eq, Config.msTicks, Load.codes, bytesOf_one,
      marker]

/-- The holder of every section, one byte each (spec/09 9.4). -/
theorem holderFields_eq (s : State) : (allSections.flatMap fun sec => bytesOf 1 (holderCode (s.holder sec))) =
    (allBundles.map fun b => holderField s (.bundle b)) ++ (allTribs.map fun p => holderField s (.trib p))
      ++ [holderField s (.list .east), holderField s (.list .west), holderField s .timing,
        holderField s .settings] := by
  simp only [holderField_eq, ← List.map_eq_flatMap, allSections, List.map_append, List.map_map, List.map_cons,
    List.map_nil]
  rfl

theorem readSettings_eq (s : State) (cp : CtrlPort) :
    readSettings cp s = s.decide cp 2 .ok (settingsContent s) := by
  unfold readSettings settingsContent
  refine congrArg (s.decide cp 2 .ok) ?_
  rw [holderFields_eq]
  simp only [leftField_eq, Settings.raw, RawSettings.bytes, List.append_assoc]

theorem freqField_eq (x : Option Int) : freqBytes x = match x with
    | none => ([0, 0, 0, 0, 0] : List Byte)
    | some f => 1 :: signedField 4 f := by
  cases x with
  | none => rfl
  | some f => simp [freqBytes, signedField_eq]

theorem selectorField_eq (s : State) : s.selectorBytes = (match s.timing.mode with
      | .auto => ([0, 0] : List Byte)
      | .forced c => 1 :: bytesOf 1 c.code
      | .free => [2, 0])
    ++ (match s.timing.state with
      | .freeRun => ([0, 0] : List Byte)
      | .locked c => 1 :: bytesOf 1 c.code
      | .holdover => [2, 0])
    ++ [yesField s.timing.everLocked] ++ signedField 4 s.timing.holdover
    ++ signedField 4 (match s.timing.state with
      | .freeRun => 0
      | .holdover => s.timing.holdover
      | .locked c => Config.lineFrequency c s.now)
    ++ bytesOf 4 s.timing.holdoverEntries := by
  have mode : ∀ m : TimingMode, bytesOf 1 m.codes.1 ++ bytesOf 1 m.codes.2 = (match m with
      | .auto => ([0, 0] : List Byte)
      | .forced c => 1 :: bytesOf 1 c.code
      | .free => [2, 0]) := fun m => by cases m <;> simp [TimingMode.codes, bytesOf_one]
  have state : ∀ x : TimingState, bytesOf 1 x.code ++ bytesOf 1 x.param = (match x with
      | .freeRun => ([0, 0] : List Byte)
      | .locked c => 1 :: bytesOf 1 c.code
      | .holdover => [2, 0]) := fun x => by cases x <;> simp [TimingState.code, TimingState.param, bytesOf_one]
  simp only [← mode, ← state, yesField_eq, signedField_eq, State.selectorBytes, State.systemFrequency,
    List.append_assoc] <;> rfl

theorem steeringField_eq (s : State) (p : TribId) : bytesOf 1 (s.steeringStatus p).code = [steeringField s p] := by
  unfold State.steeringStatus steeringField
  cases (s.trib p).cfg.clock with
  | system => simp [SteeringStatus.code]
  | loop => simp [SteeringStatus.code]
  | steered b =>
    simp only
    by_cases on : (s.bun b).isOn p = true
    · by_cases running : (s.bun b).state = .playing ∧ (s.bun b).playout.adjust = none
      · simp [on, running, SteeringStatus.code, bytesOf_one]
      · have waits : ((s.bun b).state == .playing && (s.bun b).playout.adjust.isNone) = false := by
          simpa [Option.isSome_iff_ne_none] using running
        simp [on, running, waits, SteeringStatus.code, bytesOf_one]
    · simp [on, SteeringStatus.code, bytesOf_one]

theorem steeringBytes_eq (s : State) (p : TribId) : s.steeringBytes p =
    (match (s.trib p).cfg.clock with
        | .system => ([0, 0] : List Byte)
        | .loop => [1, 0]
        | .steered b => 2 :: bytesOf 1 b.val)
        ++ [steeringField s p] ++ signedField 3 (s.trib p).steer.integrator ++ signedField 3 (s.trib p).steer.offset
        ++ bytesOf 2 (s.trib p).steer.samples ++ signedField 4 (s.trib p).steer.lastSum
        ++ [(s.trib p).steer.completed, (s.trib p).steer.abandoned, (s.trib p).steer.clamps].flatMap (bytesOf 4) := by
  have clock : ∀ x : TxClock, bytesOf 1 x.codes.1 ++ bytesOf 1 x.codes.2 = (match x with
        | .system => ([0, 0] : List Byte)
        | .loop => [1, 0]
        | .steered b => 2 :: bytesOf 1 b.val) := fun x => by cases x <;> simp [TxClock.codes, bytesOf_one]
  simp only [← clock, ← steeringField_eq, signedField_eq, State.steeringBytes, List.append_assoc, List.flatMap_cons,
    List.flatMap_nil, List.append_nil]

theorem candidateField_eq (s : State) (c : Candidate) : s.candidateBytes c =
    bytesOf 1 (s.timing.candidate c).priority ++ bytesOf 2 (s.timing.candidate c).qualify
      ++ [yesField (s.timing.candidate c).valid] ++ bytesOf 1 (s.timing.candidate c).state.code
      ++ leftField s 3 (s.timing.candidate c).timer
      ++ (match (s.timing.candidate c).frequency with
        | none => ([0, 0, 0, 0, 0] : List Byte)
        | some f => 1 :: signedField 4 f)
      ++ bytesOf 4 (s.timing.candidate c).losses := by
  simp only [State.candidateBytes, freqField_eq, leftField_eq, yesField_eq]

theorem timingStatus_eq (s : State) (cp : CtrlPort) :
    timingStatus cp s = s.decide cp 29 .ok (timingContent s) := by
  unfold timingStatus timingContent
  refine congrArg (s.decide cp 29 .ok) ?_
  rw [selectorField_eq]
  simp only [← List.flatMap_def]
  have steering : allTribs.flatMap s.steeringBytes = allTribs.flatMap fun p => _ :=
    List.flatMap_congr fun p _ => steeringBytes_eq s p
  have candidates : allCandidates.flatMap s.candidateBytes = allCandidates.flatMap fun c => _ :=
    List.flatMap_congr fun c _ => candidateField_eq s c
  rw [steering, candidates]
  simp only [List.append_assoc] <;> rfl

theorem tribStatus_eq (s : State) (cp : CtrlPort) (p : TribId) (x : Trib) (h : s.trib p = x) :
    tribStatus cp p.val s = s.decide cp 25 .ok (
        x.cfg.raw.bytes ++ bytesOf 1 x.rx.code ++
        [if x.recovery then (1 : Byte) else 0, if x.remoteAlarm then 1 else 0,
          if x.rx = .aligned then 0 else 1,
          if allBundles.any (fun b => (s.bun b).isOn p && (s.bun b).delayAlert) then 1 else 0,
          if x.txAllOnes then 1 else 0] ++
        bytesOf 4 x.signalLosses ++ bytesOf 4 x.aisEntries ++ bytesOf 4 x.alignLosses ++
        bytesOf 4 x.erroredWords) := by
  subst h
  have out : flagByte (s.trib p).remoteAlarmOut = if (s.trib p).rx = .aligned then 0 else 1 := by
    cases e : (s.trib p).rx <;> simp [Trib.remoteAlarmOut, flagByte, e]
  unfold tribStatus
  rw [tribOf_val]
  simp only [State.tribStatusBytes, out]
  rfl

theorem portStatus_eq (s : State) (cp : CtrlPort) (num : Nat) (n : NetPort) (x : Net) (h : netOf num = some n)
    (hx : s.net n = x) : portStatus cp num s = s.decide cp 26 .ok (
        [if x.up then (1 : Byte) else 0, if x.qualification = none then 0 else 1] ++
        addressBytes (s.settings.station n) ++ bytesOf 2 s.settings.bundleType ++
        ([x.rx.whileDown, x.rx.fcsError, x.rx.notMine, x.rx.otherType, x.rx.malformed,
          x.rx.unmatched, x.rx.listDiscard, x.rx.delivered].flatMap (bytesOf 4)) ++
        bytesOf 1 x.list.length ++
        ([x.tx.joined, x.tx.evicted, x.tx.dropped, x.tx.withdrawn, x.tx.flushed, x.tx.sent,
          x.tx.aborted].flatMap (bytesOf 4)) ++
        bytesOf 1 x.protection.length ++ bytesOf 1 x.priority.length ++
        bytesOf 1 x.routine.length ++ [if x.transmitter = .idle then (0 : Byte) else 1]) := by
  subst hx
  have qualifies : flagByte (s.net n).qualification.isSome = if (s.net n).qualification = none then 0 else 1 := by
    cases (s.net n).qualification <;> rfl
  have sending : flagByte (s.net n).transmitter.isSending = if (s.net n).transmitter = .idle then 0 else 1 := by
    cases (s.net n).transmitter <;> rfl
  unfold portStatus
  rw [h]
  simp only [State.portBytes, qualifies, sending, RxCounters.bytes, TxCounters.bytes, List.flatMap_cons,
    List.flatMap_nil, List.append_nil, List.append_assoc]
  rfl

theorem listRead_eq (s : State) (cp : CtrlPort) (num : Nat) (n : NetPort) (xs : List ListEntry)
    (h : netOf num = some n) (hx : (s.net n).list = xs) : listRead cp num s = s.decide cp 21 .ok
      (bytesOf 1 xs.length ++ (xs.map fun e => e.entry.raw.bytes ++ bytesOf 4 e.hits).flatten) := by
  subst hx
  unfold listRead
  rw [h, ← List.flatMap_def]
  rfl

theorem captureRead_eq (s : State) (cp : CtrlPort) (c : CaptureId) (x : Capture) (h : s.captures[c] = x) :
    captureRead cp c.val s = s.decide cp 23 .ok (captureContent x) := by
  subst h
  unfold captureRead
  rw [captureOf_val]
  refine congrArg (s.decide cp 23 .ok) ?_
  generalize s.captures[c] = x
  unfold captureContent Capture.bytes
  cases x.state with
  | empty => rfl
  | armed => rfl
  | full k =>
    simp only [Captured.bytes]
    cases k.action <;> simp [Action.codes, flagField_eq, optField_eq, bytesOf_one]

theorem pathField_eq (s : State) (y : PathRecord) : s.pathRecordBytes y = pathField s y := by
  simp only [State.pathRecordBytes, pathField, leftField_eq, yesField_eq, flagField_eq, PathRecord.signalFail,
    List.flatMap_cons, List.flatMap_nil, List.append_nil, List.append_assoc, List.cons_append, List.nil_append]

theorem usableField_eq (x : Bundle) : bytesOf 1 x.usablePaths.code = [usableField x] := by
  unfold Bundle.usablePaths usableField
  cases x.active with
  | none => simp [PlayingPath.code]
  | some r =>
    simp only [Option.map_some]
    cases e : r.pathMode with
    | merged => simp [playingPath, PlayingPath.code, bytesOf_one]
    | single => simp [playingPath, PlayingPath.code, bytesOf_one]
    | selected => simp only [playingPath]; split <;> rfl

theorem downField_eq (x : Bundle) : flagByte x.isDown = downField x := by
  unfold Bundle.isDown downField
  cases x.active with
  | none => simp [flagByte, flagField]
  | some r => cases e : r.pathMode <;> simp [e, Supervisor.downCondition, Supervisor.signalFail,
      PathRecord.signalFail, flagByte, flagField, Two.atPath]

theorem announces_eq (x : Bundle) :
    bytesOf 1 x.announces.code = [if x.state = .playing then usableField x else 0] := by
  by_cases h : x.state = .playing
  · rw [if_pos h, ← usableField_eq]
    simp only [Bundle.announces, Bundle.usablePaths, h]
  · rw [if_neg h]
    have none : x.announces = .none := by
      unfold Bundle.announces
      cases x.active with
      | none => rfl
      | some r => cases e : x.state <;> simp_all [playingPath]
    rw [none]; rfl

theorem readPath_eq (s : State) (cp : CtrlPort) (b : BundleId) :
    readPath cp b.val s = s.decide cp 16 .ok (pathContent s b) := by
  unfold readPath pathContent
  rw [bundleOf_val]
  refine congrArg (s.decide cp 16 .ok) ?_
  have place : announcementPlace (s.bun b).supervisor.selector.announcement =
      (((s.bun b).supervisor.selector.announcement.map fun z => z.code + 1).getD 0) := by
    cases (s.bun b).supervisor.selector.announcement <;> rfl
  simp only [State.pathBytes, pathField_eq, usableField_eq, downField_eq, announces_eq, leftField_eq, yesField_eq,
    place, List.append_assoc, List.cons_append, List.nil_append]
  cases (s.bun b).supervisor.selector.request <;> simp [LocalRequest.codes, bytesOf_one]

theorem heldInOrder_eq (p : Playout) : p.heldList = heldInOrder p := by
  unfold Playout.heldList heldInOrder
  cases p.head <;> simp

theorem topOf_eq (x : Bundle) : x.effectiveMax = topOf x := by
  unfold Bundle.effectiveMax topOf
  cases x.active <;> rfl

theorem targetField_eq (x : Bundle) : optBytes 2 x.targetInForce = targetField x := (optField_eq ..).symm

theorem adjustField_eq (x : Option Adjust) : adjustBytes x = match x with
      | none => ([0, 0, 0, 0, 0] : List Byte)
      | some ⟨target, _, step⟩ => 1 :: bytesOf 2 target ++
        match step with
        | none => [0, 0]
        | some .insert => [1, 0]
        | some .skip => [1, 1] := by
  match x with
  | none => rfl
  | some ⟨target, age, none⟩ => simp [adjustBytes, optBytes, flagByte]
  | some ⟨target, age, some .insert⟩ => simp [adjustBytes, optBytes, flagByte, Direction.code]
  | some ⟨target, age, some .skip⟩ => simp [adjustBytes, optBytes, flagByte, Direction.code, bytesOf_one]

theorem copiesField_eq (x : HeldTx) :
    bytesOf 1 x.copies = [if x.east then if x.west then (2 : Byte) else 0 else 1] := by
  unfold HeldTx.copies
  cases x.east
  · simp [bytesOf_one]
  · cases x.west <;> simp [bytesOf_one]

/-- The fields of READ_PLAYOUT that depend on the active record (R91, R94, R108). -/
theorem playoutFields_eq (x : Bundle) :
    x.fill = (x.active.map fun r => x.playout.fill r.fpp).getD 0 ∧
    x.remaining = if x.playout.phase = .countdown then
      (x.active.map fun r => x.delay.target - r.fpp - x.playout.startCount).getD 0 else 0 := by
  unfold Bundle.fill Bundle.remaining startValue
  cases x.active with
  | none => simp
  | some r => exact ⟨rfl, rfl⟩

theorem readPlayout_eq (s : State) (cp : CtrlPort) (b : BundleId) :
    readPlayout cp b.val s = s.decide cp 12 .ok (playoutContent s b) := by
  unfold readPlayout playoutContent State.playoutBytes
  rw [bundleOf_val]
  refine congrArg (s.decide cp 12 .ok) ?_
  obtain ⟨fill, remaining⟩ := playoutFields_eq (s.bun b)
  have slots : RingSlot.bytes = fun y => bytesOf 2 y.seq.toNat ++ bytesOf 1 y.path.code ++
      [flagByte y.originFault] ++ bytesOf 4 y.arrival.toNat := rfl
  simp only [fill, remaining, topOf_eq, targetField_eq, heldInOrder_eq, adjustField_eq, optField_eq, flagField_eq,
    slots, PlayCounters.bytes, Assembly.bytes, Delivery.bytes, copiesField_eq, State.poolFree, Config.poolSlots,
    List.flatMap_def, List.map_cons, List.map_nil, List.flatten_cons, List.flatten_nil, List.append_nil,
    List.append_assoc] <;> rfl

theorem estimateOf_eq (x : Bundle) : x.estimatePath = estimateOf x := by
  unfold Bundle.estimatePath estimateOf
  cases x.active with
  | none => rfl
  | some r =>
    simp only [Option.bind_some, Delay.estimatePath]
    cases r.pathMode with
    | single => rfl
    | selected => rfl
    | merged =>
      cases x.delay.record.one.tracking
      · cases x.delay.record.two.tracking <;> rfl
      · cases x.delay.record.two.tracking <;> simp

theorem estimateField_eq (x : Bundle) : x.estimateBytes = match estimateOf x with
      | none => ([0, 0, 0, 0, 0] : List Byte)
      | some q => 1 :: bytesOf 3 ((x.delay.record.atPath q).baseline * 4 / 1000) ++ bytesOf 1 q.code := by
  unfold Bundle.estimateBytes
  rw [estimateOf_eq]
  cases estimateOf x <;> rfl

theorem readDelay_eq (s : State) (cp : CtrlPort) (b : BundleId) (p : Path) :
    readDelay cp b.val p.code s = s.decide cp 13 .ok (delayContent s b p) := by
  unfold readDelay delayContent State.delayBytes
  rw [bundleOf_val, pathOf_code]
  refine congrArg (s.decide cp 13 .ok) ?_
  simp only [estimateField_eq, topOf_eq, targetField_eq, optField_eq, flagField_eq, yesField_eq, leftField_eq,
    signedField_eq, Echo.bytes, DelayRecord.bytes, Bundle.delayAlert, timeCount_toNat, List.append_assoc] <;> rfl

/-- Settles O15. -/
theorem readRequestsChangeNothingButTheirOutcome : Obligations.ReadRequestsChangeNothingButTheirOutcome := by
  have carry {s : State} {cp : CtrlPort} {i : Instr} {work : State → State} {t : State} (carried : Carried s cp i)
      (h : work s = t) : (Host.Outcome.next (s.handOver cp i work) : Host.Outcome State Fault Refusal) = .next t := by
    rw [State.handOver_of_carried work carried, h]
  refine ⟨fun s i cp kind found h carried => ?_,
    fun s cp b copy x h carried => carry carried (readBundle_eq s cp b copy x h),
    fun s cp p x h carried => carry carried (tribStatus_eq s cp p x h),
    fun s cp num n x h hx carried => carry carried (portStatus_eq s cp num n x h hx),
    fun s cp num n xs h hx carried => carry carried (listRead_eq s cp num n xs h hx),
    fun s cp => ⟨fun carried => carry carried (readIdentity_eq s cp),
      fun carried => carry carried (readSettings_eq s cp),
      fun carried => carry carried (timingStatus_eq s cp)⟩,
    fun s cp b => ⟨fun carried => carry carried (readPlayout_eq s cp b),
      fun carried => carry carried (readPath_eq s cp b),
      fun p carried => carry carried (readDelay_eq s cp b p)⟩,
    fun s cp c x h carried => carry carried (captureRead_eq s cp c x h)⟩
  obtain ⟨work, exec, decides⟩ := exec_reading h
  obtain ⟨content, e, length⟩ := decides s
  exact ⟨content, by rw [exec, State.handOver_of_carried work carried, e], length⟩

end Sys2Proof.Machine
end

section
/-!
Every command by what it moves: the quiet commands, those that change records and claims, and the rest. O4.
-/

namespace Sys2Proof

open Machine

/-- The commands that move no line, no link, no record and no claim, and restart nothing. -/
def Instr.quiet : Instr → Bool
  | .openEdit .. | .closeEdit .. | .writePending .. | .activate .. | .free .. | .tribConfig .. | .readEvents ..
  | .warmReset .. | .fullReset | .imageLoad .. | .lossOfSignal .. | .receiveClockTimeout ..
  | .recoveryBlockBegins .. | .recoveryBlockComplete .. | .aisBlockComplete .. | .alignmentFound ..
  | .alignmentWord .. | .nonAlignmentWord .. | .transmitFrameStart .. | .activationTakesEffect ..
  | .linkIndicationLost .. | .linkQualificationExpiry .. | .recordPatrol .. | .idleTimerExpiry .. => false
  | _ => true

end Sys2Proof

namespace Sys2Proof.Machine

open Safety

/-- A reading request moves its requester's outcome alone. -/
theorem Retold.reading_exec {c : Instr} {s t : State} {cp : CtrlPort} {kind : Nat} {found : Bool}
    (reads : reading c = some (cp, kind, found)) (h : exec c s = .next t) : Retold s t := by
  obtain ⟨work, exec, decides⟩ := exec_reading reads
  obtain ⟨content, e, -⟩ := decides s
  rw [exec] at h
  have calm : Calm s (work s) := e ▸ .decide ..
  exact Host.Outcome.next.inj h ▸ (Calm.handOver cp c calm).retold

theorem Retold.quiet_exec {c : Instr} {s t : State} (quiet : c.quiet = true) (h : exec c s = .next t) :
    Retold s t := by
  cases c with
  | openEdit | closeEdit | writePending | activate | free | tribConfig | readEvents | warmReset | fullReset
  | imageLoad | lossOfSignal | receiveClockTimeout | recoveryBlockBegins | recoveryBlockComplete
  | aisBlockComplete | alignmentFound | alignmentWord | nonAlignmentWord | transmitFrameStart
  | activationTakesEffect | linkIndicationLost | linkQualificationExpiry | recordPatrol | idleTimerExpiry =>
    cases quiet
  | requestWrite cp bs => cases h; exact (Calm.requestWrite ..).retold
  | responseRead cp piece => cases h; exact (Calm.responseRead ..).retold
  | transferIgnored cp dir n => cases h; exact (Calm.transferIgnored ..).retold
  | responsePrepared cp => cases h; exact (Calm.responsePrepared ..).retold
  | readIdentity cp => exact .reading_exec rfl h
  | readSettings cp => exact .reading_exec rfl h
  | readBundle cp b copy => exact .reading_exec rfl h
  | readPlayout cp b => exact .reading_exec rfl h
  | readDelay cp b p => exact .reading_exec rfl h
  | readPath cp b => exact .reading_exec rfl h
  | listRead cp n => exact .reading_exec rfl h
  | captureRead cp c => exact .reading_exec rfl h
  | tribStatus cp p => exact .reading_exec rfl h
  | portStatus cp n => exact .reading_exec rfl h
  | timingStatus cp => exact .reading_exec rfl h
  | readFaults cp => exact .reading_exec rfl h
  | writeSettings cp raw => cases h; exact (Calm.handOver cp _ (.writeSettings ..)).retold
  | clearDelayExtremes cp b p => cases h; exact (Calm.handOver cp _ (.clearDelayExtremes ..)).retold
  | applyEqualisation cp b => cases h; exact (Calm.handOver cp _ (.applyEqualisation ..)).retold
  | pathCommand cp b req q => cases h; exact (Calm.handOver cp _ (.pathCommand ..)).retold
  | listInsert cp n i x => cases h; exact (Calm.handOver cp _ (.listInsert ..)).retold
  | listRemove cp n i => cases h; exact (Calm.handOver cp _ (.listRemove ..)).retold
  | listReplace cp n i x => cases h; exact (Calm.handOver cp _ (.listReplace ..)).retold
  | captureArm cp c => cases h; exact (Calm.handOver cp _ (.captureArm ..)).retold
  | timingConfig cp x => cases h; exact (Calm.handOver cp _ (.timingConfig ..)).retold
  | timingCommand cp m c => cases h; exact (Calm.handOver cp _ (.timingCommand ..)).retold
  | clearFaults cp => cases h; exact (Calm.handOver cp _ (.clearFaults ..)).retold
  | saveImage cp => cases h; exact (Calm.handOver cp _ (.saveImage ..)).retold
  | start cp b => cases h; exact .handOver cp _ (.start ..)
  | stop cp b => cases h; exact .handOver cp _ (.stop ..)
  | memoryReadyTimeout => cases h; exact (Calm.memoryReadyTimeout ..).retold
  | saveReadBack bs => cases h; exact (Calm.saveReadBack ..).retold
  | saveTimeout => cases h; exact (Calm.saveTimeout ..).retold
  | receiveFrame r bs => exact Host.Outcome.next.inj h ▸ (Calm.receiveFrame ..).retold
  | playoutStart b => cases h; exact .playoutStart ..
  | adjustStep b => cases h; exact .adjustStep ..
  | steeringIntervalEnd p => cases h; exact (Calm.steeringIntervalEnd ..).retold
  | linkIndicationAppears n => cases h; exact (Calm.linkIndicationAppears ..).retold
  | frameTaken n fcs err bs => cases h; exact .frameTaken ..
  | frameSent n => cases h; exact (Calm.frameSent ..).retold
  | interFrameGapEnd n => cases h; exact (Calm.interFrameGapEnd ..).retold
  | estimateWaitExpiry b => cases h; exact (Calm.estimateWaitExpiry ..).retold
  | alertTimerExpiry b => cases h; exact (Calm.alertTimerExpiry ..).retold
  | lossTimerExpiry b p => cases h; exact .lossTimerExpiry ..
  | startWaitExpiry b => cases h; exact .startWaitExpiry ..
  | holdOffExpiry b => cases h; exact (Calm.holdOffExpiry ..).retold
  | waitToRestoreExpiry b => cases h; exact (Calm.waitToRestoreExpiry ..).retold
  | mismatchTimerExpiry b => cases h; exact (Calm.mismatchTimerExpiry ..).retold
  | stationActivityLoss => cases h; exact (Calm.stationActivityLoss ..).retold
  | measurementWindowEnd station lines => cases h; exact (Calm.measurementWindowEnd ..).retold
  | qualifyTimerExpiry c => cases h; exact (Calm.qualifyTimerExpiry ..).retold

/-- A tick keeps every range. -/
theorem Kept.tick (s : State) : Kept s s.tick := .of_ctrls (fun _ => .refl _) rfl rfl rfl rfl rfl rfl

theorem Kept.exec {c : Instr} {s t : State} (h : exec c s = .next t) : Kept s t := by
  by_cases quiet : c.quiet = true
  · exact (Retold.quiet_exec quiet h).quiet.kept
  · cases c with
    | openEdit cp x => cases h; exact (Stated.handOver cp _ (.openEdit ..)).steady.kept
    | closeEdit cp x => cases h; exact (Stated.handOver cp _ (.closeEdit ..)).steady.kept
    | writePending cp b x => cases h; exact (Stated.handOver cp _ (.writePending ..)).steady.kept
    | activate cp b => cases h; exact (Stated.handOver cp _ (.activate ..)).steady.kept
    | free cp b => cases h; exact (Stated.handOver cp _ (.free ..)).steady.kept
    | idleTimerExpiry cp => cases h; exact (Stated.idleTimerExpiry ..).steady.kept
    | activationTakesEffect b => cases h; exact (Stated.activationTakesEffect ..).steady.kept
    | tribConfig cp p x => cases h; exact .handOver cp _ (.tribConfig ..)
    | readEvents cp => cases h; exact .handOver cp _ (.readEvents ..)
    | warmReset cp => cases h; exact .handOver cp _ (.warmReset ..)
    | fullReset => cases h; exact .fullReset s
    | imageLoad bs => cases h; exact .imageLoad ..
    | lossOfSignal p => cases h; exact .inputLost ..
    | receiveClockTimeout p => cases h; exact .inputLost ..
    | recoveryBlockBegins p => cases h; exact .recoveryBlockBegins ..
    | recoveryBlockComplete p block => cases h; exact .recoveryBlockComplete ..
    | aisBlockComplete p block => cases h; exact .aisBlockComplete ..
    | alignmentFound p window => cases h; exact .alignmentFound ..
    | alignmentWord p bits => cases h; exact .alignmentWord ..
    | nonAlignmentWord p bit3 => cases h; exact .nonAlignmentWord ..
    | transmitFrameStart p upsets => exact Host.Outcome.next.inj h ▸ .transmitFrameStart ..
    | linkIndicationLost n cut back => cases h; exact .linkIndicationLost ..
    | linkQualificationExpiry n => cases h; exact .linkQualificationExpiry ..
    | recordPatrol reads => exact Host.Outcome.next.inj h ▸ .recordPatrol ..
    | _ => exact absurd rfl quiet

/-- The queue of commands stands in no range. -/
theorem Calm.takeCommand (s : State) (rest : List Instr) : Calm s { s with pending := rest } :=
  .of_rest rfl rfl rfl rfl rfl rfl rfl rfl rfl

/-- A step runs the first command, or ticks (95_what_each_step_holds.md). -/
theorem step_cases {s t : State} (h : step s = .next t) :
    (s.pending = [] ∧ t = s.tick) ∨
      ∃ c rest, s.pending = c :: rest ∧ exec c { s with pending := rest } = .next t := by
  unfold step at h
  split at h
  · next e => cases h; exact .inl ⟨e, rfl⟩
  · next c rest e => exact .inr ⟨c, rest, e, h⟩

/-- Settles O4. -/
theorem everyStepKeepsCapacities : Obligations.EveryStepKeepsCapacities := by
  intro s t h
  rcases step_cases h with ⟨-, rfl⟩ | ⟨c, rest, -, h⟩
  · exact (Kept.tick s).bounded
  · exact ((Calm.takeCommand s rest).quiet.kept.trans (.exec h)).bounded

end Sys2Proof.Machine
end

section
/-! What the commands keep of the lines and post of them: O8, and the receive states of O32. -/

namespace Sys2Proof.Machine

open Safety

/-! ## A sound line -/

/-- A line as Table 6, R7 and R10 have it, its clock candidate apart. -/
structure LineSound (x : Trib) : Prop where
  legal : stateLegal x.cfg.kind x.rx = true
  alarm : AlarmClear x
  turn : x.rx ≠ .aligned → x.alignNext = false

theorem linesSound_iff {s : State} : LinesSound s ↔
    ∀ p, LineSound (s.trib p) ∧ (s.timing.candidate (.trib p)).valid = (s.trib p).rx.onLine :=
  ⟨fun h p => ⟨⟨h.legal p, h.alarm p, h.turn p⟩, h.valid p⟩, fun h =>
    ⟨fun p => (h p).1.legal, fun p => (h p).1.alarm, fun p => (h p).1.turn, fun p => (h p).2⟩⟩

/-- A line given up is sound in any state its kind has. -/
theorem LineSound.of_clear {x : Trib} (legal : stateLegal x.cfg.kind x.rx = true) (remote : x.remoteAlarm = false)
    (ones : x.onesRun = 0) (zeros : x.zerosRun = 0) (turn : x.alignNext = false) : LineSound x :=
  ⟨legal, fun _ => ⟨remote, ones, zeros⟩, fun _ => turn⟩

theorem LineSound.of_same {x y : Trib} (h : LineSound x) (e : SameLine x y) : LineSound y := by
  obtain ⟨cfg, rx, remote, ones, zeros, turn⟩ := e
  refine ⟨?_, ?_, ?_⟩
  · rw [cfg, rx]; exact h.legal
  · unfold AlarmClear; rw [rx, remote, ones, zeros]; exact h.alarm
  · rw [rx, turn]; exact h.turn

/-- The states that a kind which is not DISABLED has in common, and the one of its own (Table 6). -/
theorem stateLegal_live {k : TribKind} {x : RxState} (h : stateLegal k x = true) (ne : x ≠ .off) :
    stateLegal k .noSignal = true ∧ stateLegal k .ais = true ∧
      stateLegal k (if k = .framed then .search else .present) = true := by
  cases k with
  | disabled => cases x <;> first | exact absurd rfl ne | cases h
  | framed => exact ⟨rfl, rfl, rfl⟩
  | unframed => exact ⟨rfl, rfl, rfl⟩

theorem stateLegal_framed {k : TribKind} {x : RxState} (h : stateLegal k x = true) (e : x = .search ∨ x = .aligned) :
    k = .framed := by
  rcases e with rfl | rfl <;> cases k <;> first | rfl | cases h

theorem stateLegal_restart (k : TribKind) : stateLegal k (restartState k) = true := by cases k <;> rfl

/-! ## Steps on the lines -/

/-- Sound lines stay sound, and each change of a receive state is posted (R11). -/
structure Lined (s t : State) : Prop where
  sound : LinesSound s → LinesSound t
  told : ∀ p, (t.trib p).rx ≠ (s.trib p).rx → Reported t (tribStateEvent s p (t.trib p).rx)

theorem Lined.of_same {s t : State} (h : SameLines s t) : Lined s t where
  sound k := linesSound_iff.2 fun p => by
    obtain ⟨line, valid⟩ := linesSound_iff.1 k p
    exact ⟨line.of_same (h.line p), by rw [h.valid, (h.line p).rx, valid]⟩
  told p ne := absurd (h.line p).rx ne

theorem Lined.refl (s : State) : Lined s s := .of_same (.refl s)

theorem Steady.lined {s t : State} (h : Steady s t) : Lined s t := .of_same h.lines

theorem Calm.lined {s t : State} (h : Calm s t) : Lined s t := h.steady.lined

theorem Lined.ite {s t u : State} {c : Prop} [Decidable c] (h : Lined s t) (k : Lined s u) :
    Lined s (if c then t else u) := by split <;> assumption

theorem Lined.andSteady {s t u : State} (h : Lined s t) (k : Steady t u) : Lined s u where
  sound := k.lined.sound ∘ h.sound
  told p ne := by
    have rx := (k.lines.line p).rx
    rw [rx] at ne ⊢
    exact reported_mono (h.told p ne) k.hush.queues

theorem Lined.andCalm {s t u : State} (h : Lined s t) (k : Calm t u) : Lined s u := h.andSteady k.steady

/-- A change of one line whose receive state stays. -/
theorem Lined.modTrib (s : State) (p : TribId) (f : Trib → Trib) (rx : (f (s.trib p)).rx = (s.trib p).rx)
    (h : LineSound (s.trib p) → LineSound (f (s.trib p))) : Lined s (s.modTrib p f) where
  sound k := linesSound_iff.2 fun q => by
    obtain ⟨line, valid⟩ := linesSound_iff.1 k q
    change LineSound ((s.modTrib p f).trib q) ∧
      (s.timing.candidate (.trib q)).valid = ((s.modTrib p f).trib q).rx.onLine
    rw [State.trib_modTrib]
    split
    · next e => subst e; exact ⟨h line, by rw [rx, valid]⟩
    · exact ⟨line, valid⟩
  told q ne := by
    refine absurd ?_ ne
    rw [State.trib_modTrib]
    split
    · next e => subst e; exact rx
    · rfl

/-- The shape of every line event that changes the receive state: a step of the port's own, then the new state
(R11). -/
theorem Lined.setRx {s u : State} {p : TribId} {es : List Event} (h : LineStep s u p es)
    (same : (u.trib p).rx = (s.trib p).rx) (new : RxState)
    (line : LineSound (s.trib p) → LineSound { u.trib p with rx := new }) : Lined s (u.setRx p new) := by
  by_cases ne : (s.trib p).rx = new
  · rw [State.setRx_of_eq (same.trans ne)]
    subst ne
    have timing : u.timing = s.timing := by rw [h.frame]
    have own : LineSound (s.trib p) → LineSound (u.trib p) := fun k => by
      have := line k
      rwa [← same] at this
    refine ⟨fun k => linesSound_iff.2 fun q => ?_, fun q ne => ?_⟩
    · obtain ⟨sound, valid⟩ := linesSound_iff.1 k q
      rw [timing]
      by_cases e : q = p
      · subst e; exact ⟨own sound, by rw [same, valid]⟩
      · rw [h.others q e]; exact ⟨sound, valid⟩
    · by_cases e : q = p
      · subst e; exact absurd same ne
      · exact absurd (congrArg Trib.rx (h.others q e)) ne
  · obtain ⟨change, own, posts⟩ := h.setRx same ne
    have rx : ((u.setRx p new).trib p).rx = new := by rw [own]
    refine ⟨fun k => linesSound_iff.2 fun q => ?_, fun q ne => ?_⟩
    · obtain ⟨sound, valid⟩ := linesSound_iff.1 k q
      by_cases e : q = p
      · subst e
        obtain ⟨legal, alarm, turn⟩ := line sound
        refine ⟨?_, change.valid⟩
        rw [own]
        exact ⟨legal, alarm, turn⟩
      · rw [change.others q e, change.candidate.others _ (by simpa using e)]
        exact ⟨sound, valid⟩
    · by_cases e : q = p
      · subst e; rw [rx]; exact posts.reported (by simp)
      · exact absurd (congrArg Trib.rx (change.others q e)) ne

/-- A line event that gives up the alignment and the alarm before the new state (R4, R6, R8, R2). -/
theorem Lined.restart (s : State) (p : TribId) (f : Trib → Trib) (new : RxState)
    (rx : (f (s.trib p)).rx = (s.trib p).rx) (remote : (f (s.trib p)).remoteAlarm = (s.trib p).remoteAlarm)
    (turn : (f (s.trib p)).alignNext = false)
    (legal : LineSound (s.trib p) → stateLegal (f (s.trib p)).cfg.kind new = true) :
    Lined s (((s.modTrib p f).clearRemoteAlarm p).setRx p new) := by
  have own : ((s.modTrib p f).clearRemoteAlarm p).trib p =
      { f (s.trib p) with remoteAlarm := false, onesRun := 0, zerosRun := 0 } := by
    rw [State.trib_clearRemoteAlarm, State.trib_modTrib_self]
  refine .setRx (LineStep.modTrib_clear s p f remote) (by rw [own]; exact rx) new fun k => ?_
  rw [own]
  exact .of_clear (legal k) rfl rfl rfl turn

/-! ## The line events (R4 to R10) -/

theorem Lined.inputLost (s : State) (p : TribId) : Lined s (s.inputLost p) := by
  unfold State.inputLost
  split
  · exact .refl s
  · exact .modTrib s p _ rfl fun h => ⟨h.legal, h.alarm, h.turn⟩
  · next off _ => exact .restart s p _ _ rfl rfl rfl fun h => (stateLegal_live h.legal off).1

theorem Lined.recoveryBlockBegins (p : TribId) (s : State) : Lined s (recoveryBlockBegins p s) :=
  .ite (.modTrib s p _ rfl fun h => ⟨h.legal, h.alarm, h.turn⟩) (.refl s)

/-- What a line without alignment keeps in another state without it. -/
theorem LineSound.move {x y : Trib} (h : LineSound x) (no : x.rx ≠ .aligned) (remote : y.remoteAlarm = x.remoteAlarm)
    (ones : y.onesRun = x.onesRun) (zeros : y.zerosRun = x.zerosRun) (turn : y.alignNext = x.alignNext)
    (legal : stateLegal y.cfg.kind y.rx = true) : LineSound y := by
  obtain ⟨r, o, z⟩ := h.alarm no
  exact .of_clear legal (remote.trans r) (ones.trans o) (zeros.trans z) (turn.trans (h.turn no))

theorem Lined.recoveryBlockComplete (p : TribId) (block : BitVec 512) (s : State) :
    Lined s (recoveryBlockComplete p block s) := by
  unfold Machine.recoveryBlockComplete
  simp only
  split
  · next e =>
    have step := LineStep.modTrib s p fun x => { x with recovery := false, blocks := 1, aisRun := 0 }
    refine .setRx step (by rw [State.trib_modTrib_self]) _ fun h => ?_
    rw [State.trib_modTrib_self]
    obtain ⟨-, ais, live⟩ := stateLegal_live h.legal (by rw [e]; exact nofun)
    refine h.move (by rw [e]; exact nofun) rfl rfl rfl rfl ?_
    simp only [Trib.live]
    split
    · exact ais
    · exact live
  · exact .refl s

theorem Lined.aisBlockComplete (p : TribId) (block : BitVec 512) (s : State) :
    Lined s (aisBlockComplete p block s) := by
  have own : ∀ f : Trib → Trib, (∀ x, SameLine x (f x)) → Lined s (s.modTrib p f) := fun f same =>
    .modTrib s p f (same _).rx fun h => h.of_same (same _)
  have tested : (s.trib p).rx.TestsAis → Lined s (Machine.aisBlockComplete p block s) := fun e => by
    rw [aisBlockComplete_testing e]
    simp only [State.modTrib_modTrib]
    refine .ite (.ite ?_ (own _ fun _ => ⟨rfl, rfl, rfl, rfl, rfl, rfl⟩))
      (own _ fun _ => ⟨rfl, rfl, rfl, rfl, rfl, rfl⟩)
    unfold State.enterAis
    simp only [State.modTrib_modTrib]
    exact .restart s p _ .ais rfl rfl rfl fun h =>
      (stateLegal_live h.legal (by rcases e with e | e | e <;> rw [e] <;> exact nofun)).2.1
  cases e : (s.trib p).rx with
  | off => simp only [Machine.aisBlockComplete, e]; exact .refl s
  | noSignal => simp only [Machine.aisBlockComplete, e]; exact .refl s
  | ais =>
    simp only [Machine.aisBlockComplete, e]
    refine .ite (own _ fun _ => ⟨rfl, rfl, rfl, rfl, rfl, rfl⟩) ?_
    refine .setRx (.modTrib s p _) (by rw [State.trib_modTrib_self]) _ fun h => ?_
    rw [State.trib_modTrib_self]
    exact h.move (by rw [e]; exact nofun) rfl rfl rfl rfl
      (stateLegal_live h.legal (by rw [e]; exact nofun)).2.2
  | search => exact tested (.inl e)
  | aligned => exact tested (.inr (.inl e))
  | present => exact tested (.inr (.inr e))

theorem Lined.alignmentFound (p : TribId) (window : BitVec 519) (s : State) :
    Lined s (alignmentFound p window s) := by
  unfold Machine.alignmentFound
  split
  · next e =>
    have search : (s.trib p).rx = .search := by simp at e; exact e.1
    have step := LineStep.modTrib s p fun x => { x with errorRun := 0, alignNext := false }
    refine .setRx step (by rw [State.trib_modTrib_self]) _ fun h => ?_
    rw [State.trib_modTrib_self]
    refine ⟨?_, fun no => absurd rfl no, fun no => absurd rfl no⟩
    change stateLegal (s.trib p).cfg.kind .aligned = true
    rw [stateLegal_framed h.legal (.inl search)]
    rfl
  · exact .refl s

theorem Lined.alignmentWord (p : TribId) (bits : BitVec 7) (s : State) : Lined s (alignmentWord p bits s) := by
  have own : (s.trib p).rx = .aligned → ∀ f : Trib → Trib, (∀ x, (f x).cfg = x.cfg ∧ (f x).rx = x.rx) →
      Lined s (s.modTrib p f) := fun e f same => by
    obtain ⟨cfg, rx⟩ := same (s.trib p)
    have still : (f (s.trib p)).rx = .aligned := rx.trans e
    refine .modTrib s p f rx fun h => ⟨?_, fun no => absurd still no, fun no => absurd still no⟩
    rw [cfg, rx]; exact h.legal
  unfold Machine.alignmentWord
  simp only
  split
  · next e =>
    have aligned : (s.trib p).rx = .aligned := by simp at e; exact e.1
    refine .ite (own aligned _ fun _ => ⟨rfl, rfl⟩) (.ite ?_ (own aligned _ fun _ => ⟨rfl, rfl⟩))
    unfold State.loseAlignment
    simp only [State.modTrib_modTrib]
    refine .restart s p _ .search rfl rfl rfl fun h => ?_
    change stateLegal (s.trib p).cfg.kind .search = true
    rw [stateLegal_framed h.legal (.inr aligned)]
    rfl
  · exact .refl s

theorem Trib.readAlarm_rx (x : Trib) (bit3 : Bool) :
    (x.readAlarm bit3).rx = x.rx ∧ (x.readAlarm bit3).cfg = x.cfg := by
  unfold Trib.readAlarm; split <;> exact ⟨rfl, rfl⟩

theorem Lined.nonAlignmentWord (p : TribId) (bit3 : Bool) (s : State) : Lined s (nonAlignmentWord p bit3 s) := by
  by_cases h : (s.trib p).rx = .aligned ∧ (s.trib p).alignNext = false
  · rw [nonAlignmentWord_due bit3 h.1 h.2]
    obtain ⟨rx, cfg⟩ := (s.trib p).readAlarm_rx bit3
    have still : ((s.trib p).readAlarm bit3).rx = .aligned := rx.trans h.1
    refine (Lined.modTrib s p _ rx fun k => ⟨?_, fun no => absurd still no, fun no => absurd still no⟩).andCalm
      (.postIf ..)
    change stateLegal ((s.trib p).readAlarm bit3).cfg.kind ((s.trib p).readAlarm bit3).rx = true
    rw [cfg, rx]; exact k.legal
  · rw [nonAlignmentWord_idle]
    · exact .refl s
    · rw [not_and_or] at h
      exact h.imp_right (by simp)

/-! ## The configuration of a port (R1 to R3) -/

theorem Lined.applyTrib (s : State) (p : TribId) (cfg : TribConfig) : Lined s (s.applyTrib p cfg) := by
  rw [State.applyTrib_eq]
  split
  · next e =>
    refine .modTrib s p _ rfl fun h => ⟨?_, h.alarm, h.turn⟩
    change stateLegal cfg.kind (s.trib p).rx = true
    rw [← e]; exact h.legal
  · unfold State.changeKind
    simp only [State.modTrib_modTrib]
    exact .restart s p _ _ rfl rfl rfl fun _ => stateLegal_restart _

theorem Lined.tribConfig (cp : CtrlPort) (port : Nat) (raw : RawTribConfig) (s : State) :
    Lined s (tribConfig cp port raw s) := by
  have refused : ∀ status, Lined s (s.refuse cp kindTribConfig status) := fun _ => (Calm.refuse ..).lined
  unfold Machine.tribConfig
  refine .ite (refused _) ?_
  split
  · exact refused _
  · next p _ =>
    refine .ite (refused _) ?_
    split
    · exact refused _
    · exact .ite (refused _) ((Lined.applyTrib s p _).andCalm (.decide ..))

theorem Lined.handOver {s : State} (cp : CtrlPort) (i : Instr) {work : State → State}
    (h : Lined s (work s)) : Lined s (s.handOver cp i work) :=
  .ite (Calm.ofCtrl s cp (fun c => { c with abandoned := c.abandoned.erase i }) (fun _ => rfl) (fun _ => rfl)
    fun _ => id).lined h

/-! ## Links (R54, R63) -/

/-- A port's link changes without touching a line. -/
theorem SameLines.modNet (s : State) (n : NetPort) (f : Net → Net) : SameLines s (s.modNet n f) :=
  ⟨fun _ => .refl _, fun _ => rfl⟩

theorem SameLines.loseLink (s : State) (n : NetPort) (back : Bool) : SameLines s (s.loseLink n back) := by
  unfold State.loseLink
  simp only
  split
  · exact ((SameLines.modNet ..).trans (Calm.cutOff ..).quiet.lines).trans (Calm.post ..).quiet.lines
  · exact .modNet ..

theorem Lined.linkIndicationLost (n : NetPort) (cut back : Bool) (s : State) :
    Lined s (linkIndicationLost n cut back s) := by
  refine .ite ?_ (.refl s)
  split
  · exact .of_same ((Calm.countCut s n).quiet.lines.trans (.loseLink ..))
  · exact .of_same (.loseLink ..)

theorem Lined.linkQualificationExpiry (n : NetPort) (s : State) : Lined s (linkQualificationExpiry n s) :=
  .ite (.of_same ((SameLines.modNet ..).trans (Calm.post ..).quiet.lines)) (.refl s)

/-! ## Events read, and the queue drained (R173) -/

theorem SameLines.modCtrl (s : State) (cp : CtrlPort) (f : Ctrl → Ctrl) : SameLines s (s.modCtrl cp f) :=
  ⟨fun _ => .refl _, fun _ => rfl⟩

theorem Lined.readEvents (cp : CtrlPort) (s : State) : Lined s (readEvents cp s) :=
  .of_same ((SameLines.modCtrl ..).trans (Calm.decide ..).quiet.lines)

/-! ## Sound lines through the resets and the image load -/

theorem linesSound_warmReset {s : State} (h : LinesSound s) (cp : CtrlPort) : LinesSound (warmReset cp s) := by
  by_cases loading : s.load = .loading
  · rw [show warmReset cp s = s.refuse cp kindWarmReset .loading from if_pos (by simp [State.loading, loading])]
    exact (Calm.refuse ..).lined.sound h
  · have trib : ∀ p, (warmReset cp s).trib p = (s.trib p).warm := fun p => by
      rw [(warmReset_spec loading cp).1]
      simp [State.trib, State.warmStarted, State.warmBundles]
    have timing : (warmReset cp s).timing = s.timing.warm := by
      rw [(warmReset_spec loading cp).1]; rfl
    refine linesSound_iff.2 fun p => ?_
    rw [trib, timing, Timing.candidate_warm_line, Trib.warm_eq]
    refine ⟨.of_clear (stateLegal_restart _) rfl rfl rfl rfl, ?_⟩
    change false = (restartState (s.trib p).cfg.kind).onLine
    cases (s.trib p).cfg.kind <;> rfl

theorem Lined.loadTrib (s : State) (x : Nat × RawTribConfig) : Lined s (s.loadTrib x) := by
  unfold State.loadTrib
  split
  · exact .ite (.refl s) (.applyTrib ..)
  · exact .refl s

theorem linesSound_foldl {α : Type} {f : State → α → State} (h : ∀ s x, LinesSound s → LinesSound (f s x))
    (xs : List α) {s : State} (k : LinesSound s) : LinesSound (xs.foldl f s) := by
  induction xs generalizing s with
  | nil => exact k
  | cons x xs ih => exact ih (h s x k)

/-- A stored record takes its place without touching a line. -/
theorem Steady.records (xs : List (Nat × RawRecord)) (p : Progress) :
    Steady p.state (xs.foldl Progress.record p).state := by
  induction xs generalizing p with
  | nil => exact .refl _
  | cons x xs ih =>
    refine Steady.trans ?_ (ih _)
    rw [Progress.record_state]
    split
    · exact .refl _
    · exact (Stated.loadRecord ..).steady

theorem linesSound_apply {p : Progress} (h : LinesSound p.state) (x : ImageSection) : LinesSound (p.apply x).state := by
  cases x with
  | settings x =>
    exact (Lined.of_same (s := p.state) (t := p.state.loadSettings x) ⟨fun _ => .refl _, fun _ => rfl⟩).sound h
  | tribs xs => exact linesSound_foldl (fun s x => (Lined.loadTrib s x).sound) xs h
  | timing x mode c => exact (Calm.loadTiming ..).lined.sound h
  | lists east west => exact (Calm.loadLists ..).lined.sound h
  | bundles xs => exact (Steady.records (ascending xs) p).lined.sound h
  | skipped => exact h

theorem linesSound_sections (xs : List ImageSection) {p : Progress} (h : LinesSound p.state) :
    LinesSound (xs.foldl Progress.apply p).state := by
  induction xs generalizing p with
  | nil => exact h
  | cons x xs ih => exact ih (linesSound_apply h x)

theorem Lined.settleClock (s : State) (p : TribId) : Lined s (s.settleClock p) := by
  unfold State.settleClock
  split
  · exact .ite (.refl s) (.modTrib s p _ rfl fun h => ⟨h.legal, h.alarm, h.turn⟩)
  · exact .refl s

theorem linesSound_imageLoad {s : State} (h : LinesSound s) (bs : List Byte) : LinesSound (imageLoad bs s) := by
  unfold Machine.imageLoad
  split
  · split
    · exact ((Calm.load s _).trans (.post ..)).lined.sound h
    · exact (((Calm.recordFault s _ _ _).trans (.load ..)).trans (.post ..)).lined.sound h
    · next xs _ =>
      have sections : LinesSound ((tableOrder xs).foldl Progress.apply ⟨s, 0, 0⟩).state := linesSound_sections _ h
      have settled := linesSound_foldl (fun s p => (Lined.settleClock s p).sound) allTribs sections
      exact ((Calm.load ..).trans (.post ..)).lined.sound settled
  · exact h

/-- A frame start moves no line. -/
theorem SameLines.transmitFrameStart (p : TribId) (upsets : List Upset) (s : State) :
    SameLines s (transmitFrameStart p upsets s) := by
  rcases transmitFrameStart_split p upsets s with h | h
  · rw [h]; exact .refl s
  · exact (Steady.openFrame s p upsets).1.lines.trans h.lines

theorem linesSound_exec {c : Instr} {s t : State} (h : LinesSound s) (e : exec c s = .next t) : LinesSound t := by
  by_cases quiet : c.quiet = true
  · exact (Retold.quiet_exec quiet e).quiet.steady.lined.sound h
  · cases c with
    | openEdit cp x => cases e; exact (Stated.handOver cp _ (.openEdit ..)).steady.lined.sound h
    | closeEdit cp x => cases e; exact (Stated.handOver cp _ (.closeEdit ..)).steady.lined.sound h
    | writePending cp b x => cases e; exact (Stated.handOver cp _ (.writePending ..)).steady.lined.sound h
    | activate cp b => cases e; exact (Stated.handOver cp _ (.activate ..)).steady.lined.sound h
    | free cp b => cases e; exact (Stated.handOver cp _ (.free ..)).steady.lined.sound h
    | idleTimerExpiry cp => cases e; exact (Stated.idleTimerExpiry ..).steady.lined.sound h
    | activationTakesEffect b => cases e; exact (Stated.activationTakesEffect ..).steady.lined.sound h
    | tribConfig cp p x => cases e; exact (Lined.handOver cp _ (.tribConfig ..)).sound h
    | readEvents cp => cases e; exact (Lined.handOver cp _ (.readEvents ..)).sound h
    | warmReset cp =>
      cases e
      unfold State.handOver
      split
      · exact (Calm.ofCtrl s cp (fun c => { c with abandoned := c.abandoned.erase _ }) (fun _ => rfl)
          (fun _ => rfl) fun _ => id).lined.sound h
      · exact linesSound_warmReset h cp
    | fullReset =>
      cases e
      exact (Lined.of_same (s := .reset) (t := fullReset s) ⟨fun _ => .refl _, fun _ => rfl⟩).sound reset_linesSound
    | imageLoad bs => cases e; exact linesSound_imageLoad h bs
    | lossOfSignal p => cases e; exact (Lined.inputLost ..).sound h
    | receiveClockTimeout p => cases e; exact (Lined.inputLost ..).sound h
    | recoveryBlockBegins p => cases e; exact (Lined.recoveryBlockBegins ..).sound h
    | recoveryBlockComplete p block => cases e; exact (Lined.recoveryBlockComplete ..).sound h
    | aisBlockComplete p block => cases e; exact (Lined.aisBlockComplete ..).sound h
    | alignmentFound p window => cases e; exact (Lined.alignmentFound ..).sound h
    | alignmentWord p bits => cases e; exact (Lined.alignmentWord ..).sound h
    | nonAlignmentWord p bit3 => cases e; exact (Lined.nonAlignmentWord ..).sound h
    | transmitFrameStart p upsets =>
      exact Host.Outcome.next.inj e ▸ (Lined.of_same (SameLines.transmitFrameStart p upsets s)).sound h
    | linkIndicationLost n cut back => cases e; exact (Lined.linkIndicationLost ..).sound h
    | linkQualificationExpiry n => cases e; exact (Lined.linkQualificationExpiry ..).sound h
    | recordPatrol reads =>
      exact Host.Outcome.next.inj e ▸
        ((Steady.readRecords reads s).1.trans (Quiet.patrols _).steady).lined.sound h
    | _ => exact absurd rfl quiet

/-- Settles O8. -/
theorem everyStepKeepsLines : Obligations.EveryStepKeepsLines := by
  intro s t sound h
  rcases step_cases h with ⟨-, rfl⟩ | ⟨c, rest, -, h⟩
  · exact (Lined.of_same (s := s) (t := s.tick) ⟨fun _ => .refl _, fun _ => rfl⟩).sound sound
  · exact linesSound_exec ((Calm.takeCommand s rest).lined.sound sound) h

end Sys2Proof.Machine
end

section
/-! The records in force and the claims that every step keeps (R2, R19, R22 to R25): O6. -/

namespace Sys2Proof.Machine

open Safety

/-! ## What a step keeps of the records -/

/-- The four invariants of the records, each kept on its own. -/
structure KeepsRecords (s t : State) : Prop where
  slots : SlotsExclusive s → SlotsExclusive t
  kinds : KindsMatch s → KindsMatch t
  payload : PayloadSound s → PayloadSound t
  claims : ClaimsSound s → ClaimsSound t

theorem KeepsRecords.refl (s : State) : KeepsRecords s s := ⟨id, id, id, id⟩

theorem KeepsRecords.trans {s t u : State} (h : KeepsRecords s t) (k : KeepsRecords t u) : KeepsRecords s u :=
  ⟨k.slots ∘ h.slots, k.kinds ∘ h.kinds, k.payload ∘ h.payload, k.claims ∘ h.claims⟩

theorem KeepsRecords.ite {s t u : State} {c : Prop} [Decidable c] (h : KeepsRecords s t) (k : KeepsRecords s u) :
    KeepsRecords s (if c then t else u) := by split <;> assumption

theorem KeepsRecords.foldl {α : Type} {f : State → α → State} (h : ∀ s x, KeepsRecords s (f s x)) (xs : List α)
    (s : State) : KeepsRecords s (xs.foldl f s) := by
  induction xs generalizing s with
  | nil => exact .refl s
  | cons x xs ih => exact (h s x).trans (ih (f s x))

/-- Every port keeps its kind. -/
def SameKinds (s t : State) : Prop := ∀ p, (t.trib p).cfg.kind = (s.trib p).cfg.kind

theorem SameLines.kinds {s t : State} (h : SameLines s t) : SameKinds s t := fun p => by rw [(h.line p).cfg]

/-- No record comes into force, and no port changes its kind. -/
theorem KeepsRecords.of_inForce {s t : State} (inForce : ∀ b r, InForce t b r → InForce s b r) (kinds : SameKinds s t)
    (pending : PayloadSound s → ∀ b, RecordSound (t.bun b).pending) (claims : ClaimsSound s → ClaimsSound t) :
    KeepsRecords s t where
  slots h b c q r ne hq hr := h b c q r ne (inForce b q hq) (inForce c r hr)
  kinds h b r hr := by rw [kinds]; exact h b r (inForce b r hr)
  payload h := ⟨pending h, fun b r hr => h.sound b r (inForce b r hr), fun b r hr => h.inForce b r (inForce b r hr)⟩
  claims := claims

theorem SameRecords.inForce {s t : State} {b : BundleId} (h : SameRecords (s.bun b) (t.bun b)) {r : Record}
    (k : InForce t b r) : InForce s b r := by
  unfold InForce Bundle.armedRecord at *
  rwa [h.active, h.pending, h.armed] at k

/-- Every record, claim and kind as it was. -/
theorem KeepsRecords.of_same {s t : State} (records : ∀ b, SameRecords (s.bun b) (t.bun b))
    (claims : t.claims = s.claims) (kinds : SameKinds s t) : KeepsRecords s t := by
  refine .of_inForce (fun b r => (records b).inForce) kinds (fun h b => ?_) fun h b free => ?_
  · rw [(records b).pending]; exact h.pending b
  · rw [(records b).armed, (records b).pending, (records b).active]
    exact h b (by simpa only [State.holder, claims] using free)

theorem Quiet.keepsRecords {s t : State} (h : Quiet s t) : KeepsRecords s t :=
  .of_same h.records h.claims h.lines.kinds

theorem Calm.keepsRecords {s t : State} (h : Calm s t) : KeepsRecords s t := h.quiet.keepsRecords

theorem Still.keepsRecords {s t : State} (h : Still s t) : KeepsRecords s t :=
  .of_same h.records h.claims h.lines.kinds

theorem KeepsRecords.handOver {s : State} (cp : CtrlPort) (i : Instr) {work : State → State}
    (h : KeepsRecords s (work s)) : KeepsRecords s (s.handOver cp i work) :=
  .ite (Calm.ofCtrl s cp (fun c => { c with abandoned := c.abandoned.erase i }) (fun _ => rfl) (fun _ => rfl)
    fun _ => id).keepsRecords h

/-! ## Lines and links: a change of kind needs a port no record in force names (R2) -/

/-- A record in force names its port (R2, R28). -/
theorem inForce_occupied {s : State} {b : BundleId} {r : Record} (h : InForce s b r) : s.occupied r.port = true := by
  unfold State.occupied
  rw [List.any_eq_true]
  refine ⟨b, by simp [allBundles], ?_⟩
  rcases h with h | h
  · simp [Bundle.isOn, h]
  · simp [h]

/-- A change of the lines that gives another kind only to a port that no record in force names. -/
theorem KeepsRecords.of_tribs {s t : State} (bundles : t.bundles = s.bundles) (claims : t.claims = s.claims)
    (kinds : ∀ p, (t.trib p).cfg.kind = (s.trib p).cfg.kind ∨ s.occupied p = false) : KeepsRecords s t := by
  have bun : ∀ b, t.bun b = s.bun b := fun b => by simp only [State.bun, bundles]
  have inForce : ∀ b r, InForce t b r → InForce s b r := fun b r h => by unfold InForce at *; rwa [bun] at h
  refine ⟨fun h b c q r ne hq hr => h b c q r ne (inForce b q hq) (inForce c r hr), fun h b r hr => ?_,
    fun h => ⟨fun b => by rw [bun]; exact h.pending b, fun b r hr => h.sound b r (inForce b r hr),
      fun b r hr => h.inForce b r (inForce b r hr)⟩, fun h b free => ?_⟩
  · have named := inForce b r hr
    rcases kinds r.port with same | free
    · rw [same]; exact h b r named
    · rw [inForce_occupied named] at free; cases free
  · rw [bun]; exact h b (by simpa only [State.holder, claims] using free)

/-- A step on the lines that moves no bundle, no link, no claim and no kind. -/
structure OnLines (s t : State) : Prop where
  bundles : t.bundles = s.bundles
  nets : t.nets = s.nets
  claims : t.claims = s.claims
  kinds : SameKinds s t

theorem OnLines.refl (s : State) : OnLines s s := ⟨rfl, rfl, rfl, fun _ => rfl⟩

theorem OnLines.trans {s t u : State} (h : OnLines s t) (k : OnLines t u) : OnLines s u :=
  ⟨k.bundles.trans h.bundles, k.nets.trans h.nets, k.claims.trans h.claims, fun p => (k.kinds p).trans (h.kinds p)⟩

theorem OnLines.ite {s t u : State} {c : Prop} [Decidable c] (h : OnLines s t) (k : OnLines s u) :
    OnLines s (if c then t else u) := by split <;> assumption

theorem OnLines.keepsRecords {s t : State} (h : OnLines s t) : KeepsRecords s t :=
  .of_tribs h.bundles h.claims fun p => .inl (h.kinds p)

theorem OnLines.modTrib (s : State) (p : TribId) (f : Trib → Trib)
    (cfg : (f (s.trib p)).cfg.kind = (s.trib p).cfg.kind := by rfl) :
    OnLines s (s.modTrib p f) := ⟨rfl, rfl, rfl, fun q => by
  rw [State.trib_modTrib]; split
  · next e => subst e; exact cfg
  · rfl⟩

theorem OnLines.clearRemoteAlarm (s : State) (p : TribId) : OnLines s (s.clearRemoteAlarm p) := by
  have frame := s.clearRemoteAlarm_frame p
  refine ⟨by rw [frame], by rw [frame], by rw [frame], fun q => ?_⟩
  by_cases e : q = p
  · subst e; rw [State.trib_clearRemoteAlarm]
  · rw [(LineStep.clearRemoteAlarm s p).others q e]

theorem OnLines.setRx (s : State) (p : TribId) (new : RxState) : OnLines s (s.setRx p new) := by
  have frame := s.setRx_frame p new
  refine ⟨by rw [frame], by rw [frame], by rw [frame], fun q => ?_⟩
  by_cases e : q = p
  · subst e
    by_cases h : (s.trib q).rx = new
    · rw [State.setRx_of_eq h]
    · rw [State.trib_setRx s q h]
  · rw [State.trib_setRx_ne s new e]

/-- The shape of a line event: the port's own change, remote alarm in cleared, the new receive state. -/
theorem OnLines.restart {s u : State} (h : OnLines s u) (p : TribId) (new : RxState) :
    OnLines s ((u.clearRemoteAlarm p).setRx p new) := (h.trans (.clearRemoteAlarm ..)).trans (.setRx ..)

theorem OnLines.inputLost (s : State) (p : TribId) : OnLines s (s.inputLost p) := by
  unfold State.inputLost
  split
  · exact .refl s
  · exact .modTrib s p _
  · exact (OnLines.modTrib s p _).restart p _

theorem OnLines.recoveryBlockBegins (p : TribId) (s : State) : OnLines s (recoveryBlockBegins p s) :=
  .ite (.modTrib s p _) (.refl s)

theorem OnLines.recoveryBlockComplete (p : TribId) (block : BitVec 512) (s : State) :
    OnLines s (recoveryBlockComplete p block s) :=
  .ite ((OnLines.modTrib s p _).trans (.setRx ..)) (.refl s)

theorem OnLines.aisBlockComplete (p : TribId) (block : BitVec 512) (s : State) :
    OnLines s (aisBlockComplete p block s) := by
  have counted : OnLines s (s.modTrib p fun x => { x with blocks := x.blocks + 1 }) := .modTrib s p _
  have run : ∀ u n, OnLines u (u.modTrib p fun x => { x with aisRun := n }) := fun u n =>
    .modTrib u p _
  have entered : ∀ u : State, OnLines u (u.enterAis p) := fun u => (OnLines.modTrib u p _).restart p _
  have tested := OnLines.ite (c := meetsAis block = true)
    (.ite (c := 1 ≤ (s.trib p).aisRun) (counted.trans (entered _)) (counted.trans (run _ 1)))
    (counted.trans (run _ 0))
  unfold Machine.aisBlockComplete
  simp only
  split
  · exact .refl s
  · exact .refl s
  · exact .ite counted (counted.trans (.setRx ..))
  · exact tested
  · exact tested
  · exact tested

theorem OnLines.alignmentFound (p : TribId) (window : BitVec 519) (s : State) :
    OnLines s (alignmentFound p window s) :=
  .ite ((OnLines.modTrib s p _).trans (.setRx ..)) (.refl s)

theorem OnLines.alignmentWord (p : TribId) (bits : BitVec 7) (s : State) : OnLines s (alignmentWord p bits s) := by
  have errored : OnLines s (s.modTrib p fun x =>
      { x with errorRun := x.errorRun + 1, alignNext := false, erroredWords := bump x.erroredWords }) :=
    .modTrib s p _
  refine .ite (.ite (.modTrib s p _) (.ite ?_ errored)) (.refl s)
  exact (errored.trans (.modTrib _ p _)).restart p _

theorem OnLines.nonAlignmentWord (p : TribId) (bit3 : Bool) (s : State) : OnLines s (nonAlignmentWord p bit3 s) := by
  have posted : ∀ (u : State) (c : Bool) (k : EventKind) (j : Subject) (d : Nat), OnLines u (u.postIf c k j d) :=
    fun u c k j d => by unfold State.postIf; split <;> exact ⟨rfl, rfl, rfl, fun _ => rfl⟩
  have read : ((s.trib p).readAlarm bit3).cfg.kind = (s.trib p).cfg.kind := by rw [((s.trib p).readAlarm_rx bit3).2]
  exact .ite ((OnLines.modTrib s p _ read).trans (posted ..)) (.refl s)

/-! ## The configuration of a port (R1, R2) -/

theorem KeepsRecords.applyTrib {s : State} {p : TribId} {cfg : TribConfig} (h : s.kindRefused p cfg.kind = false) :
    KeepsRecords s (s.applyTrib p cfg) := by
  have set : KeepsRecords s (s.modTrib p fun x => x.configured cfg) := .of_tribs rfl rfl fun q => by
    rw [State.trib_modTrib]
    split
    · next e =>
      subst e
      simp only [State.kindRefused, Bool.and_eq_false_iff, bne_eq_false_iff_eq] at h
      exact h.imp_left Eq.symm
    · exact .inl rfl
  rw [State.applyTrib_eq]
  exact .ite set (set.trans ((OnLines.modTrib _ p _).restart p _).keepsRecords)

theorem KeepsRecords.tribConfig (cp : CtrlPort) (port : Nat) (raw : RawTribConfig) (s : State) :
    KeepsRecords s (tribConfig cp port raw s) := by
  have refused : ∀ status, KeepsRecords s (s.refuse cp kindTribConfig status) := fun _ => (Calm.refuse ..).keepsRecords
  unfold Machine.tribConfig
  refine .ite (refused _) ?_
  split
  · exact refused _
  · next p _ =>
    refine .ite (refused _) ?_
    split
    · exact refused _
    · next cfg _ =>
      split
      · exact refused _
      · next free => exact (KeepsRecords.applyTrib (by simpa using free)).trans (Calm.decide ..).keepsRecords

/-! ## Records as written and as activated (R20 to R28) -/

/-- A record as stored has its slots and its FPP in their ranges (R20 step 5, R21). -/
theorem recordSound_of_stored {raw : RawRecord} {r : Record} {clamped : Bool} (h : raw.stored = some (r, clamped)) :
    RecordSound r := by
  unfold RawRecord.stored at h
  split at h
  · next sound =>
    simp only [Option.map_eq_some_iff, Prod.mk.injEq, RawRecord.coded, Option.bind_eq_bind, Option.bind_eq_some_iff,
      Option.pure_def, Option.some.injEq] at h
    obtain ⟨_, ⟨_, -, _, -, _, -, _, -, _, -, _, -, _, -, _, -, _, -, rfl⟩, rfl, -⟩ := h
    simp only [Bool.and_eq_true] at sound
    obtain ⟨fpp, -⟩ := clampNat_mem (lo := 1) (hi := 64) (by decide) raw.fpp
    have slots : 1 ≤ raw.slots.sorted.count ∧ raw.slots.sorted.count ≤ 32 := by
      cases e : raw.slots with
      | all => simp [SlotSet.sorted, SlotSet.count, SlotSet.toList]
      | list xs =>
        refine ⟨?_, (List.length_filter_le ..).trans (by simp)⟩
        obtain ⟨x, hx, low, high⟩ : ∃ x ∈ xs, 1 ≤ x ∧ x ≤ 31 := by
          rw [e] at sound
          cases xs with
          | nil => simp [SlotSet.sound] at sound
          | cons x xs =>
            have := sound.1
            simp [SlotSet.sound] at this
            exact ⟨x, by simp, this.2.1⟩
        refine List.length_pos_iff_exists_mem.2 ⟨x, ?_⟩
        change x ∈ (List.range 32).filter fun n => xs.contains n
        simp only [List.mem_filter, List.mem_range, List.contains_iff_mem, hx, and_true]
        omega
    exact ⟨slots.1, slots.2, fpp⟩
  · cases h

/-- A record whose payload has been brought within 512 bytes (R24). -/
theorem payloadClamp_spec {r : Record} (h : RecordSound r) : RecordSound (payloadClamp r) ∧
    1 ≤ (payloadClamp r).slots.count * (payloadClamp r).fpp ∧
    (payloadClamp r).slots.count * (payloadClamp r).fpp ≤ 512 := by
  obtain ⟨low, high, fpp⟩ := h
  unfold payloadClamp
  split
  · have fits : 1 ≤ 512 / r.slots.count := (Nat.one_le_div_iff (by omega)).2 (by omega)
    exact ⟨⟨low, high, fits⟩, Nat.mul_pos low fits, Nat.mul_div_le ..⟩
  · next le => exact ⟨⟨low, high, fpp⟩, Nat.mul_pos low fpp, by omega⟩

/-- Sizing the ring changes no more than max depth (R26). -/
theorem sizeRing_spec (r : Record) : (sizeRing r).1 = { r with maxDepth := (sizeRing r).1.maxDepth } := by
  unfold sizeRing raiseDepth
  simp only
  split <;> rfl

/-- Record `q` validated from `r`: of its port's kind, its slots its own, its payload within 512 bytes (R23 to
R25). -/
structure Validated (s : State) (b : BundleId) (r q : Record) : Prop where
  kind : kindMatches (s.trib q.port).cfg.kind q.slots = true
  own : ∀ c o, c ≠ b → InForce s c o → o.port = q.port → ∀ n, n ∈ q.slots.toList → n ∉ o.slots.toList
  sound : RecordSound r → RecordSound q ∧ 1 ≤ q.slots.count * q.fpp ∧ q.slots.count * q.fpp ≤ 512

theorem slotConflict_eq_false {r o : Record} (h : slotConflict r (some o) = false) (port : o.port = r.port) :
    ∀ n, n ∈ r.slots.toList → n ∉ o.slots.toList := fun n hn hm => by
  simp only [slotConflict, Bool.and_eq_false_iff, port] at h
  rcases h with h | h
  · simp at h
  · have := List.any_eq_false.1 h n hn
    simp [hm] at this

theorem Validated.of_validate {s : State} {b : BundleId} {r q : Record} {size : Nat}
    (h : s.validate b r = .ok (q, size)) : Validated s b r q := by
  unfold State.validate at h
  simp only at h
  split at h
  · cases h
  · next kind =>
    split at h
    · cases h
    · next free =>
      split at h
      · cases h
      · have e : q = (sizeRing (payloadClamp r)).1 := (congrArg Prod.fst (Except.ok.inj h)).symm
        have same : (payloadClamp r).port = r.port ∧ (payloadClamp r).slots = r.slots := by
          unfold payloadClamp; split <;> exact ⟨rfl, rfl⟩
        rw [sizeRing_spec] at e
        have port : q.port = r.port := by rw [e]; exact same.1
        have slots : q.slots = r.slots := by rw [e]; exact same.2
        refine ⟨by rw [port, slots]; simpa using kind, fun c o ne inForce hp n hn => ?_,
          fun sound => by rw [e]; exact payloadClamp_spec sound⟩
        have clear : s.conflicts b (payloadClamp r) = false := by simpa using free
        have none := List.any_eq_false.1 clear c (by simp [allBundles])
        simp only [bne_iff_ne, ne_eq, ne, not_false_eq_true, Bool.and_eq_true, true_and,
          Bool.or_eq_true, not_or, Bool.not_eq_true] at none
        have port' : o.port = (payloadClamp r).port := by rw [hp, port, same.1]
        rw [slots, ← same.2] at hn
        rcases inForce with active | armed
        · rw [active] at none; exact slotConflict_eq_false none.1 port' n hn
        · rw [armed] at none; exact slotConflict_eq_false none.2 port' n hn

/-- A validated record comes into force for its bundle, and no other (R28, R42). -/
theorem KeepsRecords.adopt {s t : State} {b : BundleId} {r q : Record} (valid : Validated s b r q)
    (inForce : ∀ c o, InForce t c o → InForce s c o ∨ c = b ∧ o = q) (kinds : SameKinds s t)
    (sound : PayloadSound s → RecordSound r)
    (pending : PayloadSound s → RecordSound q → ∀ c, RecordSound (t.bun c).pending)
    (claims : ClaimsSound s → ClaimsSound t) : KeepsRecords s t where
  slots h c d x y ne hx hy port n hn hm := by
    rcases inForce c x hx with old | ⟨rfl, rfl⟩ <;> rcases inForce d y hy with old' | ⟨rfl, rfl⟩
    · exact h c d x y ne old old' port n hn hm
    · exact valid.own c x ne old port n hm hn
    · exact valid.own d y ne.symm old' port.symm n hn hm
    · exact ne rfl
  kinds h c o ho := by
    rw [kinds]
    rcases inForce c o ho with old | ⟨-, rfl⟩
    · exact h c o old
    · exact valid.kind
  payload h := by
    obtain ⟨good, fits⟩ := valid.sound (sound h)
    refine ⟨pending h good, fun c o ho => ?_, fun c o ho => ?_⟩
    · rcases inForce c o ho with old | ⟨-, rfl⟩
      · exact h.sound c o old
      · exact good
    · rcases inForce c o ho with old | ⟨-, rfl⟩
      · exact h.inForce c o old
      · exact fits
  claims := claims

/-- Claims stay sound where the one bundle that changes is claimed. -/
theorem claimsSound_of_held {s t : State} {b : BundleId} (h : ClaimsSound s) (others : OtherBundles s t b)
    (claims : t.claims = s.claims) (held : s.holder (.bundle b) ≠ none) : ClaimsSound t := fun c free => by
  have free' : s.holder (.bundle c) = none := by simpa only [State.holder, claims] using free
  have ne : c ≠ b := fun e => held (e ▸ free')
  rw [others c ne]
  exact h c free'

theorem inForce_modBun {s : State} {b c : BundleId} {f : Bundle → Bundle} {o : Record}
    (h : InForce (s.modBun b f) c o) :
    c ≠ b ∧ InForce s c o ∨ c = b ∧ ((f (s.bun b)).active = some o ∨ (f (s.bun b)).armedRecord = some o) := by
  by_cases e : c = b
  · subst e
    unfold InForce at h
    rw [State.bun_modBun_self] at h
    exact .inr ⟨rfl, h⟩
  · unfold InForce at h
    rw [State.bun_modBun_ne _ _ e] at h
    exact .inl ⟨e, h⟩

theorem KeepsRecords.writePending (cp : CtrlPort) (b : Nat) (raw : RawRecord) (s : State) :
    KeepsRecords s (writePending cp b raw s) := by
  have refused : ∀ status, KeepsRecords s (s.refuse cp kindWritePending status) := fun _ =>
    (Calm.refuse ..).keepsRecords
  unfold Machine.writePending
  refine .ite (refused _) ?_
  split
  · exact refused _
  · next b _ =>
    split
    · exact refused _
    · next held =>
      split
      · exact refused _
      · next armed =>
        split
        · exact refused _
        · next r clamped stored =>
          have idle : (s.bun b).armed = none := by simpa using armed
          have set : KeepsRecords s (s.modBun b fun x => { x with pending := r }) → KeepsRecords s _ := fun h =>
            h.trans (Calm.decide _ cp kindWritePending (if clamped then .clamped else .ok) r.raw.bytes).keepsRecords
          refine set (.of_inForce (fun c o ho => ?_) (fun _ => rfl) (fun h c => ?_) fun h => ?_)
          · rcases inForce_modBun ho with ⟨-, old⟩ | ⟨rfl, new⟩
            · exact old
            · simpa [InForce, Bundle.armedRecord, idle] using new
          · rw [State.bun_modBun]
            split
            · exact recordSound_of_stored stored
            · exact h.pending c
          · refine claimsSound_of_held h (fun c ne => State.bun_modBun_ne _ _ ne) rfl fun e => ?_
            rw [e] at held
            exact held rfl

theorem KeepsRecords.activate (cp : CtrlPort) (b : Nat) (s : State) : KeepsRecords s (activate cp b s) := by
  have refused : ∀ status, KeepsRecords s (s.refuse cp kindActivate status) := fun _ =>
    (Calm.refuse ..).keepsRecords
  unfold Machine.activate
  refine .ite (refused _) ?_
  split
  · exact refused _
  · next b _ =>
    split
    · exact refused _
    · next held =>
      refine .ite (refused _) ?_
      split
      · exact refused _
      · next q size valid =>
        have set : KeepsRecords s (s.modBun b fun x => { x with pending := q, armed := some size }) →
            KeepsRecords s _ := fun h => h.trans (Calm.decide _ cp kindActivate
          (if q != (s.bun b).pending then .clamped else .ok) q.raw.bytes).keepsRecords
        refine set (.adopt (.of_validate valid) (fun c o ho => ?_) (fun _ => rfl)
          (fun h => h.pending b) (fun h good c => ?_) fun h => ?_)
        · rcases inForce_modBun ho with ⟨-, old⟩ | ⟨rfl, active | new⟩
          · exact .inl old
          · exact .inl (.inl active)
          · exact .inr ⟨rfl, (Option.some.inj new).symm⟩
        · rw [State.bun_modBun]
          split
          · exact good
          · exact h.pending c
        · refine claimsSound_of_held h (fun c ne => State.bun_modBun_ne _ _ ne) rfl fun e => ?_
          rw [e] at held
          exact held rfl

/-! ## Records that take effect (R29, R42) -/

/-- A bundle that has just taken a record is unclaimed, its pending record the active one, nothing armed. -/
theorem claimsSound_recorded {s : State} (h : ClaimsSound s) (b : BundleId) (r : Record) (size : Nat) :
    ClaimsSound (s.recorded b r size) := fun c free => by
  rw [State.bun_recorded]
  split
  · exact ⟨rfl, rfl⟩
  · next ne =>
    refine h c ?_
    unfold State.recorded at free
    rwa [State.holder_setHolder_ne _ _ (by simpa using ne)] at free

theorem inForce_recorded {s : State} {b c : BundleId} {r o : Record} {size : Nat}
    (h : InForce (s.recorded b r size) c o) : c ≠ b ∧ InForce s c o ∨ c = b ∧ o = r := by
  unfold InForce at h
  rw [State.bun_recorded] at h
  split at h
  · next e => exact .inr ⟨e, by simpa [Bundle.armedRecord, eq_comm] using h⟩
  · next e => exact .inl ⟨e, h⟩

theorem KeepsRecords.activationTakesEffect (b : BundleId) (s : State) :
    KeepsRecords s (activationTakesEffect b s) := by
  unfold Machine.activationTakesEffect
  split
  · exact .refl s
  · next size armed =>
    refine KeepsRecords.trans (t := s.recorded b (s.bun b).pending size) (.of_inForce (fun c o ho => ?_)
      (fun _ => rfl) (fun h c => ?_) fun h => claimsSound_recorded h _ _ _) (Retold.takeEffect ..).quiet.keepsRecords
    · rcases inForce_recorded ho with ⟨-, old⟩ | ⟨rfl, rfl⟩
      · exact old
      · exact .inr (by simp [Bundle.armedRecord, armed])
    · rw [State.bun_recorded]
      split
      · exact h.pending b
      · exact h.pending c

theorem KeepsRecords.loadRecord (s : State) (b : BundleId) (raw : RawRecord) :
    KeepsRecords s (s.loadRecord b raw).1 := by
  have refused : ∀ status, KeepsRecords s (s.loadRefused b status) := fun _ => (Calm.post ..).keepsRecords
  unfold State.loadRecord
  split
  · exact refused _
  · split
    · exact refused _
    · next r _ stored =>
      split
      · exact refused _
      · next q size valid =>
        refine KeepsRecords.trans (t := s.recorded b q size) (.adopt (.of_validate valid) (fun c o ho => ?_)
          (fun _ => rfl) (fun _ => recordSound_of_stored stored) (fun h good c => ?_) fun h =>
            claimsSound_recorded h _ _ _)
          (Retold.takeEffect s b q size).quiet.keepsRecords
        · rcases inForce_recorded ho with ⟨-, old⟩ | ⟨rfl, rfl⟩
          · exact .inl old
          · exact .inr ⟨rfl, rfl⟩
        · rw [State.bun_recorded]
          split
          · exact good
          · exact h.pending c

/-! ## Claims (R22, R38, R171, R172) -/

theorem KeepsRecords.claim (s : State) (sec : Machine.Section) (cp : CtrlPort) :
    KeepsRecords s (s.setHolder sec (some cp)) := by
  refine .of_inForce (fun _ _ => id) (fun _ => rfl) (fun h => h.pending) fun h b free => ?_
  by_cases e : Machine.Section.bundle b = sec
  · subst e; rw [State.holder_setHolder_self] at free; cases free
  · rw [State.holder_setHolder_ne _ _ e] at free
    exact h b free

theorem KeepsRecords.openEdit (cp : CtrlPort) (raw : RawSection) (s : State) : KeepsRecords s (openEdit cp raw s) := by
  unfold Machine.openEdit
  refine .ite (Calm.refuse ..).keepsRecords ?_
  split
  · exact (Calm.refuse ..).keepsRecords
  · exact .ite (Calm.refuse ..).keepsRecords ((KeepsRecords.claim ..).trans (Calm.decide ..).keepsRecords)

theorem Bundle.returnPending_records (x : Bundle) : x.returnPending.active = x.active ∧
    x.returnPending.armed = x.armed ∧ x.returnPending.armedRecord = x.armedRecord ∧
    (x.armed = none → x.returnPending.pending = x.active.getD Record.default) ∧
    (x.returnPending.pending = x.pending ∨ x.returnPending.pending = x.active.getD Record.default) := by
  unfold Bundle.returnPending
  cases e : x.armed with
  | none => simp [e, Bundle.armedRecord]
  | some size => simp [e, Bundle.armedRecord]

/-- A claim released with nothing armed leaves its pending record as R22 has it. -/
theorem State.bun_release (s : State) (sec : Machine.Section) (c : BundleId) :
    (s.release sec).bun c = if sec = .bundle c then (s.bun c).returnPending else s.bun c := by
  unfold State.release
  cases sec with
  | bundle b =>
    simp only [Machine.Section.bundle.injEq]
    rw [State.bun_modBun]
    by_cases e : c = b
    · subst e; rw [if_pos rfl, if_pos rfl]; rfl
    · rw [if_neg e, if_neg (Ne.symm e)]; rfl
  | trib p => rfl
  | list n => rfl
  | timing => rfl
  | settings => rfl

theorem State.holder_release (s : State) (sec other : Machine.Section) :
    (s.release sec).holder other = if other = sec then none else s.holder other := by
  have e : (s.release sec).holder other = (s.setHolder sec none).holder other := by
    unfold State.release; cases sec <;> rfl
  rw [e]
  split
  · next h => rw [h]; exact State.holder_setHolder_self ..
  · next h => exact State.holder_setHolder_ne _ _ h

theorem State.armed_release (s : State) (sec : Machine.Section) (c : BundleId) :
    ((s.release sec).bun c).armed = (s.bun c).armed := by
  rw [State.bun_release]; split
  · exact (s.bun c).returnPending_records.2.1
  · rfl

theorem KeepsRecords.release {s : State} {sec : Machine.Section} (h : s.armedSection sec = false) :
    KeepsRecords s (s.release sec) := by
  have same : ∀ c, ((s.release sec).bun c).active = (s.bun c).active ∧
      ((s.release sec).bun c).armedRecord = (s.bun c).armedRecord := fun c => by
    obtain ⟨active, -, armed, -⟩ := (s.bun c).returnPending_records
    rw [State.bun_release]; split
    · exact ⟨active, armed⟩
    · exact ⟨rfl, rfl⟩
  refine .of_inForce (fun c o ho => ?_) ?_ (fun k c => ?_) fun k c free => ?_
  · unfold InForce at *; rwa [(same c).1, (same c).2] at ho
  · intro p; unfold State.release; cases sec <;> rfl
  · rw [State.bun_release]
    split
    · rcases (s.bun c).returnPending_records.2.2.2.2 with e | e
      · rw [e]; exact k.pending c
      · rw [e]
        cases active : (s.bun c).active with
        | none => exact RecordSound.default
        | some r => exact k.sound c r (.inl active)
    · exact k.pending c
  · rw [State.holder_release] at free
    rw [State.armed_release, (same c).1]
    by_cases e : Machine.Section.bundle c = sec
    · subst e
      have idle : (s.bun c).armed = none := by simpa [State.armedSection] using h
      rw [State.bun_release, if_pos rfl]
      exact ⟨idle, (s.bun c).returnPending_records.2.2.2.1 idle⟩
    · rw [if_neg e] at free
      rw [State.bun_release, if_neg (Ne.symm e)]
      exact k c free

theorem KeepsRecords.closeEdit (cp : CtrlPort) (raw : RawSection) (s : State) :
    KeepsRecords s (closeEdit cp raw s) := by
  unfold Machine.closeEdit
  refine .ite (Calm.refuse ..).keepsRecords ?_
  split
  · exact (Calm.refuse ..).keepsRecords
  · refine .ite (Calm.refuse ..).keepsRecords ?_
    split
    · exact (Calm.refuse ..).keepsRecords
    · next idle => exact (KeepsRecords.release (by simpa using idle)).trans (Calm.decide ..).keepsRecords

/-- Releasing arms nothing. -/
theorem State.armedSection_release (s : State) (sec other : Machine.Section) :
    (s.release sec).armedSection other = s.armedSection other := by
  cases other with
  | bundle c => simp only [State.armedSection, State.armed_release]
  | _ => rfl

theorem KeepsRecords.releases {secs : List Machine.Section} {s : State} (h : ∀ sec ∈ secs, s.armedSection sec = false) :
    KeepsRecords s (secs.foldl State.release s) := by
  induction secs generalizing s with
  | nil => exact .refl s
  | cons sec secs ih =>
    refine (KeepsRecords.release (h sec List.mem_cons_self)).trans (ih fun other ho => ?_)
    rw [State.armedSection_release]
    exact h other (List.mem_cons_of_mem _ ho)

theorem KeepsRecords.idleTimerExpiry (cp : CtrlPort) (s : State) : KeepsRecords s (idleTimerExpiry cp s) := by
  unfold Machine.idleTimerExpiry
  split
  · refine ((Calm.stopIdle s cp).keepsRecords.trans (.releases fun sec h => ?_)).trans (Calm.postIf ..).keepsRecords
    simp only [State.expiring, List.mem_filter, Bool.and_eq_true, Bool.not_eq_true'] at h
    exact h.2.2
  · exact .refl s

/-! ## FREE and the resets (R38, R43) -/

theorem KeepsRecords.freeBundle (s : State) (b : BundleId) : KeepsRecords s (s.freeBundle b) := by
  refine .of_inForce (fun c o ho => ?_) (fun _ => rfl) (fun h c => ?_) fun h c free => ?_
  · unfold InForce at *
    rw [State.bun_freeBundle] at ho
    split at ho
    · rcases ho with ho | ho <;> cases ho
    · exact ho
  · rw [State.bun_freeBundle]
    split
    · exact RecordSound.default
    · exact h.pending c
  · rw [State.bun_freeBundle]
    split
    · exact ⟨rfl, rfl⟩
    · next ne =>
      refine h c ?_
      have e : (s.freeBundle b).holder (.bundle c) = (s.setHolder (.bundle b) none).holder (.bundle c) := rfl
      rwa [e, State.holder_setHolder_ne _ _ (by simpa using ne)] at free

theorem KeepsRecords.free (cp : CtrlPort) (b : Nat) (s : State) : KeepsRecords s (free cp b s) := by
  unfold Machine.free
  refine .ite (Calm.refuse ..).keepsRecords ?_
  split
  · exact (Calm.refuse ..).keepsRecords
  · exact .ite (Calm.refuse ..).keepsRecords (.ite (Calm.refuse ..).keepsRecords (.ite (Calm.refuse ..).keepsRecords
      ((KeepsRecords.freeBundle ..).trans (Calm.decide ..).keepsRecords)))

theorem Bundle.warm_records (x : Bundle) (timer : Record → Timer) :
    ((x.warm timer).retargeted).active = x.active ∧ ((x.warm timer).retargeted).armed = none ∧
      ((x.warm timer).retargeted).pending = x.active.getD Record.default := by
  unfold Bundle.warm
  cases e : x.active with
  | none => exact ⟨rfl, rfl, rfl⟩
  | some r => exact ⟨rfl, rfl, rfl⟩

theorem KeepsRecords.warmReset (cp : CtrlPort) (s : State) : KeepsRecords s (warmReset cp s) := by
  by_cases loading : s.load = .loading
  · rw [show Machine.warmReset cp s = s.refuse cp kindWarmReset .loading from
      if_pos (by simp [State.loading, loading])]
    exact (Calm.refuse ..).keepsRecords
  · obtain ⟨frame, each⟩ := warmReset_spec loading cp
    have records : ∀ b, ((Machine.warmReset cp s).bun b).active = (s.bun b).active ∧
        ((Machine.warmReset cp s).bun b).armed = none ∧
        ((Machine.warmReset cp s).bun b).pending = (s.bun b).active.getD Record.default := fun b => by
      rw [each]; exact Bundle.warm_records ..
    refine .of_inForce (fun b r h => ?_) (fun p => ?_) (fun h b => ?_) fun _ b _ => ?_
    · obtain ⟨active, armed, -⟩ := records b
      simp only [InForce, Bundle.armedRecord, active, armed, Option.map_none, reduceCtorEq, or_false] at h
      exact .inl h
    · rw [frame]
      change (s.warmStarted.trib p).cfg.kind = _
      rw [show s.warmStarted.trib p = (s.trib p).warm by simp [State.trib, State.warmStarted, State.warmBundles],
        Trib.warm_eq]
    · rw [(records b).2.2]
      cases active : (s.bun b).active with
      | none => exact RecordSound.default
      | some r => exact h.sound b r (.inl active)
    · obtain ⟨active, armed, pending⟩ := records b
      exact ⟨armed, by rw [pending, active]⟩

theorem KeepsRecords.fullReset (s : State) : KeepsRecords s (fullReset s) := by
  obtain ⟨-, -, -, slots, kinds, payload, claims, -⟩ := resetMeetsEveryInvariant
  exact ⟨fun _ => slots, fun _ => kinds, fun _ => ⟨payload.pending, payload.sound, payload.inForce⟩, fun _ => claims⟩

/-! ## The image load (R18, R42, R176) -/

theorem KeepsRecords.loadTrib (s : State) (x : Nat × RawTribConfig) : KeepsRecords s (s.loadTrib x) := by
  unfold State.loadTrib
  split
  · split
    · exact .refl s
    · next free => exact .applyTrib (by simpa using free)
  · exact .refl s

theorem KeepsRecords.records (xs : List (Nat × RawRecord)) (p : Progress) :
    KeepsRecords p.state (xs.foldl Progress.record p).state := by
  induction xs generalizing p with
  | nil => exact .refl _
  | cons x xs ih =>
    refine KeepsRecords.trans ?_ (ih _)
    rw [Progress.record_state]
    split
    · exact .refl _
    · exact .loadRecord ..

theorem KeepsRecords.apply (p : Progress) (x : ImageSection) : KeepsRecords p.state (p.apply x).state := by
  cases x with
  | settings x =>
    exact .of_same (t := p.state.loadSettings x) (fun _ => .refl _) rfl fun _ => rfl
  | tribs xs => exact .foldl .loadTrib ..
  | timing x mode c => exact (Calm.loadTiming ..).keepsRecords
  | lists east west => exact (Calm.loadLists ..).keepsRecords
  | bundles xs => exact .records _ p
  | skipped => exact .refl _

theorem KeepsRecords.sections (xs : List ImageSection) (p : Progress) :
    KeepsRecords p.state (xs.foldl Progress.apply p).state := by
  induction xs generalizing p with
  | nil => exact .refl _
  | cons x xs ih => exact (KeepsRecords.apply p x).trans (ih _)

theorem OnLines.settleClock (s : State) (p : TribId) : OnLines s (s.settleClock p) := by
  unfold State.settleClock
  split
  · exact .ite (.refl s) (.modTrib s p _)
  · exact .refl s

theorem KeepsRecords.imageLoad (bs : List Byte) (s : State) : KeepsRecords s (imageLoad bs s) := by
  refine .ite ?_ (.refl s)
  split
  · exact ((Calm.load s _).trans (.post ..)).keepsRecords
  · exact (((Calm.recordFault s _ _ _).trans (.load ..)).trans (.post ..)).keepsRecords
  · exact ((KeepsRecords.sections _ ⟨s, 0, 0⟩).trans (.foldl (fun s p =>
    (OnLines.settleClock s p).keepsRecords) ..)).trans
      ((Calm.load ..).trans (.post ..)).keepsRecords

/-! ## The frame start and the links -/

theorem KeepsRecords.activateFor (p : TribId) (s : State) (b : BundleId) : KeepsRecords s (s.activateFor p b) :=
  .ite (.activationTakesEffect b s) (.refl s)

theorem KeepsRecords.transmitFrameStart (p : TribId) (upsets : List Upset) (s : State) :
    KeepsRecords s (transmitFrameStart p upsets s) := by
  have upset : Calm s (upsets.foldl State.applyUpset s) := .foldl .applyUpset ..
  rcases transmitFrameStart_split p upsets s with h | h
  · rw [h]; exact .refl s
  · refine KeepsRecords.trans ?_ h.keepsRecords
    rw [State.openFrame_eq]
    exact ((upset.trans (.steeringIntervalEnd ..)).keepsRecords.trans (.foldl (.activateFor p) ..)).trans
      (Calm.latchTiming ..).keepsRecords

theorem KeepsRecords.loseLink (s : State) (n : NetPort) (back : Bool) : KeepsRecords s (s.loseLink n back) := by
  have down : KeepsRecords s (s.modNet n fun x =>
      { x with up := false, indication := back, qualification := if back then s.qualifyTimer else none }) :=
    .of_same (fun _ => .refl _) rfl fun _ => rfl
  exact .ite (down.trans ((Calm.cutOff ..).trans (.post ..)).keepsRecords) down

theorem KeepsRecords.linkIndicationLost (n : NetPort) (cut back : Bool) (s : State) :
    KeepsRecords s (linkIndicationLost n cut back s) := by
  refine .ite ?_ (.refl s)
  split
  · exact (Calm.countCut s n).keepsRecords.trans (.loseLink ..)
  · exact .loseLink ..

theorem KeepsRecords.linkQualificationExpiry (n : NetPort) (s : State) :
    KeepsRecords s (linkQualificationExpiry n s) := by
  have up : KeepsRecords s (s.modNet n fun x => { x with up := true, qualification := none }) :=
    .of_same (fun _ => .refl _) rfl fun _ => rfl
  exact .ite (up.trans (Calm.post ..).keepsRecords) (.refl s)

theorem KeepsRecords.readEvents (cp : CtrlPort) (s : State) : KeepsRecords s (readEvents cp s) := by
  have drained : KeepsRecords s (s.modCtrl cp fun c => c.drain cp s.eventTime) :=
    .of_same (fun _ => .refl _) rfl fun _ => rfl
  exact drained.trans (Calm.decide ..).keepsRecords

theorem KeepsRecords.exec {c : Instr} {s t : State} (sound : Uncorrupted c) (h : exec c s = .next t) :
    KeepsRecords s t := by
  by_cases quiet : c.quiet = true
  · exact (Retold.quiet_exec quiet h).quiet.keepsRecords
  · cases c with
    | openEdit cp x => cases h; exact .handOver cp _ (.openEdit ..)
    | closeEdit cp x => cases h; exact .handOver cp _ (.closeEdit ..)
    | writePending cp b x => cases h; exact .handOver cp _ (.writePending ..)
    | activate cp b => cases h; exact .handOver cp _ (.activate ..)
    | free cp b => cases h; exact .handOver cp _ (.free ..)
    | idleTimerExpiry cp => cases h; exact .idleTimerExpiry ..
    | activationTakesEffect b => cases h; exact .activationTakesEffect ..
    | tribConfig cp p x => cases h; exact .handOver cp _ (.tribConfig ..)
    | readEvents cp => cases h; exact .handOver cp _ (.readEvents ..)
    | warmReset cp => cases h; exact .handOver cp _ (.warmReset ..)
    | fullReset => cases h; exact .fullReset s
    | imageLoad bs => cases h; exact .imageLoad ..
    | lossOfSignal p => cases h; exact (OnLines.inputLost ..).keepsRecords
    | receiveClockTimeout p => cases h; exact (OnLines.inputLost ..).keepsRecords
    | recoveryBlockBegins p => cases h; exact (OnLines.recoveryBlockBegins ..).keepsRecords
    | recoveryBlockComplete p block => cases h; exact (OnLines.recoveryBlockComplete ..).keepsRecords
    | aisBlockComplete p block => cases h; exact (OnLines.aisBlockComplete ..).keepsRecords
    | alignmentFound p window => cases h; exact (OnLines.alignmentFound ..).keepsRecords
    | alignmentWord p bits => cases h; exact (OnLines.alignmentWord ..).keepsRecords
    | nonAlignmentWord p bit3 => cases h; exact (OnLines.nonAlignmentWord ..).keepsRecords
    | transmitFrameStart p upsets => exact Host.Outcome.next.inj h ▸ .transmitFrameStart ..
    | linkIndicationLost n cut back => cases h; exact .linkIndicationLost ..
    | linkQualificationExpiry n => cases h; exact .linkQualificationExpiry ..
    | recordPatrol reads =>
      obtain rfl : reads = [] := sound
      exact Host.Outcome.next.inj h ▸ (Quiet.patrols s).keepsRecords
    | _ => exact absurd rfl quiet

/-- Settles O6. -/
theorem everyStepKeepsTheRecordsInForce : Obligations.EveryStepKeepsTheRecordsInForce := by
  intro s t sound h
  have kept : KeepsRecords s t := by
    rcases step_cases h with ⟨-, rfl⟩ | ⟨c, rest, e, h⟩
    · exact .of_same (fun _ => .refl _) rfl fun _ => rfl
    · exact (Calm.takeCommand s rest).keepsRecords.trans (.exec (sound c rest e) h)
  exact ⟨kept.slots, kept.kinds, kept.payload, kept.claims⟩

end Sys2Proof.Machine
end

section
/-! TRIB_CONFIG (R1 to R3): O31. -/

namespace Sys2Proof.Machine

open Safety

/-! ## Codes (Table 5) -/

@[simp] theorem TribKind.ofCode_code (k : TribKind) : TribKind.ofCode k.code = some k := by cases k <;> rfl

@[simp] theorem AlertBit.ofCode_code (x : AlertBit) : AlertBit.ofCode x.code = some x := by cases x <;> rfl

theorem TribKind.ofCode_eq_none {n : Nat} (h : 3 ≤ n) : TribKind.ofCode n = none := by
  match n, h with
  | n + 3, _ => rfl

theorem AlertBit.ofCode_eq_none {n : Nat} (h : 6 ≤ n) : AlertBit.ofCode n = none := by
  match n, h with
  | n + 6, _ => rfl

theorem clampNat_eq (lo hi n : Nat) : clampNat lo hi n = max lo (min n hi) := rfl

/-! ## The checks of R1 to R3 -/

/-- Some record in force names the port exactly where R2 counts it occupied. -/
theorem named_iff_occupied {s : State} {p : TribId} : Named s p ↔ s.occupied p = true := by
  constructor
  · rintro ⟨b, r, h, rfl⟩
    exact inForce_occupied h
  · intro h
    obtain ⟨b, -, h⟩ := List.any_eq_true.1 h
    rcases Bool.or_eq_true_iff.1 h with h | h
    · cases e : (s.bun b).active with
      | none => simp [Bundle.isOn, e] at h
      | some r => exact ⟨b, r, .inl e, by simpa [Bundle.isOn, e] using h⟩
    · obtain ⟨r, e, rfl⟩ := Option.map_eq_some_iff.1 (beq_iff_eq.1 h)
      exact ⟨b, r, .inr e, rfl⟩

/-- R3 refuses a STEERED clock other than the configured one, its bundle off the port or the port DISABLED. -/
theorem State.clockAccepted_steered {s : State} {p : TribId} {kind : TribKind} {b : BundleId} :
    s.clockAccepted p kind (.steered b) = true ↔ (s.trib p).cfg.clock = .steered b ∨
      ((s.trib p).cfg.kind ≠ .disabled ∧ kind ≠ .disabled) ∧ (s.bun b).isOn p = true := by
  simp [State.clockAccepted]

theorem State.clockAccepted_other {s : State} {p : TribId} {kind : TribKind} {clock : TxClock}
    (h : ∀ b, clock ≠ .steered b) : s.clockAccepted p kind clock = true := by
  cases clock with
  | steered b => exact absurd rfl (h b)
  | _ => rfl

/-- A field outside Table 5, or a transmit clock that R3 refuses (R1 step 4). -/
def RefusedFields (s : State) (p : TribId) (raw : RawTribConfig) : Prop :=
  3 ≤ raw.kind ∨ 6 ≤ raw.alert ∨ raw.txClock = none ∨
    ∃ b, raw.txClock = some (.steered b) ∧ (s.trib p).cfg.clock ≠ .steered b ∧
      ((s.bun b).isOn p = false ∨ raw.kind = 0 ∨ (s.trib p).cfg.kind = .disabled)

theorem State.tribRequest_eq_none {s : State} {p : TribId} {raw : RawTribConfig} (h : RefusedFields s p raw) :
    s.tribRequest p raw = none := by
  by_contra some
  obtain ⟨cfg, e⟩ := Option.ne_none_iff_exists'.1 some
  obtain ⟨clock, hc, typed, accepted⟩ := State.tribRequest_eq_some.1 e
  simp only [RawTribConfig.typed, Option.bind_eq_bind, Option.bind_eq_some_iff, Option.pure_def,
    Option.some.injEq] at typed
  obtain ⟨kind, hk, alert, ha, rfl⟩ := typed
  rcases h with h | h | h | ⟨b, hb, other, h⟩
  · rw [TribKind.ofCode_eq_none h] at hk; cases hk
  · rw [AlertBit.ofCode_eq_none h] at ha; cases ha
  · rw [h] at hc; cases hc
  · obtain rfl : clock = .steered b := Option.some.inj (hc.symm.trans hb)
    obtain ⟨⟨before, after⟩, on⟩ := (State.clockAccepted_steered.1 accepted).resolve_left other
    rcases h with h | h | h
    · rw [on] at h; cases h
    · rw [h] at hk; exact after (Option.some.inj hk).symm
    · exact before h

/-- What a TRIB_CONFIG asks for, where no field is refused (R1 steps 4 and 6). -/
theorem State.tribRequest_of_fields {s : State} {p : TribId} {raw : RawTribConfig} {cfg : TribConfig}
    (kind : cfg.kind.code = raw.kind) (alert : cfg.alert.code = raw.alert) (clock : raw.txClock = some cfg.clock)
    (idle : cfg.idle = raw.idle) (ais : cfg.aisWhenDown = raw.aisWhenDown) (kp : cfg.kp = max 6 (min raw.kp 18))
    (ki : cfg.ki = max 8 (min raw.ki 20))
    (steered : ∀ b, cfg.clock = .steered b → (s.trib p).cfg.clock = .steered b ∨ (s.bun b).isOn p = true ∧
      cfg.kind ≠ .disabled ∧ (s.trib p).cfg.kind ≠ .disabled) : s.tribRequest p raw = some cfg := by
  refine State.tribRequest_eq_some.2 ⟨cfg.clock, clock, ?_, ?_⟩
  · simp only [RawTribConfig.typed, ← kind, ← alert, TribKind.ofCode_code, AlertBit.ofCode_code, clampNat_eq, ← kp,
      ← ki, ← idle, ← ais]
    rfl
  · by_cases h : ∃ b, cfg.clock = .steered b
    · obtain ⟨b, e⟩ := h
      rw [e, State.clockAccepted_steered]
      exact (steered b e).imp_right fun ⟨on, after, before⟩ => ⟨⟨before, after⟩, on⟩
    · exact State.clockAccepted_other fun b e => h ⟨b, e⟩

theorem tribConfig_eq {s : State} (loaded : s.load ≠ .loading) (cp : CtrlPort) (p : TribId) (raw : RawTribConfig) :
    tribConfig cp p.val raw s =
      if s.holder (.trib p) ≠ some cp then s.refuse cp kindTribConfig .notHeld
      else match s.tribRequest p raw with
        | none => s.refuse cp kindTribConfig .badValue
        | some cfg =>
          if s.kindRefused p cfg.kind then s.refuse cp kindTribConfig .badState
          else (s.applyTrib p cfg).decide cp kindTribConfig (if raw.shiftsInRange then .ok else .clamped)
            cfg.raw.bytes := by
  unfold tribConfig
  rw [if_neg (by simpa [State.loading] using loaded), tribOf_val]
  refine if_congr bne_iff_ne rfl ?_
  cases s.tribRequest p raw <;> rfl

/-! ## The configuration applied (R1, R2, R162) -/

/-- What the control ports and nothing else show of events posted and a request then decided. -/
theorem Posts.answers {s t : State} {es : List Event} (h : Posts s t es) (cp : CtrlPort) (kind : Nat)
    (status : Status) (content : List Byte) :
    Answers s (t.decide cp kind status content) cp es ⟨kind, status, content⟩ := by
  refine ⟨by rw [State.ctrl_decide_self, h cp], ?_⟩
  rw [State.ctrl_decide_ne _ _ _ _ (by cases cp <;> exact nofun), h]

/-- A port whose configuration, not its kind, changes. -/
theorem applyTrib_same {s : State} {p : TribId} {cfg : TribConfig} (h : cfg.kind = (s.trib p).cfg.kind) :
    s.applyTrib p cfg = s.modTrib p fun x => x.configured cfg := by
  rw [State.applyTrib_eq, if_pos h.symm]

/-- A change of kind restarts the receive side (R2). -/
theorem applyTrib_restart {s : State} {p : TribId} {cfg : TribConfig} (h : cfg.kind ≠ (s.trib p).cfg.kind) :
    let t := s.applyTrib p cfg
    ∃ es, t = { s with tribs := t.tribs, timing := t.timing, ctrls := t.ctrls } ∧ OtherTribs s t p ∧ Posts s t es ∧
      (t.trib p).cfg = cfg ∧ (t.trib p).steer = ((s.trib p).configured cfg).steer ∧
      (t.trib p).rx = restartState cfg.kind ∧ (t.trib p).recovery = false ∧ (t.trib p).odd = false ∧
      (t.trib p).remoteAlarm = false ∧ (t.trib p).onesRun = 0 ∧ (t.trib p).zerosRun = 0 ∧
      ((t.trib p).rx ≠ (s.trib p).rx → tribStateEvent s p (t.trib p).rx ∈ es) := by
  intro t
  obtain ⟨f, hf⟩ : ∃ f : Trib → Trib, f = fun x => { (x.configured cfg).abandonLine with
      odd := false
      txFrame := if cfg.kind = .disabled then List.replicate 32 0xFF else x.txFrame
      txSource := if cfg.kind = .disabled then .system else x.txSource
      txOffset := if cfg.kind = .disabled then 0 else x.txOffset } := ⟨_, rfl⟩
  have e : t = ((s.modTrib p f).clearRemoteAlarm p).setRx p (restartState cfg.kind) := by
    simp only [t]
    rw [State.applyTrib_eq, if_neg (Ne.symm h), State.changeKind, State.modTrib_modTrib, hf]
    rfl
  have own : ((s.modTrib p f).clearRemoteAlarm p).trib p =
      { f (s.trib p) with remoteAlarm := false, onesRun := 0, zerosRun := 0 } := by
    rw [State.trib_clearRemoteAlarm, State.trib_modTrib_self]
  have step := LineStep.modTrib_clear s p f (by rw [hf]; rfl)
  generalize (s.modTrib p f).clearRemoteAlarm p = u at e own step
  have same : (u.trib p).rx = (s.trib p).rx := by rw [own, hf]; rfl
  rw [e]
  by_cases stays : (s.trib p).rx = restartState cfg.kind
  · rw [State.setRx_of_eq (same.trans stays)]
    refine ⟨_, ?_, step.others, step.posts, ?_⟩
    · rw [step.frame]
    · rw [own, hf]
      exact ⟨rfl, rfl, stays, rfl, rfl, rfl, rfl, rfl, fun ne => absurd rfl ne⟩
  · obtain ⟨change, line, posts⟩ := step.setRx same stays
    refine ⟨_, change.frame, change.others, posts, ?_⟩
    rw [line, own, hf]
    exact ⟨rfl, rfl, rfl, rfl, rfl, rfl, rfl, rfl, fun _ => by simp⟩

/-- Settles O31. -/
theorem tribConfigIsDecidedInOrder : Obligations.TribConfigIsDecidedInOrder := by
  intro s cp n raw loaded carried
  have run : exec (.tribConfig cp n raw) s = .next (tribConfig cp n raw s) :=
    congrArg Host.Outcome.next (State.handOver_of_carried (tribConfig cp n raw) carried)
  have refusal : ∀ status, ∃ content, (Host.Outcome.next (s.refuse cp kindTribConfig status) :
      Host.Outcome State Fault Refusal) = .next (s.decide cp 24 status content) := fun _ => ⟨_, rfl⟩
  rw [run]
  refine ⟨fun big => ?_, ?_⟩
  · unfold tribConfig
    rw [if_neg (by simpa [State.loading] using loaded), show tribOf n = none from dif_neg (by omega)]
    exact refusal _
  · rintro p rfl
    rw [tribConfig_eq loaded]
    refine ⟨fun free => by rw [if_pos free]; exact refusal _, fun held refused => ?_,
      fun cfg held kind alert clock idle ais kp ki steered => ?_⟩
    · rw [if_neg (not_not.2 held), State.tribRequest_eq_none refused]; exact refusal _
    · rw [if_neg (not_not.2 held), State.tribRequest_of_fields kind alert clock idle ais kp ki steered]
      simp only
      refine ⟨fun ne named => ?_, fun free => ?_⟩
      · rw [if_pos (by simpa [State.kindRefused, named_iff_occupied.1 named] using Ne.symm ne)]; exact refusal _
      · have accepted : ¬ s.kindRefused p cfg.kind = true := by
          simp only [State.kindRefused, Bool.and_eq_true, bne_iff_ne, not_and, ne_eq]
          exact fun ne => fun occupied => free.elim (fun e => ne e.symm) fun h => h (named_iff_occupied.2 occupied)
        have status : (if raw.shiftsInRange then Status.ok else .clamped) =
            if cfg.kp = raw.kp ∧ cfg.ki = raw.ki then .ok else .clamped := by
          have e : raw.shiftsInRange = true ↔ cfg.kp = raw.kp ∧ cfg.ki = raw.ki := by
            simp only [RawTribConfig.shiftsInRange, Bool.and_eq_true, decide_eq_true_eq, kp, ki]
            omega
          simp only [e]
        have steer : ((s.trib p).configured cfg).steer =
            if cfg.clock = (s.trib p).cfg.clock then (s.trib p).steer else (s.trib p).steer.abandon := by
          unfold Trib.configured
          simp only [eq_comm]
        rw [if_neg accepted, status]
        by_cases same : cfg.kind = (s.trib p).cfg.kind
        · rw [applyTrib_same same]
          have own : ((s.modTrib p fun x => x.configured cfg).trib p) = (s.trib p).configured cfg :=
            State.trib_modTrib_self ..
          refine ⟨_, [], _, rfl, rfl, fun q ne => ?_, ?_, rfl, ?_, ?_, ?_,
            fun ne => absurd same ne⟩
          · rw [State.trib_decide]; exact State.trib_modTrib_ne s _ ne
          · exact Posts.answers (Posts.of_ctrls rfl) cp ..
          · rw [State.trib_decide, own]; rfl
          · rw [State.trib_decide, own]; exact steer
          · refine fun _ => ⟨rfl, rfl, ?_⟩
            rw [State.trib_decide, own]; rfl
        · obtain ⟨es, frame, others, posts, own, steers, rx, recovery, odd, remote, ones, zeros, told⟩ :=
            applyTrib_restart same
          refine ⟨_, es, _, rfl, ?_, ?_, Posts.answers posts cp .., rfl, own, steers.trans steer, fun e =>
            absurd e same,
            fun _ => ⟨?_, recovery, odd, remote, ones, zeros, told⟩⟩
          · generalize s.applyTrib p cfg = u at frame ⊢
            rw [frame]; rfl
          · exact fun q ne => others q ne
          · exact rx.trans (by cases cfg.kind <;> rfl)

end Sys2Proof.Machine
end

section
/-! Every change of a receive state, a bundle state and a link state is posted (R11, R35, R63, R173, R42): O32. -/

namespace Sys2Proof.Machine

open Safety

/-! ## Steps that post what they change -/

/-- Every change of a receive state, a bundle state and a link state is posted. -/
structure Announced (s t : State) : Prop where
  lines : ∀ p, (t.trib p).rx ≠ (s.trib p).rx → Reported t (tribStateEvent s p (t.trib p).rx)
  bundles : Told s t
  links : ∀ n, (t.net n).up ≠ (s.net n).up → Reported t (eventNow s .linkState (.net n) (t.net n).up.toNat)

theorem Stated.announced {s t : State} (h : Stated s t) : Announced s t where
  lines := h.steady.lined.told
  bundles := h.told
  links n ne := absurd (h.steady.hush.up n) ne

theorem Calm.announced {s t : State} (h : Calm s t) : Announced s t := h.stated.announced

theorem Announced.ite {s t u : State} {c : Prop} [Decidable c] (h : Announced s t) (k : Announced s u) :
    Announced s (if c then t else u) := by split <;> assumption

theorem Announced.andCalm {s t u : State} (h : Announced s t) (k : Calm t u) : Announced s u where
  lines p ne := by
    have rx := (k.quiet.lines.line p).rx
    rw [rx] at ne ⊢
    exact reported_mono (h.lines p ne) k.quiet.hush.queues
  bundles := h.bundles.after k.quiet.hush.queues k.states
  links n ne := by
    have up := k.quiet.hush.up n
    rw [up] at ne ⊢
    exact reported_mono (h.links n ne) k.quiet.hush.queues

theorem Announced.handOver {s : State} (cp : CtrlPort) (i : Instr) {work : State → State}
    (h : Announced s (work s)) : Announced s (s.handOver cp i work) :=
  .ite (Calm.ofCtrl s cp (fun c => { c with abandoned := c.abandoned.erase i }) (fun _ => rfl) (fun _ => rfl)
    fun _ => id).announced h

/-- A step that moves no bundle and no link. -/
theorem Lined.announced {s t : State} (h : Lined s t) (bundles : t.bundles = s.bundles) (nets : t.nets = s.nets) :
    Announced s t where
  lines := h.told
  bundles := .of_states fun b => by simp only [State.bun, bundles]
  links n ne := absurd (by simp only [State.net, nets]) ne

theorem OnLines.announced {s t : State} (h : OnLines s t) (k : Lined s t) : Announced s t :=
  k.announced h.bundles h.nets

/-! ## Links (R54, R63) -/

/-- A link that changes and posts it, nothing else changing its state. -/
theorem Announced.of_link {s t : State} {n : NetPort} (lines : SameLines s t)
    (states : ∀ b, (t.bun b).state = (s.bun b).state) (others : ∀ m, m ≠ n → (t.net m).up = (s.net m).up)
    (told : (t.net n).up ≠ (s.net n).up → Reported t (eventNow s .linkState (.net n) (t.net n).up.toNat)) :
    Announced s t where
  lines := (Lined.of_same lines).told
  bundles := .of_states states
  links m ne := by
    by_cases e : m = n
    · subst e; exact told ne
    · exact absurd (others m e) ne

/-- A port whose link indication is lost (R63). -/
def Net.lost (x : Net) (back : Bool) (timer : Timer) : Net :=
  { x with up := false, indication := back, qualification := if back then timer else none }

theorem State.loseLink_eq (s : State) (n : NetPort) (back : Bool) : s.loseLink n back =
    if (s.net n).up then ((s.modNet n fun x => x.lost back s.qualifyTimer).cutOff n).post .linkState (.net n) 0
    else s.modNet n fun x => x.lost back s.qualifyTimer := rfl

/-- A port that goes DOWN posts it (R63). -/
theorem Announced.loseLink (s : State) (n : NetPort) (back : Bool) : Announced s (s.loseLink n back) := by
  obtain ⟨u, hu⟩ : ∃ u, u = s.modNet n fun x => x.lost back s.qualifyTimer := ⟨_, rfl⟩
  have lines : SameLines s u := hu ▸ .modNet ..
  have states : ∀ b, (u.bun b).state = (s.bun b).state := fun b => by rw [hu]; rfl
  have others : ∀ m, m ≠ n → (u.net m).up = (s.net m).up := fun m ne => by rw [hu, State.net_modNet, if_neg ne]
  have own : (u.net n).up = false := by rw [hu, State.net_modNet, if_pos rfl]; rfl
  have now : u.now = s.now := by rw [hu]; rfl
  rw [State.loseLink_eq, ← hu]
  split
  · have cut := Calm.cutOff u n
    refine .of_link (n := n) ((lines.trans cut.quiet.lines).trans (Calm.post ..).quiet.lines)
      (fun b => (cut.states b).trans (states b)) (fun m ne => (cut.quiet.hush.up m).trans (others m ne)) fun _ => ?_
    have posted := reported_post (u.cutOff n) .linkState (.net n) 0
    rw [eventNow_of_now (cut.quiet.hush.now.trans now)] at posted
    rw [State.net_post, cut.quiet.hush.up n, own]
    exact posted
  · next wasUp =>
    refine .of_link (n := n) lines states others fun ne => absurd ?_ ne
    rw [own]
    simpa using Eq.symm (Bool.eq_false_iff.2 wasUp)

theorem Announced.linkIndicationLost (n : NetPort) (cut back : Bool) (s : State) :
    Announced s (linkIndicationLost n cut back s) := by
  unfold Machine.linkIndicationLost
  simp only
  split
  · split
    · have counted := Calm.countCut s n
      have lost := Announced.loseLink (s.modRx n fun c => { c with whileDown := bump c.whileDown }) n back
      refine ⟨fun p ne => ?_, .before rfl counted.states lost.bundles, fun m ne => ?_⟩
      · exact lost.lines p ne
      · have up := counted.quiet.hush.up m
        exact lost.links m (by rw [up]; exact ne)
    · exact .loseLink ..
  · exact (Calm.refl s).announced

theorem Announced.linkQualificationExpiry (n : NetPort) (s : State) :
    Announced s (linkQualificationExpiry n s) := by
  unfold Machine.linkQualificationExpiry
  simp only
  split
  · refine .of_link (n := n) ((SameLines.modNet ..).trans (Calm.post ..).quiet.lines) (fun _ => rfl)
      (fun m ne => by rw [State.net_post, State.net_modNet, if_neg ne]) fun _ => ?_
    rw [State.net_post, State.net_modNet, if_pos rfl]
    exact reported_post (s.modNet n fun x => { x with up := true, qualification := none }) .linkState (.net n) 1
  · exact (Calm.refl s).announced

theorem Announced.readEvents (cp : CtrlPort) (s : State) : Announced s (readEvents cp s) := by
  have drained : Announced s (s.modCtrl cp fun c => c.drain cp s.eventTime) :=
    (Lined.of_same (.modCtrl ..)).announced rfl rfl
  exact drained.andCalm (.decide ..)

/-! ## The configuration of a port (R1, R2) -/

theorem State.applyTrib_frame (s : State) (p : TribId) (cfg : TribConfig) :
    (s.applyTrib p cfg).bundles = s.bundles ∧ (s.applyTrib p cfg).nets = s.nets := by
  rw [State.applyTrib_eq]
  split
  · exact ⟨rfl, rfl⟩
  · have restarted := (OnLines.modTrib (s.modTrib p fun x => x.configured cfg) p fun x =>
      { x.abandonLine with
        odd := false
        txFrame := if cfg.kind = .disabled then List.replicate 32 0xFF else x.txFrame
        txSource := if cfg.kind = .disabled then .system else x.txSource
        txOffset := if cfg.kind = .disabled then 0 else x.txOffset }).restart p (restartState cfg.kind)
    exact ⟨restarted.bundles, restarted.nets⟩

theorem Announced.tribConfig (cp : CtrlPort) (port : Nat) (raw : RawTribConfig) (s : State) :
    Announced s (tribConfig cp port raw s) := by
  have refused : ∀ status, Announced s (s.refuse cp kindTribConfig status) := fun _ => (Calm.refuse ..).announced
  unfold Machine.tribConfig
  refine .ite (refused _) ?_
  split
  · exact refused _
  · next p _ =>
    refine .ite (refused _) ?_
    split
    · exact refused _
    · next cfg _ =>
      obtain ⟨bundles, nets⟩ := s.applyTrib_frame p cfg
      exact .ite (refused _) (((Lined.applyTrib s p cfg).announced bundles nets).andCalm (.decide ..))

/-! ## The record patrol (R40) -/

theorem Retold.patrol (s : State) (b : BundleId) : Retold s (s.patrol b) :=
  .ite (.faultRecord s b) (Calm.refl s).retold

/-- A patrol of one bundle leaves the states of the others. -/
theorem State.state_patrol (s : State) {b c : BundleId} (h : c ≠ b) :
    ((s.patrol b).bun c).state = (s.bun c).state := by
  have mark : Calm s (s.modBun b fun x => { x with recordFault := true }) :=
    .modBun s b _ ⟨rfl, rfl, rfl⟩ rfl
      ⟨id, fun k => ⟨k.assembly, k.playout, k.delay, k.supervisor, k.delivery⟩⟩
  have changed : ∀ u, Calm s u → ((u.changeState b .stopped .recordFault).bun c).state = (s.bun c).state :=
    fun u k => (congrArg Bundle.state ((Local.changeState u b .stopped .recordFault).others c h)).trans (k.states c)
  unfold State.patrol
  split
  · unfold State.faultRecord
    simp only
    split
    · exact ((Calm.computeTarget ..).states c).trans
        (changed _ ((mark.trans (.stopBlocks ..)).trans (.recordFault ..)))
    · exact changed _ (mark.trans (.recordFault ..))
  · rfl

/-- Two steps that post the states they change, none changing twice. -/
theorem Told.trans {s t u : State} (h : Told s t) (k : Told t u) (now : t.now = s.now)
    (queues : ∀ cp, Grows (t.ctrl cp) (u.ctrl cp))
    (once : ∀ b, (t.bun b).state = (s.bun b).state ∨ (u.bun b).state = (t.bun b).state) : Told s u := fun b ne => by
  rcases once b with same | same
  · obtain ⟨cause, r⟩ := k b (by rw [same]; exact ne)
    exact ⟨cause, by simpa only [bundleStateEvent, eventNow_of_now now, same] using r⟩
  · obtain ⟨cause, r⟩ := h b (by rw [← same]; exact ne)
    exact ⟨cause, by rw [same]; exact reported_mono r queues⟩

/-- A patrol examines each bundle once (R40). -/
theorem Told.patrols {xs : List BundleId} (h : xs.Nodup) (s : State) : Told s (xs.foldl State.patrol s) ∧
    ∀ c, c ∉ xs → ((xs.foldl State.patrol s).bun c).state = (s.bun c).state := by
  induction xs generalizing s with
  | nil => exact ⟨.of_states fun _ => rfl, fun _ _ => rfl⟩
  | cons b bs ih =>
    obtain ⟨fresh, rest⟩ := List.nodup_cons.1 h
    obtain ⟨told, stays⟩ := ih rest (s.patrol b)
    have first := Retold.patrol s b
    refine ⟨first.told.trans told first.quiet.hush.now (Quiet.foldl Quiet.patrol bs _).hush.queues fun c => ?_,
      fun c hc => ?_⟩
    · by_cases e : c = b
      · subst e; exact .inr (stays c fresh)
      · exact .inl (s.state_patrol e)
    · obtain ⟨ne, hc⟩ := not_or.1 (mt List.mem_cons.2 hc)
      exact (stays c hc).trans (s.state_patrol ne)

theorem Stated.recordPatrol (reads : List (BundleId × Record)) (s : State) : Stated s (recordPatrol reads s) := by
  obtain ⟨read, states⟩ := Steady.readRecords reads s
  refine read.andThen states ⟨(Quiet.patrols _).steady, ?_⟩
  exact (Told.patrols (List.nodup_finRange 64) _).1

/-- Every command but those that may change one state more than once (R11, R35, R63, R173). -/
theorem Announced.exec {s t : State} {c : Instr} (h : exec c s = .next t) (full : c ≠ .fullReset)
    (warm : ∀ cp, c ≠ .warmReset cp) (load : ∀ bs, c ≠ .imageLoad bs)
    (frame : ∀ p upsets, c ≠ .transmitFrameStart p upsets) : Announced s t := by
  by_cases quiet : c.quiet = true
  · exact (Retold.quiet_exec quiet h).stated.announced
  · cases c with
    | openEdit cp x => cases h; exact (Stated.handOver cp _ (.openEdit ..)).announced
    | closeEdit cp x => cases h; exact (Stated.handOver cp _ (.closeEdit ..)).announced
    | writePending cp b x => cases h; exact (Stated.handOver cp _ (.writePending ..)).announced
    | activate cp b => cases h; exact (Stated.handOver cp _ (.activate ..)).announced
    | free cp b => cases h; exact (Stated.handOver cp _ (.free ..)).announced
    | idleTimerExpiry cp => cases h; exact (Stated.idleTimerExpiry ..).announced
    | activationTakesEffect b => cases h; exact (Stated.activationTakesEffect ..).announced
    | tribConfig cp p x => cases h; exact .handOver cp _ (.tribConfig ..)
    | readEvents cp => cases h; exact .handOver cp _ (.readEvents ..)
    | warmReset cp => exact absurd rfl (warm cp)
    | fullReset => exact absurd rfl full
    | imageLoad bs => exact absurd rfl (load bs)
    | lossOfSignal p => cases h; exact (OnLines.inputLost ..).announced (.inputLost ..)
    | receiveClockTimeout p => cases h; exact (OnLines.inputLost ..).announced (.inputLost ..)
    | recoveryBlockBegins p => cases h; exact (OnLines.recoveryBlockBegins ..).announced (.recoveryBlockBegins ..)
    | recoveryBlockComplete p block =>
      cases h; exact (OnLines.recoveryBlockComplete ..).announced (.recoveryBlockComplete ..)
    | aisBlockComplete p block => cases h; exact (OnLines.aisBlockComplete ..).announced (.aisBlockComplete ..)
    | alignmentFound p window => cases h; exact (OnLines.alignmentFound ..).announced (.alignmentFound ..)
    | alignmentWord p bits => cases h; exact (OnLines.alignmentWord ..).announced (.alignmentWord ..)
    | nonAlignmentWord p bit3 => cases h; exact (OnLines.nonAlignmentWord ..).announced (.nonAlignmentWord ..)
    | transmitFrameStart p upsets => exact absurd rfl (frame p upsets)
    | linkIndicationLost n cut back => cases h; exact .linkIndicationLost ..
    | linkQualificationExpiry n => cases h; exact .linkQualificationExpiry ..
    | recordPatrol reads => exact Host.Outcome.next.inj h ▸ (Stated.recordPatrol reads s).announced
    | _ => exact absurd rfl quiet

end Sys2Proof.Machine
end

section
/-! What the image load changes and posts (R18, R42, R176): the rest of O32. -/

namespace Sys2Proof.Machine

open Safety

/-! ## A record loaded (R30, R42) -/

/-- A change of state posts its event and no other (R35). -/
theorem Posts.changeState (s : State) (b : BundleId) (new : BState) (cause : StateCause) :
    Posts s (s.changeState b new cause) [bundleStateEvent s b (s.bun b).state new cause] := by
  have posted : ∀ u : State, u.now = s.now → u.ctrls = s.ctrls →
      Posts s (u.postBundleState b (s.bun b).state new cause) [bundleStateEvent s b (s.bun b).state new cause] :=
    fun u now ctrls => by
      have h := Posts.post u .bundleState (.bundle b)
        (cause.code * 65536 + (s.bun b).state.code * 256 + new.code)
      rw [eventNow_of_now now] at h
      unfold State.postBundleState changeDetail bundleStateEvent
      rw [Nat.zero_mul, Nat.zero_add]
      exact Posts.trans (Posts.of_ctrls ctrls) h
  unfold State.changeState
  simp only
  split
  · have steering : ∀ u : State, (u.abandonSteering b).ctrls = u.ctrls ∧ (u.abandonSteering b).now = u.now :=
      fun _ => ⟨rfl, rfl⟩
    obtain ⟨ctrls, now⟩ := steering (s.modBun b fun x => { x with state := new })
    exact posted _ now ctrls
  · exact posted (s.modBun b fun x => { x with state := new }) rfl rfl

/-- A bundle that has taken its first record, its state as it was (R30 steps 1 to 4). -/
def State.readied (s : State) (b : BundleId) (r : Record) (size : Nat) : State :=
  let u := (s.recorded b r size).modBun b fun x =>
    { x with playout := .fresh size, assembly := .start, delay := .zero, supervisor := .restart r }
  if r.autoStart then u.startPaths b r else u

/-- The state a first record gives its bundle (R30). -/
def startState (r : Record) : BState := if r.autoStart then .filling else .stopped

theorem State.takeEffect_new {s : State} {b : BundleId} (h : (s.bun b).active = none) (r : Record) (size : Nat) :
    s.takeEffect b r size = (((s.readied b r size).changeState b (startState r) .activated).computeTarget b).post
      .bundleActivated (.bundle b) 0 := by
  have cls : (s.bun b).changeClass r = .new := by simp [Bundle.changeClass, h]
  unfold State.takeEffect
  simp only [cls]
  rfl

theorem State.readied_frame (s : State) (b : BundleId) (r : Record) (size : Nat) : s.readied b r size =
    { s with bundles := (s.readied b r size).bundles, claims := (s.readied b r size).claims } := by
  unfold State.readied
  simp only
  split <;> rfl

theorem State.bun_readied_ne (s : State) {b c : BundleId} (r : Record) (size : Nat) (h : c ≠ b) :
    (s.readied b r size).bun c = s.bun c := by
  have base : ((s.recorded b r size).modBun b fun x =>
      { x with playout := .fresh size, assembly := .start, delay := .zero, supervisor := .restart r }).bun c =
      s.bun c := by rw [State.bun_modBun_ne _ _ h, State.bun_recorded, if_neg h]
  unfold State.readied
  simp only
  split
  · exact (State.bun_modBun_ne _ _ h).trans base
  · exact base

/-- The bundle itself: its table entry, and its blocks at their start values (R30). -/
theorem State.bun_readied (s : State) (b : BundleId) (r : Record) (size : Nat) : ∃ x : Supervisor,
    (s.readied b r size).bun b = { s.bun b with
      active := some r
      pending := r
      check := Config.checkWord r
      recordFault := false
      ringSize := size
      armed := none
      playout := .fresh size
      assembly := .start
      delay := .zero
      supervisor := x } := by
  unfold State.readied
  simp only
  split
  · refine ⟨.started r ((s.recorded b r size).afterMs r.lossTime), ?_⟩
    unfold State.startPaths State.modSupervisor
    rw [State.bun_modBun_self, State.bun_modBun_self, State.bun_recorded, if_pos rfl]
    rfl
  · exact ⟨_, by rw [State.bun_modBun_self, State.bun_recorded, if_pos rfl]⟩

/-- A target computation of a cleared bundle with its flags clear posts nothing. -/
theorem State.computeTarget_posts_nil {s : State} {b : BundleId} (h : (s.bun b).Cleared)
    (short : (s.bun b).delay.short = false) (long : (s.bun b).delay.long = false) :
    Posts s (s.computeTarget b) [] := by
  cases e : (s.bun b).active with
  | none => rw [State.computeTarget_of_none e]; exact .refl s
  | some r =>
    have flags : ∀ target raw, (s.setEqualiseFlags b ⟨target, false, false, raw, false⟩).ctrls = s.ctrls :=
      fun target raw => by
        unfold State.setEqualiseFlags
        simp only [short, long, bne_self_eq_false]
        rfl
    have wait : ∀ v : State, v.endEstimateWait b false = v := fun v => if_neg (by simp)
    refine Posts.of_ctrls ?_
    unfold State.computeTarget
    simp only [e]
    rw [h.computation r]
    simp only [wait]
    cases k : (s.bun b).state with
    | playing => exact absurd k h.state
    | free => exact flags _ _
    | stopped => exact flags _ _
    | filling => exact flags _ _
    | down => exact flags _ _

/-- A bundle that gets its first record: no other bundle changes, its table entry and its state follow, and these
are posted (R30, R35). -/
structure NewlyActive (s t : State) (b : BundleId) (r : Record) (size : Nat) : Prop where
  now : t.now = s.now
  others : OtherBundles s t b
  active : (t.bun b).active = some r
  pending : (t.bun b).pending = r
  check : (t.bun b).check = Config.checkWord r
  recordFault : (t.bun b).recordFault = false
  armed : (t.bun b).armed = none
  ringSize : (t.bun b).ringSize = size
  state : (t.bun b).state = startState r
  posts : Posts s t [bundleStateEvent s b (s.bun b).state (t.bun b).state .activated,
    eventNow s .bundleActivated (.bundle b) 0]

theorem NewlyActive.takeEffect {s : State} {b : BundleId} (h : (s.bun b).active = none) (r : Record) (size : Nat) :
    NewlyActive s (s.takeEffect b r size) b r size := by
  have frame := s.readied_frame b r size
  have others : ∀ c, c ≠ b → (s.readied b r size).bun c = s.bun c := fun c => s.bun_readied_ne r size
  obtain ⟨x, own⟩ := s.bun_readied b r size
  rw [State.takeEffect_new h]
  generalize s.readied b r size = v at frame others own
  have changed := Local.changeState v b (startState r) .activated
  have changes := Posts.changeState v b (startState r) .activated
  have after := v.bun_changeState b (startState r) .activated
  generalize v.changeState b (startState r) .activated = w at changed changes after
  have cleared : (w.bun b).Cleared := by
    rw [after, own]
    exact ⟨by change startState r ≠ _; unfold startState; split <;> exact nofun, rfl, rfl⟩
  have targets := Local.computeTarget w b
  have quiet := State.computeTarget_posts_nil cleared (by rw [after, own]; rfl) (by rw [after, own]; rfl)
  have state : ((w.computeTarget b).bun b).state = startState r :=
    ((Calm.computeTarget w b).states b).trans (by rw [after])
  have now : (w.computeTarget b).now = s.now := by rw [targets.rest, changed.rest, frame]
  obtain ⟨active, pending, armed, check, fault, ring, -⟩ := changed.table.trans targets.table
  have posted := Posts.post (w.computeTarget b) .bundleActivated (.bundle b) 0
  have vnow : v.now = s.now := by rw [frame]
  have vctrls : v.ctrls = s.ctrls := by rw [frame]
  have event : bundleStateEvent v b (v.bun b).state (startState r) .activated =
      bundleStateEvent s b (s.bun b).state (startState r) .activated := by
    simp only [bundleStateEvent, eventNow_of_now vnow, own]
  rw [eventNow_of_now now] at posted
  rw [event] at changes
  refine ⟨now, fun c ne => ?_, ?_, ?_, ?_, ?_, ?_, ?_, state, ?_⟩
  · rw [State.bun_post, targets.others c ne, changed.others c ne, others c ne]
  · rw [State.bun_post, active, own]
  · rw [State.bun_post, pending, own]
  · rw [State.bun_post, check, own]
  · rw [State.bun_post, fault, own]
  · rw [State.bun_post, armed, own]
  · rw [State.bun_post, ring, own]
  · rw [State.bun_post, state]
    exact Posts.trans (Posts.trans (Posts.trans (Posts.of_ctrls vctrls) changes) quiet) posted

/-! ## What a part of the load keeps and posts -/

/-- Of a bundle during the load: its state and whether it has a record stay, or it gets its first record, which is
posted. -/
def Settled (s t : State) (b : BundleId) : Prop :=
  ((t.bun b).active.isSome = (s.bun b).active.isSome ∧ (t.bun b).state = (s.bun b).state) ∨
    ((s.bun b).active = none ∧ (t.bun b).active.isSome = true ∧
      Reported t (bundleStateEvent s b (s.bun b).state (t.bun b).state .activated) ∧
      Reported t (eventNow s .bundleActivated (.bundle b) 0))

/-- Of a port during the load, `k` stored configurations naming it: how its receive state is posted. -/
structure Traced (s t : State) (p : TribId) (k : Nat) : Prop where
  same : k = 0 → (t.trib p).rx = (s.trib p).rx
  once : k ≤ 1 → (t.trib p).rx ≠ (s.trib p).rx → Reported t (tribStateEvent s p (t.trib p).rx)
  last : (t.trib p).rx ≠ (s.trib p).rx → ∃ old : RxState, old ≠ (t.trib p).rx ∧
    Reported t (eventNow s .tribState (.trib p) (old.code * 256 + (t.trib p).rx.code))

/-- A part of the image load, `k p` of whose configurations name port `p`. -/
structure LoadPart (s t : State) (k : TribId → Nat) : Prop where
  now : t.now = s.now
  queues : ∀ cp, Grows (s.ctrl cp) (t.ctrl cp)
  bundles : ∀ b, Settled s t b
  lines : ∀ p, Traced s t p (k p)

theorem Settled.trans {s t u : State} {b : BundleId} (h : Settled s t b) (k : Settled t u b) (now : t.now = s.now)
    (queues : ∀ cp, Grows (t.ctrl cp) (u.ctrl cp)) : Settled s u b := by
  rcases h with ⟨active, state⟩ | ⟨none, some, stated, activated⟩ <;>
    rcases k with ⟨active', state'⟩ | ⟨none', some', stated', activated'⟩
  · exact .inl ⟨active'.trans active, state'.trans state⟩
  · refine .inr ⟨?_, some', ?_, ?_⟩
    · rw [none', Option.isSome_none] at active
      simpa using active.symm
    · simpa only [bundleStateEvent, eventNow_of_now now, state] using stated'
    · rwa [eventNow_of_now now] at activated'
  · exact .inr ⟨none, active'.trans some, by rw [state']; exact reported_mono stated queues,
      reported_mono activated queues⟩
  · rw [none'] at some; cases some

theorem Traced.trans {s t u : State} {p : TribId} {k m : Nat} (h : Traced s t p k) (h' : Traced t u p m)
    (now : t.now = s.now) (queues : ∀ cp, Grows (t.ctrl cp) (u.ctrl cp)) : Traced s u p (k + m) where
  same e := (h'.same (by omega)).trans (h.same (by omega))
  once le ne := by
    by_cases e : k = 0
    · have rx := h.same e
      have told := h'.once (by omega) (by rw [rx]; exact ne)
      simpa only [tribStateEvent, eventNow_of_now now, rx] using told
    · have rx := h'.same (by omega)
      rw [rx] at ne ⊢
      exact reported_mono (h.once (by omega) ne) queues
  last ne := by
    by_cases e : (u.trib p).rx = (t.trib p).rx
    · rw [e] at ne ⊢
      obtain ⟨old, other, told⟩ := h.last ne
      exact ⟨old, other, reported_mono told queues⟩
    · obtain ⟨old, other, told⟩ := h'.last e
      exact ⟨old, other, by rwa [eventNow_of_now now] at told⟩

theorem LoadPart.trans {s t u : State} {k m : TribId → Nat} (h : LoadPart s t k) (h' : LoadPart t u m) :
    LoadPart s u fun p => k p + m p where
  now := h'.now.trans h.now
  queues cp := (h.queues cp).trans (h'.queues cp)
  bundles b := (h.bundles b).trans (h'.bundles b) h.now h'.queues
  lines p := (h.lines p).trans (h'.lines p) h.now h'.queues

theorem Traced.of_same {s t : State} {p : TribId} (h : (t.trib p).rx = (s.trib p).rx) : Traced s t p 0 :=
  ⟨fun _ => h, fun _ ne => absurd h ne, fun ne => absurd h ne⟩

theorem Calm.loadPart {s t : State} (h : Calm s t) : LoadPart s t fun _ => 0 where
  now := h.quiet.hush.now
  queues := h.quiet.hush.queues
  bundles b := .inl ⟨by rw [(h.quiet.records b).active], h.states b⟩
  lines p := .of_same (h.quiet.lines.line p).rx

/-- A part of the load that touches no bundle and no line. -/
theorem LoadPart.of_rest {s t : State} (now : t.now = s.now) (bundles : t.bundles = s.bundles)
    (lines : ∀ p, (t.trib p).rx = (s.trib p).rx) (ctrls : t.ctrls = s.ctrls) : LoadPart s t fun _ => 0 where
  now := now
  queues cp := by simp only [State.ctrl, ctrls]; exact .refl _
  bundles b := .inl (by simp only [State.bun, bundles, and_self])
  lines p := .of_same (lines p)

/-! ## The parts -/

/-- Whether a stored configuration names port `p`. -/
def names (p : TribId) (x : Nat × RawTribConfig) : Nat := if x.1 = p.val then 1 else 0

theorem applyTrib_loadPart (s : State) (q : TribId) (cfg : TribConfig) :
    LoadPart s (s.applyTrib q cfg) fun p => if q = p then 1 else 0 := by
  have told := (Lined.applyTrib s q cfg).told
  have spec : (s.applyTrib q cfg).now = s.now ∧ OtherTribs s (s.applyTrib q cfg) q ∧
      ∀ cp, Grows (s.ctrl cp) ((s.applyTrib q cfg).ctrl cp) := by
    by_cases e : cfg.kind = (s.trib q).cfg.kind
    · rw [applyTrib_same e]
      exact ⟨rfl, fun _ ne => State.trib_modTrib_ne s _ ne, fun _ => .refl _⟩
    · obtain ⟨es, frame, others, posts, -⟩ := applyTrib_restart e
      exact ⟨by rw [frame], others, fun cp => posts.grows cp⟩
  obtain ⟨now, others, queues⟩ := spec
  refine ⟨now, queues, fun b => .inl ?_, fun p => ?_⟩
  · simp only [State.bun, (s.applyTrib_frame q cfg).1, and_self]
  · split
    · exact ⟨nofun, fun _ ne => told p ne, fun ne => ⟨_, ne.symm, told p ne⟩⟩
    · next ne => exact .of_same (congrArg Trib.rx (others p (Ne.symm ne)))

theorem LoadPart.loadTrib (s : State) (x : Nat × RawTribConfig) : LoadPart s (s.loadTrib x) fun p => names p x := by
  have idle : LoadPart s s fun p => names p x :=
    ⟨rfl, fun _ => .refl _, fun _ => .inl ⟨rfl, rfl⟩, fun p => ⟨fun _ => rfl, fun _ ne => absurd rfl ne,
      fun ne => absurd rfl ne⟩⟩
  unfold State.loadTrib
  split
  · next q cfg hq _ =>
    split
    · exact idle
    · have k := applyTrib_loadPart s q cfg
      have e : (fun p => if q = p then 1 else 0) = fun p => names p x := by
        funext p
        have val : q.val = x.1 := by
          unfold tribOf at hq
          split at hq
          · rw [← Option.some.inj hq]
          · cases hq
        simp only [names, ← val, Fin.ext_iff]
      rwa [e] at k
  · exact idle

/-- A record that takes its place or is refused (R42). -/
theorem LoadPart.loadRecord (s : State) (b : BundleId) (raw : RawRecord) :
    LoadPart s (s.loadRecord b raw).1 fun _ => 0 := by
  have refused : ∀ status, LoadPart s (s.loadRefused b status) fun _ => 0 := fun _ => (Calm.post ..).loadPart
  unfold State.loadRecord
  split
  · exact refused _
  · next h =>
    have none : (s.bun b).active = none := by simpa using h
    split
    · exact refused _
    · split
      · exact refused _
      · next q size _ =>
        have steady := (Stated.takeEffect s b q size).steady
        have new := NewlyActive.takeEffect none q size
        refine ⟨steady.hush.now, steady.hush.queues, fun c => ?_, fun p => .of_same (steady.lines.line p).rx⟩
        by_cases ne : c = b
        · subst ne; exact .inr ⟨none, by rw [new.active]; rfl, new.posts.reported (by simp),
          new.posts.reported (by simp)⟩
        · exact .inl (by rw [new.others c ne]; exact ⟨rfl, rfl⟩)

theorem LoadPart.zero_trans {s t u : State} {k : TribId → Nat} (h : LoadPart s t fun _ => 0) (h' : LoadPart t u k) :
    LoadPart s u k := by
  have := h.trans h'
  simpa only [Nat.zero_add] using this

theorem LoadPart.trans_zero {s t u : State} {k : TribId → Nat} (h : LoadPart s t k) (h' : LoadPart t u fun _ => 0) :
    LoadPart s u k := h.trans h'

theorem LoadPart.refl (s : State) : LoadPart s s fun _ => 0 := (Calm.refl s).loadPart

theorem LoadPart.loadTribs (xs : List (Nat × RawTribConfig)) (s : State) :
    LoadPart s (xs.foldl State.loadTrib s) fun p => (xs.filter fun y => y.1 == p.val).length := by
  induction xs generalizing s with
  | nil => exact .refl s
  | cons x xs ih =>
    have k := (LoadPart.loadTrib s x).trans (ih (s.loadTrib x))
    have e : (fun p : TribId => names p x + (xs.filter fun y => y.1 == p.val).length) =
        fun p => ((x :: xs).filter fun y => y.1 == p.val).length := by
      funext p
      rw [List.filter_cons]
      by_cases h : x.1 = p.val
      · simp [names, h, Nat.add_comm]
      · simp [names, h]
    rwa [e] at k

theorem LoadPart.record (p : Progress) (x : Nat × RawRecord) : LoadPart p.state (p.record x).state fun _ => 0 := by
  rw [Progress.record_state]
  split
  · exact .refl _
  · exact .loadRecord ..

theorem LoadPart.records (xs : List (Nat × RawRecord)) (p : Progress) :
    LoadPart p.state (xs.foldl Progress.record p).state fun _ => 0 := by
  induction xs generalizing p with
  | nil => exact .refl _
  | cons x xs ih => exact (LoadPart.record p x).zero_trans (ih _)

/-- The configurations of a section that name port `p`. -/
def ImageSection.tribsOf (p : TribId) : ImageSection → List (Nat × RawTribConfig)
  | .tribs ys => ys.filter fun y => y.1 == p.val
  | _ => []

theorem LoadPart.apply (q : Progress) (x : ImageSection) :
    LoadPart q.state (q.apply x).state fun p => (x.tribsOf p).length := by
  cases x with
  | settings x => exact .of_rest (t := q.state.loadSettings x) rfl rfl (fun _ => rfl) rfl
  | tribs xs => exact .loadTribs ..
  | timing x mode c => exact (Calm.loadTiming ..).loadPart
  | lists east west => exact (Calm.loadLists ..).loadPart
  | bundles xs => exact .records _ q
  | skipped => exact .refl _

theorem LoadPart.sections (xs : List ImageSection) (q : Progress) :
    LoadPart q.state (xs.foldl Progress.apply q).state fun p => (xs.flatMap fun x => x.tribsOf p).length := by
  induction xs generalizing q with
  | nil => exact .refl _
  | cons x xs ih =>
    have k := (LoadPart.apply q x).trans (ih (q.apply x))
    simp only [List.flatMap_cons, List.length_append]
    exact k

/-- Ports settled after the sections (R18). -/
theorem LoadPart.settleClocks (ps : List TribId) (s : State) :
    LoadPart s (ps.foldl State.settleClock s) fun _ => 0 := by
  induction ps generalizing s with
  | nil => exact .refl s
  | cons p ps ih =>
    refine LoadPart.zero_trans ?_ (ih _)
    unfold State.settleClock
    split
    · split
      · exact .refl s
      · refine .of_rest rfl rfl (fun q => ?_) rfl
        rw [State.trib_modTrib]
        split
        · next e => subst e; rfl
        · rfl
    · exact .refl s

/-! ## The order of the sections -/

theorem mem_ascending {xs : List (Nat × RawRecord)} {x : Nat × RawRecord} (h : x.1 < 256) :
    x ∈ ascending xs ↔ x ∈ xs := by
  simp [ascending, h]

theorem flatMap_filter_of_nil {α β : Type} (f : α → List β) (g : α → Bool) (xs : List α)
    (h : ∀ x, g x = false → f x = []) : (xs.filter g).flatMap f = xs.flatMap f := by
  induction xs with
  | nil => rfl
  | cons x xs ih =>
    rw [List.filter_cons, List.flatMap_cons]
    cases e : g x with
    | false => rw [h x e]; simpa using ih
    | true => simp [ih]

/-- The order of the kinds leaves the configurations in theirs. -/
theorem tribsOf_tableOrder (xs : List ImageSection) (p : TribId) :
    ((tableOrder xs).flatMap fun x => x.tribsOf p) = xs.flatMap fun x => x.tribsOf p := by
  have lone : ∀ ys : List ImageSection, ((ys.filter fun x => x.order == 2).flatMap fun x => x.tribsOf p) =
      ys.flatMap fun x => x.tribsOf p := fun ys => flatMap_filter_of_nil _ _ ys fun x hx => by
    cases x with
    | tribs ys => cases hx
    | _ => rfl
  rw [← lone, filter_tableOrder, lone]

/-! ## Refused records (R42) -/

theorem reported_loadRefused (s : State) (b : BundleId) (status : Status) :
    Reported (s.loadRefused b status) (loadRefusedEvent s b status) := by
  have h := reported_postBundleState s b (s.bun b).state (s.bun b).state .loadRefused status.code
  rwa [← Nat.add_assoc, ← Nat.add_assoc] at h

/-- A validation that fails fails with one of three statuses (R23 steps 5 to 8). -/
theorem validate_error {s : State} {b : BundleId} {r : Record} {status : Status}
    (h : s.validate b r = .error status) : status = .badState ∨ status = .conflict ∨ status = .noSpace := by
  unfold State.validate at h
  simp only at h
  split at h
  · exact .inl (Except.error.inj h).symm
  · split at h
    · exact .inr (.inl (Except.error.inj h).symm)
    · split at h
      · exact .inr (.inr (Except.error.inj h).symm)
      · cases h

/-- A stored record of a bundle that has one, or that has none after it (R42). -/
theorem loadRecord_refused (s : State) (b : BundleId) (raw : RawRecord) :
    ((s.bun b).active.isSome = true → Reported (s.loadRecord b raw).1 (loadRefusedEvent s b .badState)) ∧
    ((s.bun b).active = none → ((s.loadRecord b raw).1.bun b).active = none →
      ∃ status, Reported (s.loadRecord b raw).1 (loadRefusedEvent s b status) ∧
        (raw.stored = none → status = .badValue) ∧
        (raw.stored ≠ none → status = .badState ∨ status = .conflict ∨ status = .noSpace)) := by
  constructor
  · intro some
    rw [show s.loadRecord b raw = (s.loadRefused b .badState, false) from if_pos some]
    exact reported_loadRefused s b _
  · intro none after
    have free : ¬ (s.bun b).active.isSome = true := by simp [none]
    unfold State.loadRecord at after ⊢
    rw [if_neg free] at after ⊢
    cases e : raw.stored with
    | none => exact ⟨_, reported_loadRefused s b _, fun _ => rfl, fun ne => absurd rfl ne⟩
    | some x =>
      obtain ⟨r, clamped⟩ := x
      simp only [e] at after ⊢
      cases v : s.validate b r with
      | error status => exact ⟨status, reported_loadRefused s b _, nofun, fun _ => validate_error v⟩
      | ok y =>
        obtain ⟨q, size⟩ := y
        simp only [v] at after
        rw [(NewlyActive.takeEffect none q size).active] at after
        cases after

/-- The load around one stored record of bundle `b`. -/
theorem sections_around {xs : List ImageSection} {rs : List (Nat × RawRecord)} {b : BundleId} {raw : RawRecord}
    (hs : ImageSection.bundles rs ∈ xs) (hr : (b.val, raw) ∈ rs) (q : Progress) :
    ∃ u : State, (∃ k, LoadPart q.state u k) ∧
      ∃ m, LoadPart (u.loadRecord b raw).1 ((tableOrder xs).foldl Progress.apply q).state m := by
  obtain ⟨pre, post, e⟩ := List.append_of_mem (mem_tableOrder.2 hs)
  obtain ⟨pre', post', e'⟩ := List.append_of_mem ((mem_ascending (by change b.val < 256; omega)).2 hr)
  have before := LoadPart.sections pre q
  have before' := LoadPart.records pre' (pre.foldl Progress.apply q)
  refine ⟨(pre'.foldl Progress.record (pre.foldl Progress.apply q)).state, ⟨_, before.trans before'⟩, ?_⟩
  rw [e, List.foldl_append, List.foldl_cons]
  have own : ((pre.foldl Progress.apply q).apply (.bundles rs)) = (post'.foldl Progress.record
      ((pre'.foldl Progress.record (pre.foldl Progress.apply q)).record (b.val, raw))) := by
    change (ascending rs).foldl Progress.record _ = _
    rw [e', List.foldl_append, List.foldl_cons]
  rw [own]
  have step : ((pre'.foldl Progress.record (pre.foldl Progress.apply q)).record (b.val, raw)).state =
      ((pre'.foldl Progress.record (pre.foldl Progress.apply q)).state.loadRecord b raw).1 := by
    rw [Progress.record_state]
    simp only [bundleOf_val]
  rw [← step]
  exact ⟨_, (LoadPart.records post' _).trans (LoadPart.sections post _)⟩

theorem Settled.isSome_mono {s t : State} {b : BundleId} (h : Settled s t b) (k : (s.bun b).active.isSome = true) :
    (t.bun b).active.isSome = true ∧ (t.bun b).state = (s.bun b).state := by
  rcases h with ⟨active, state⟩ | ⟨none, -⟩
  · exact ⟨active.trans k, state⟩
  · rw [none] at k; cases k

theorem Settled.of_none {s t : State} {b : BundleId} (h : Settled s t b) (k : (t.bun b).active = none) :
    (s.bun b).active = none ∧ (t.bun b).state = (s.bun b).state := by
  rcases h with ⟨active, state⟩ | ⟨none, some, -⟩
  · rw [k] at active; exact ⟨by simpa using active.symm, state⟩
  · rw [k] at some; cases some

/-- A passed image applied (R176). -/
theorem applyImage_loadPart (s : State) (xs : List ImageSection) :
    LoadPart ((tableOrder xs).foldl Progress.apply ⟨s, 0, 0⟩).state (s.applyImage xs) fun _ => 0 := by
  have settled := LoadPart.settleClocks allTribs ((tableOrder xs).foldl Progress.apply ⟨s, 0, 0⟩).state
  exact settled.trans_zero ((Calm.load ..).trans (.post ..)).loadPart

theorem imageLoad_passed {s : State} {bs : List Byte} {xs : List ImageSection} (h : s.load = .loading)
    (passed : checkImage bs = .passed xs) : imageLoad bs s = s.applyImage xs := by
  simp [imageLoad, State.loading, h, passed]

theorem exec_total (s : State) (c : Instr) : ∃ t, exec c s = .next t := by cases c <;> exact ⟨_, rfl⟩

/-- Settles O32. -/
theorem everyChangeOfStateIsPosted : Obligations.EveryChangeOfStateIsPosted := by
  refine ⟨fun s c full warm load frame => ?_, fun s bs xs loading passed => ?_⟩
  · obtain ⟨t, h⟩ := exec_total s c
    have announced := Announced.exec h full warm load frame
    exact ⟨t, h, announced.lines, announced.bundles, announced.links⟩
  · refine ⟨s.applyImage xs, congrArg Host.Outcome.next (imageLoad_passed loading passed), fun p ne => ?_,
      fun b r none some => ?_, fun b rs raw hs hr => ?_⟩
    · have whole := (LoadPart.sections (tableOrder xs) ⟨s, 0, 0⟩).trans_zero (applyImage_loadPart s xs)
      obtain ⟨-, once, last⟩ := whole.lines p
      rw [tribsOf_tableOrder] at once
      by_cases one : (xs.flatMap fun x => x.tribsOf p).length = 1
      · exact ⟨_, ne.symm, fun _ => rfl, once (Nat.le_of_eq one) ne⟩
      · obtain ⟨old, other, told⟩ := last ne
        exact ⟨old, other, fun e => absurd e one, told⟩
    · have whole := (LoadPart.sections (tableOrder xs) ⟨s, 0, 0⟩).trans_zero (applyImage_loadPart s xs)
      rcases whole.bundles b with ⟨active, -⟩ | ⟨-, -, stated, activated⟩
      · rw [some] at active; change _ = (s.bun b).active.isSome at active; rw [none] at active; cases active
      · exact ⟨stated, activated⟩
    · obtain ⟨u, ⟨_, before⟩, _, after⟩ := sections_around hs hr ⟨s, 0, 0⟩
      have after := after.trans_zero (applyImage_loadPart s xs)
      have event : ∀ status, (u.bun b).state = (s.bun b).state →
          loadRefusedEvent u b status = loadRefusedEvent s b status := fun status state => by
        simp only [loadRefusedEvent, eventNow_of_now before.now, state]
      obtain ⟨kept, lost⟩ := loadRecord_refused u b raw
      refine ⟨fun some => ?_, fun none none' => ?_⟩
      · obtain ⟨active, state⟩ := (before.bundles b).isSome_mono (Option.isSome_iff_ne_none.2 some)
        rw [← event _ state]
        exact reported_mono (kept active) after.queues
      · obtain ⟨mid, -⟩ := (after.bundles b).of_none none'
        obtain ⟨start, -⟩ := ((LoadPart.loadRecord u b raw).bundles b).of_none mid
        obtain ⟨-, state⟩ := (before.bundles b).of_none start
        obtain ⟨status, told, value, others⟩ := lost start mid
        exact ⟨status, by rw [← event _ state]; exact reported_mono told after.queues, value, others⟩

end Sys2Proof.Machine
end

section
/-! The checks of the stored image (R176, R182, R183). -/

namespace Sys2Proof.Machine

open Safety

/-! ## Sections (R182, R183) -/

/-- A section as it stands in the image: its code, its length, its content (R182). -/
def sealed (x : Byte × List Byte) : List Byte := [x.1] ++ bytesOf 2 x.2.length ++ x.2

theorem fieldAt_zero_one (x : Byte) (bs : List Byte) : fieldAt (x :: bs) 0 1 = x.toNat := by
  simp [fieldAt, natOf]

theorem countedItems_eq_none {n : Nat} {bs : List Byte} :
    countedItems n bs = none ↔ bs = [] ∨ bs.length < n * fieldAt bs 0 1 + 1 := by
  cases bs with
  | nil => simp [countedItems]
  | cons c rest =>
    rw [fieldAt_zero_one]
    simp only [countedItems, List.length_cons, reduceCtorEq, false_or]
    split
    · simp; omega
    · simp; omega

theorem countedItems_rest {n : Nat} {bs : List Byte} {items : List (List Byte)} {rest : List Byte}
    (h : countedItems n bs = some (items, rest)) : rest = bs.drop (n * fieldAt bs 0 1 + 1) := by
  cases bs with
  | nil => cases h
  | cons c tail =>
    rw [fieldAt_zero_one]
    simp only [countedItems] at h
    split at h
    · cases h
    · rw [List.drop_succ_cons]; exact (Prod.mk.inj (Option.some.inj h)).2.symm

theorem fieldAt_drop (bs : List Byte) (i n : Nat) : fieldAt (bs.drop i) 0 n = fieldAt bs i n := by
  simp [fieldAt]

theorem readLists_eq_none {bs : List Byte} : readLists bs = none ↔ bs = [] ∨ bs.length < 9 * fieldAt bs 0 1 + 2 ∨
    bs.length < 9 * fieldAt bs 0 1 + 9 * fieldAt bs (9 * fieldAt bs 0 1 + 1) 1 + 2 := by
  unfold readLists
  cases e : countedItems entryLength bs with
  | none =>
    have short := countedItems_eq_none.1 e
    simp only [entryLength] at short
    refine iff_of_true rfl (short.imp_right fun h => .inl (by omega))
  | some x =>
    obtain ⟨items, rest⟩ := x
    have long : ¬ (bs = [] ∨ bs.length < entryLength * fieldAt bs 0 1 + 1) := fun h => by
      rw [countedItems_eq_none.2 h] at e; cases e
    have tail := countedItems_rest e
    have second : countedItems entryLength rest = none ↔ _ := countedItems_eq_none
    simp only [not_or, not_lt, entryLength] at long tail second
    have len : rest.length = bs.length - (9 * fieldAt bs 0 1 + 1) := by rw [tail, List.length_drop]
    rw [← List.length_eq_zero_iff, len, tail, fieldAt_drop, ← tail] at second
    have whole : (do
        let (west, _) ← countedItems entryLength rest
        return ImageSection.lists (items.map RawEntry.ofBytes) (west.map RawEntry.ofBytes) : Option ImageSection) =
          none ↔
        countedItems entryLength rest = none := by
      cases countedItems entryLength rest <;> simp
    refine whole.trans (second.trans ?_)
    simp only [long.1, false_or]
    omega

theorem readBundles_eq_none {bs : List Byte} :
    readBundles bs = none ↔ bs = [] ∨ bs.length < 50 * fieldAt bs 0 1 + 1 := by
  unfold readBundles
  have e : countedItems (recordLength + 1) bs = none ↔ bs = [] ∨ bs.length < 50 * fieldAt bs 0 1 + 1 :=
    countedItems_eq_none
  rw [← e]
  cases countedItems (recordLength + 1) bs <;> simp

/-- A section is read exactly where it is long enough for its counts and its layout (R176, R183). -/
theorem readSection_eq_none {x : Byte × List Byte} : readSection x.1.toNat x.2 = none ↔ SectionShort x := by
  have code : ∀ n : Nat, n < 256 → (x.1.toNat = n ↔ x.1 = BitVec.ofNat 8 n) := fun n h => by
    rw [← BitVec.toNat_inj, BitVec.toNat_ofNat, Nat.mod_eq_of_lt h]
  have c1 := code 1 (by omega)
  have c2 := code 2 (by omega)
  have c3 := code 3 (by omega)
  have c4 := code 4 (by omega)
  have c5 := code 5 (by omega)
  unfold readSection SectionShort
  split
  · next e =>
    have v := c1.1 e
    simp [v]
  · next e =>
    have v := c2.1 e
    simp [v]
  · next e =>
    have v := c3.1 e
    simp [v]
  · next e =>
    have v := c4.1 e
    rw [readLists_eq_none]
    simp [v]
  · next e =>
    have v := c5.1 e
    rw [readBundles_eq_none]
    simp [v]
  · next n1 n2 n3 n4 n5 =>
    have d1 : x.1 ≠ 1#8 := fun e => n1 (c1.2 e)
    have d2 : x.1 ≠ 2#8 := fun e => n2 (c2.2 e)
    have d3 : x.1 ≠ 3#8 := fun e => n3 (c3.2 e)
    have d4 : x.1 ≠ 4#8 := fun e => n4 (c4.2 e)
    have d5 : x.1 ≠ 5#8 := fun e => n5 (c5.2 e)
    simp [d1, d2, d3, d4, d5]

theorem readSections_succ (fuel : Nat) (c : Byte) (bs : List Byte) : readSections (fuel + 1) (c :: bs) =
    if (c :: bs).length < 3 + fieldAt (c :: bs) 1 2 then none
    else (readSection (fieldAt (c :: bs) 0 1) (((c :: bs).drop 3).take (fieldAt (c :: bs) 1 2))).bind fun x =>
      (readSections fuel ((c :: bs).drop (3 + fieldAt (c :: bs) 1 2))).bind fun rest => some (x :: rest) := rfl

/-- One section read off the front. -/
theorem readSections_sealed (fuel : Nat) {x : Byte × List Byte} (h : x.2.length < 65536) (rest : List Byte) :
    readSections (fuel + 1) (sealed x ++ rest) =
      (readSection x.1.toNat x.2).bind fun y => (readSections fuel rest).map (y :: ·) := by
  have bytes : ∃ u v, bytesOf 2 x.2.length = [u, v] ∧ natOf [u, v] = x.2.length := by
    refine ⟨_, _, rfl, ?_⟩
    exact natOf_bytesOf_two h
  obtain ⟨u, v, e, val⟩ := bytes
  have shape : sealed x ++ rest = x.1 :: u :: v :: (x.2 ++ rest) := by simp [sealed, e]
  have code : fieldAt (x.1 :: u :: v :: (x.2 ++ rest)) 0 1 = x.1.toNat := fieldAt_zero_one ..
  have len : fieldAt (x.1 :: u :: v :: (x.2 ++ rest)) 1 2 = x.2.length := val
  rw [shape, readSections_succ, code, len, if_neg (by simp; omega)]
  have content : ((x.1 :: u :: v :: (x.2 ++ rest)).drop 3).take x.2.length = x.2 := by simp
  have after : (x.1 :: u :: v :: (x.2 ++ rest)).drop (3 + x.2.length) = rest := by
    rw [Nat.add_comm, ← List.drop_drop]
    simp
  rw [content, after]
  cases readSection x.1.toNat x.2 with
  | none => rfl
  | some y => cases readSections fuel rest <;> rfl

/-- Sections in a row, and what follows them. -/
theorem readSections_append (secs : List (Byte × List Byte)) (fuel : Nat) (tail : List Byte)
    (small : ∀ x ∈ secs, x.2.length < 65536) (room : secs.length ≤ fuel) :
    ((∃ x ∈ secs, SectionShort x) → readSections fuel ((secs.map sealed).flatten ++ tail) = none) ∧
    (readSections (fuel - secs.length) tail = none → readSections fuel ((secs.map sealed).flatten ++ tail) = none) ∧
    ((∀ x ∈ secs, ¬ SectionShort x) → ∀ ys, readSections (fuel - secs.length) tail = some ys →
      ∃ xs, readSections fuel ((secs.map sealed).flatten ++ tail) = some xs ∧ xs.length = secs.length + ys.length) := by
  induction secs generalizing fuel with
  | nil =>
    exact ⟨fun ⟨_, h, _⟩ => absurd h List.not_mem_nil, fun h => by simpa using h, fun _ ys h => ⟨ys, by simpa using h⟩⟩
  | cons x secs ih =>
    obtain ⟨fuel, rfl⟩ : ∃ m, fuel = m + 1 := ⟨fuel - 1, by simp at room; omega⟩
    obtain ⟨short, stuck, whole⟩ := ih fuel (fun y hy => small y (List.mem_cons_of_mem _ hy)) (by simpa using room)
    have step := readSections_sealed fuel (small x List.mem_cons_self) ((secs.map sealed).flatten ++ tail)
    rw [List.map_cons, List.flatten_cons, List.append_assoc, step]
    have less : fuel + 1 - (x :: secs).length = fuel - secs.length := by simp
    rw [less]
    refine ⟨?_, fun h => ?_, fun long ys h => ?_⟩
    · rintro ⟨y, hy, hs⟩
      rcases List.mem_cons.1 hy with rfl | hy
      · rw [readSection_eq_none.2 hs]; rfl
      · rw [short ⟨y, hy, hs⟩]
        cases readSection x.1.toNat x.2 <;> rfl
    · rw [stuck h]
      cases readSection x.1.toNat x.2 <;> rfl
    · obtain ⟨xs, e, len⟩ := whole (fun y hy => long y (List.mem_cons_of_mem _ hy)) ys h
      obtain ⟨y, hy⟩ := Option.ne_none_iff_exists'.1 (mt readSection_eq_none.1 (long x List.mem_cons_self))
      rw [e, hy]
      exact ⟨y :: xs, rfl, by rw [List.length_cons, List.length_cons, len]; omega⟩

/-- Bytes that end within a section (R183). -/
theorem readSections_cut {tail : List Byte} (h : tail ≠ []) (short : tail.length < 3 + fieldAt tail 1 2) (fuel : Nat) :
    readSections fuel tail = none := by
  cases tail with
  | nil => exact absurd rfl h
  | cons c rest =>
    cases fuel with
    | zero => rfl
    | succ fuel => rw [readSections_succ, if_pos short]

theorem imageBody_eq (bs : List Byte) (n : Nat) : imageBody bs n = (bs ++ List.replicate n 0xFF).take n := by
  unfold imageBody clocked
  rw [List.take_append, List.take_replicate, Nat.min_eq_left (by omega)]

/-- The checks of the load, in their order (R176). -/
theorem checkImage_eq {bs : List Byte} {n : Nat} (marker : fieldAt bs 0 4 = imageMarker) (hn : n = fieldAt bs 6 2) :
    checkImage bs = if byteAt bs 4 ≠ 1 then .rejected .version
      else if n < 10 ∨ Config.imageBytes < n then .rejected .length
      else if (crc16 ((imageBody bs n).take (n - 2))).toNat ≠ fieldAt (imageBody bs n) (n - 2) 2 then .rejected .crc
      else match readSections n (((imageBody bs n).take (n - 2)).drop 8) with
        | none => .rejected .length
        | some xs => .passed xs := by
  subst hn
  unfold checkImage
  exact if_neg (not_not_intro marker)

/-- The checks of an image with its marker: version, length, CRC, sections (R176, log entry 59). -/
theorem checkImage_causes (bs : List Byte) (n : Nat) (marker : fieldAt bs 0 4 = 0xC5A3B816) (hn : n = fieldAt bs 6 2) :
    (byteAt bs 4 ≠ 1 → checkImage bs = .rejected .version) ∧
    (byteAt bs 4 = 1 → (n < 10 ∨ 8192 < n) → checkImage bs = .rejected .length) ∧
    (∀ body : List Byte, byteAt bs 4 = 1 → 10 ≤ n → n ≤ 8192 → body = (bs ++ List.replicate n 0xFF).take n →
      ((crc16 (body.take (n - 2))).toNat ≠ fieldAt body (n - 2) 2 → checkImage bs = .rejected .crc) ∧
      (∀ (secs : List (Byte × List Byte)) (tail : List Byte),
        (crc16 (body.take (n - 2))).toNat = fieldAt body (n - 2) 2 → (∀ x ∈ secs, x.2.length < 65536) →
        (body.take (n - 2)).drop 8 = (secs.map fun x => [x.1] ++ bytesOf 2 x.2.length ++ x.2).flatten ++ tail →
        (tail ≠ [] → tail.length < 3 + fieldAt tail 1 2 → checkImage bs = .rejected .length) ∧
        ((∃ x ∈ secs, SectionShort x) → checkImage bs = .rejected .length) ∧
        (tail = [] → (∀ x ∈ secs, ¬ SectionShort x) →
          ∃ xs, checkImage bs = .passed xs ∧ xs.length = secs.length))) := by
  rw [checkImage_eq marker hn]
  refine ⟨fun v => if_pos v, fun v len => by rw [if_neg (not_not_intro v)]; exact if_pos len,
    fun body v low high hb => ?_⟩
  rw [if_neg (not_not_intro v), if_neg (by simp only [Config.imageBytes]; omega), imageBody_eq, ← hb]
  refine ⟨fun crc => if_pos crc, fun secs tail crc small shape => ?_⟩
  rw [if_neg (not_not_intro crc), shape]
  have room : secs.length ≤ n := by
    have each : secs.length ≤ ((secs.map sealed).flatten).length := by
      clear shape small
      induction secs with
      | nil => exact Nat.zero_le _
      | cons x secs ih =>
        rw [List.map_cons, List.flatten_cons, List.length_append, List.length_cons]
        have : 1 ≤ (sealed x).length := by simp [sealed]
        omega
    have whole : ((secs.map sealed).flatten ++ tail).length ≤ n := by
      rw [show ((secs.map sealed).flatten ++ tail) = (body.take (n - 2)).drop 8 from shape.symm]
      rw [List.length_drop, List.length_take]
      omega
    rw [List.length_append] at whole
    omega
  obtain ⟨short, stuck, full⟩ := readSections_append secs n tail small room
  have e : (secs.map fun x => [x.1] ++ bytesOf 2 x.2.length ++ x.2) = secs.map sealed := rfl
  rw [e]
  refine ⟨fun ne cut => by rw [stuck (readSections_cut ne cut _)], fun h => by rw [short h], fun empty long => ?_⟩
  subst empty
  obtain ⟨xs, hx, len⟩ := full long [] (by cases n - secs.length <;> rfl)
  exact ⟨xs, by rw [hx], len⟩

end Sys2Proof.Machine
end

section
/-! What each section of the image changes and leaves (Table 69). -/

namespace Sys2Proof.Machine

open Safety

/-! ## A part of the load that holds sections of one kind -/

/-- The timing configuration and mode are as they were (R156, R157). -/
structure SameConfig (x y : Timing) : Prop where
  mode : y.mode = x.mode
  priority : ∀ c, (y.candidate c).priority = (x.candidate c).priority
  qualify : ∀ c, (y.candidate c).qualify = (x.candidate c).qualify

theorem SameConfig.refl (x : Timing) : SameConfig x x := ⟨rfl, fun _ => rfl, fun _ => rfl⟩

theorem SameConfig.trans {x y z : Timing} (h : SameConfig x y) (k : SameConfig y z) : SameConfig x z :=
  ⟨k.mode.trans h.mode, fun c => (k.priority c).trans (h.priority c), fun c => (k.qualify c).trans (h.qualify c)⟩

theorem SameTiming.config {x y : Timing} (h : SameTiming x y) : SameConfig x y :=
  ⟨h.mode, fun c => by rw [h.candidate], fun c => by rw [h.candidate]⟩

theorem sameConfig_of_onlyCandidate {x y : Timing} {c : Candidate} (h : OnlyCandidate x y c) : SameConfig x y := by
  refine ⟨h.mode, fun d => ?_, fun d => ?_⟩ <;> by_cases e : d = c
  · subst e; exact h.priority
  · rw [h.others d e]
  · subst e; exact h.qualify
  · rw [h.others d e]

/-- Of the load from `s` to `t`, sections of place `n` in Table 69 alone applied: what they leave. -/
structure PartOf (n : Nat) (s t : State) : Prop where
  captures : t.captures = s.captures
  save : t.save = s.save
  pending : t.pending = s.pending
  up : ∀ k, (t.net k).up = (s.net k).up
  settings : n ≠ 1 → t.settings = s.settings
  ports : n ≠ 2 → ∀ p, (t.trib p).cfg = (s.trib p).cfg
  timing : n ≠ 3 → SameConfig s.timing t.timing
  lists : n ≠ 4 → ∀ k, (t.net k).list = (s.net k).list
  bundles : n ≠ 5 → t.bundles = s.bundles

theorem PartOf.refl (n : Nat) (s : State) : PartOf n s s :=
  ⟨rfl, rfl, rfl, fun _ => rfl, fun _ => rfl, fun _ _ => rfl, fun _ => .refl _, fun _ _ => rfl, fun _ => rfl⟩

theorem PartOf.trans {n : Nat} {s t u : State} (h : PartOf n s t) (k : PartOf n t u) : PartOf n s u where
  captures := k.captures.trans h.captures
  save := k.save.trans h.save
  pending := k.pending.trans h.pending
  up m := (k.up m).trans (h.up m)
  settings ne := (k.settings ne).trans (h.settings ne)
  ports ne p := (k.ports ne p).trans (h.ports ne p)
  timing ne := (h.timing ne).trans (k.timing ne)
  lists ne m := (k.lists ne m).trans (h.lists ne m)
  bundles ne := (k.bundles ne).trans (h.bundles ne)

theorem PartOf.foldl {α : Type} {n : Nat} {f : State → α → State} (h : ∀ s x, PartOf n s (f s x)) (xs : List α)
    (s : State) : PartOf n s (xs.foldl f s) := by
  induction xs generalizing s with
  | nil => exact .refl n s
  | cons x xs ih => exact (h s x).trans (ih (f s x))

/-! ## Settings, timing and lists -/

theorem PartOf.loadSettings (s : State) (x : RawSettings) : PartOf 1 s (s.loadSettings x) :=
  ⟨rfl, rfl, rfl, fun _ => rfl, fun ne => absurd rfl ne, fun _ _ => rfl, fun _ => .refl _, fun _ _ => rfl, fun _ => rfl⟩

theorem PartOf.of_timing {s t : State} (h : t = { s with timing := t.timing, ctrls := t.ctrls }) : PartOf 3 s t := by
  rw [h]
  exact ⟨rfl, rfl, rfl, fun _ => rfl, fun _ => rfl, fun _ _ => rfl, fun ne => absurd rfl ne, fun _ _ => rfl,
    fun _ => rfl⟩

theorem PartOf.loadTiming (s : State) (x : Vector RawPriority 9) (mode c : Nat) :
    PartOf 3 s (s.loadTiming x mode c) :=
  .of_timing (by unfold State.loadTiming; rw [State.evaluateTiming_frame])

theorem PartOf.loadLists (s : State) (east west : List RawEntry) : PartOf 4 s (s.loadLists east west) :=
  ⟨rfl, rfl, rfl, fun k => by cases k <;> rfl, fun _ => rfl, fun _ _ => rfl, fun _ => .refl _, fun ne => absurd rfl ne,
    fun _ => rfl⟩

/-! ## Ports -/

theorem PartOf.of_tribs {s t : State} (h : t = { s with tribs := t.tribs, timing := t.timing, ctrls := t.ctrls })
    (config : SameConfig s.timing t.timing) : PartOf 2 s t := by
  rw [h]
  exact ⟨rfl, rfl, rfl, fun _ => rfl, fun _ => rfl, fun ne => absurd rfl ne, fun _ => config, fun _ _ => rfl,
    fun _ => rfl⟩

theorem State.setRx_config (s : State) (p : TribId) (new : RxState) : SameConfig s.timing (s.setRx p new).timing := by
  by_cases h : (s.trib p).rx = new
  · rw [State.setRx_of_eq h]; exact .refl _
  · obtain ⟨change, -⟩ := (LineStep.modTrib s p id).setRx (by rw [State.trib_modTrib_self]; rfl) h
    have e : s.modTrib p id = s := by
      simp [State.modTrib, State.trib]
    rw [e] at change
    exact sameConfig_of_onlyCandidate change.candidate

theorem applyTrib_rest (s : State) (p : TribId) (cfg : TribConfig) :
    s.applyTrib p cfg = { s with
      tribs := (s.applyTrib p cfg).tribs
      timing := (s.applyTrib p cfg).timing
      ctrls := (s.applyTrib p cfg).ctrls } ∧
    OtherTribs s (s.applyTrib p cfg) p ∧ ((s.applyTrib p cfg).trib p).cfg = cfg := by
  by_cases e : cfg.kind = (s.trib p).cfg.kind
  · rw [applyTrib_same e]
    exact ⟨rfl, fun _ ne => State.trib_modTrib_ne s _ ne, by rw [State.trib_modTrib_self]; rfl⟩
  · obtain ⟨_, frame, others, -, cfg, -⟩ := applyTrib_restart e
    exact ⟨frame, others, cfg⟩

theorem applyTrib_config (s : State) (p : TribId) (cfg : TribConfig) :
    SameConfig s.timing (s.applyTrib p cfg).timing := by
  by_cases e : cfg.kind = (s.trib p).cfg.kind
  · rw [applyTrib_same e]; exact .refl _
  · rw [State.applyTrib_eq, if_neg (Ne.symm e)]
    unfold State.changeKind
    refine SameConfig.trans ?_ (State.setRx_config ..)
    rw [State.clearRemoteAlarm_frame]
    exact .refl _

/-- A stored configuration leaves the ports it does not name (R18). -/
theorem State.loadTrib_cases (s : State) (x : Nat × RawTribConfig) : s.loadTrib x = s ∨
    ∃ p cfg, x.1 = p.val ∧ x.2.typed x.2.storedClock = some cfg ∧ s.kindRefused p cfg.kind = false ∧
      s.loadTrib x = s.applyTrib p cfg := by
  unfold State.loadTrib
  split
  · next p cfg hp hc =>
    split
    · exact .inl rfl
    · next free =>
      have val : x.1 = p.val := by
        unfold tribOf at hp
        split at hp
        · rw [← Option.some.inj hp]
        · cases hp
      exact .inr ⟨p, cfg, val, hc, by simpa using free, rfl⟩
  · exact .inl rfl

theorem PartOf.loadTrib (s : State) (x : Nat × RawTribConfig) : PartOf 2 s (s.loadTrib x) := by
  rcases s.loadTrib_cases x with h | ⟨p, cfg, -, -, -, h⟩
  · rw [h]; exact .refl ..
  · rw [h]; exact .of_tribs (applyTrib_rest s p cfg).1 (applyTrib_config s p cfg)

theorem State.trib_loadTrib_ne (s : State) {x : Nat × RawTribConfig} {p : TribId} (h : x.1 ≠ p.val) :
    (s.loadTrib x).trib p = s.trib p := by
  rcases s.loadTrib_cases x with e | ⟨q, cfg, val, -, -, e⟩
  · rw [e]
  · rw [e]
    exact (applyTrib_rest s q cfg).2.1 p fun pq => h (by rw [val, pq])

/-! ## Records -/

theorem Local.partOf {s t : State} {b : BundleId} (h : Local b s t) : PartOf 5 s t := by
  have ports : ∀ p, (t.trib p).cfg = (s.trib p).cfg := fun p => by rw [h.tribs p]
  refine ⟨?_, ?_, ?_, fun k => ?_, fun _ => ?_, fun _ => ports, fun _ => ?_, fun _ k => ?_, fun ne => absurd rfl ne⟩ <;>
    rw [h.rest]
  · rfl
  · exact .refl _
  · rfl

theorem PartOf.takeEffect {s : State} {b : BundleId} (h : (s.bun b).active = none) (r : Record) (size : Nat) :
    PartOf 5 s (s.takeEffect b r size) := by
  have readied : PartOf 5 s (s.readied b r size) := by
    rw [s.readied_frame b r size]
    exact ⟨rfl, rfl, rfl, fun _ => rfl, fun _ => rfl, fun _ _ => rfl, fun _ => .refl _, fun _ _ => rfl,
      fun ne => absurd rfl ne⟩
  rw [State.takeEffect_new h]
  exact ((readied.trans (Local.changeState ..).partOf).trans (Local.computeTarget ..).partOf).trans
    (Local.post _ b ..).partOf

/-- A stored record is refused, or becomes its bundle's first (R42). -/
inductive RecordLoad (s : State) (b : BundleId) (raw : RawRecord) : State × Bool → Prop where
  | refused (status : Status) : RecordLoad s b raw (s.loadRefused b status, false)
  | loaded (r : Record) (clamped : Bool) (q : Record) (size : Nat) (free : (s.bun b).active = none)
      (stored : raw.stored = some (r, clamped)) (valid : s.validate b r = .ok (q, size)) :
      RecordLoad s b raw (s.takeEffect b q size, true)

theorem State.loadRecord_cases (s : State) (b : BundleId) (raw : RawRecord) :
    RecordLoad s b raw (s.loadRecord b raw) := by
  unfold State.loadRecord
  split
  · exact .refused _
  · next free =>
    split
    · exact .refused _
    · next r clamped stored =>
      split
      · exact .refused _
      · next q size valid => exact .loaded r clamped q size (by simpa using free) stored valid

theorem PartOf.loadRecord (s : State) (b : BundleId) (raw : RawRecord) : PartOf 5 s (s.loadRecord b raw).1 := by
  have h := s.loadRecord_cases b raw
  generalize s.loadRecord b raw = y at h
  cases h with
  | refused status => exact (Local.post s b ..).partOf
  | loaded r clamped q size free stored valid => exact .takeEffect free q size

theorem PartOf.records (xs : List (Nat × RawRecord)) (q : Progress) :
    PartOf 5 q.state (xs.foldl Progress.record q).state := by
  induction xs generalizing q with
  | nil => exact .refl ..
  | cons x xs ih =>
    refine PartOf.trans ?_ (ih _)
    rw [Progress.record_state]
    split
    · exact .refl ..
    · exact .loadRecord ..

/-- A section changes what its kind holds and leaves the rest (Table 69). -/
theorem PartOf.apply (q : Progress) (x : ImageSection) : PartOf x.order q.state (q.apply x).state := by
  cases x with
  | settings x => exact .loadSettings ..
  | tribs xs => exact .foldl .loadTrib ..
  | timing x mode c => exact .loadTiming ..
  | lists east west => exact .loadLists ..
  | bundles xs => exact .records _ q
  | skipped => exact .refl ..

theorem PartOf.settleClock (s : State) (p : TribId) : PartOf 2 s (s.settleClock p) := by
  unfold State.settleClock
  split
  · split
    · exact .refl ..
    · exact .of_tribs rfl (.refl _)
  · exact .refl ..

/-! ## The last section of a kind -/

/-- An aspect of the state that only sections satisfying `g` change. -/
theorem foldl_apply_keeps {α : Type} {A : State → α} {g : ImageSection → Prop}
    (keep : ∀ q x, ¬ g x → A (Progress.apply q x).state = A q.state) (xs : List ImageSection)
    (h : ∀ x ∈ xs, ¬ g x) (q : Progress) : A (xs.foldl Progress.apply q).state = A q.state := by
  induction xs generalizing q with
  | nil => rfl
  | cons x xs ih =>
    rw [List.foldl_cons, ih (fun y hy => h y (List.mem_cons_of_mem _ hy)), keep q x (h x List.mem_cons_self)]

/-- The last section of its kind in stored order is the last of its kind to be applied, the kinds of earlier places
before it (R183, Table 69). -/
theorem tableOrder_last {pre post : List ImageSection} {x : ImageSection} (h : ∀ y ∈ post, y.order ≠ x.order) :
    ∃ before after, tableOrder (pre ++ x :: post) = before ++ x :: after ∧
      (∀ y ∈ before, y.order ≤ x.order) ∧ ∀ y ∈ after, x.order < y.order := by
  obtain ⟨xs, hx⟩ : ∃ xs, xs = pre ++ x :: post := ⟨_, rfl⟩
  have own : xs.filter (fun y => y.order == x.order) = pre.filter (fun y => y.order == x.order) ++ [x] := by
    have none : post.filter (fun y => y.order == x.order) = [] := by
      rw [List.filter_eq_nil_iff]; exact fun y hy => by simpa using h y hy
    rw [hx, List.filter_append, List.filter_cons, if_pos (by simp), none]
  have split : List.range 6 = List.range x.order ++ x.order :: (List.range' (x.order + 1) (5 - x.order)) := by
    have := x.order_lt
    interval_cases x.order <;> rfl
  refine ⟨((List.range x.order).flatMap fun n => xs.filter fun y => y.order == n) ++
    pre.filter (fun y => y.order == x.order),
    (List.range' (x.order + 1) (5 - x.order)).flatMap fun n => xs.filter fun y => y.order == n, ?_, ?_, ?_⟩
  · rw [← hx, tableOrder, split, List.flatMap_append, List.flatMap_cons, own]
    simp
  · intro y hy
    simp only [List.mem_append, List.mem_flatMap, List.mem_range, List.mem_filter, beq_iff_eq] at hy
    rcases hy with ⟨n, lt, -, e⟩ | ⟨-, e⟩ <;> omega
  · intro y hy
    simp only [List.mem_flatMap, List.mem_range'_1, List.mem_filter, beq_iff_eq] at hy
    obtain ⟨n, ⟨lt, -⟩, -, e⟩ := hy
    omega

end Sys2Proof.Machine
end

section
/-! The image load as a whole (R18, R42, R81, R164, R170, R176, R183): O24. -/

namespace Sys2Proof.Machine

open Safety

/-! ## Records loaded and refused (R42) -/

/-- How many bundles have a record in `t` and had none in `s`. -/
def newly (s t : State) : Nat := allBundles.countP fun b => (t.bun b).active.isSome && (s.bun b).active.isNone

theorem countP_add {α : Type} {p q r : α → Bool} (h : ∀ x, (p x).toNat = (q x).toNat + (r x).toNat) (xs : List α) :
    xs.countP p = xs.countP q + xs.countP r := by
  induction xs with
  | nil => rfl
  | cons x xs ih =>
    have digit : ∀ b : Bool, (if b = true then 1 else 0) = b.toNat := by decide
    simp only [List.countP_cons, ih, digit, h x]
    omega

/-- A record in force stands for one that the image holds for its bundle, clamped (R42, R24, R26). -/
def FromStored (held : BundleId → RawRecord → Prop) (b : BundleId) (r : Record) : Prop :=
  ∃ raw r0 clamped, held b raw ∧ raw.stored = some (r0, clamped) ∧ r = { r0 with fpp := r.fpp, maxDepth := r.maxDepth }

/-- The table entry of a bundle whose record has just been loaded (R30, R42). -/
structure InstalledAs (x : Bundle) (r : Record) : Prop where
  pending : x.pending = r
  check : x.check = Config.checkWord r
  recordFault : x.recordFault = false
  armed : x.armed = none
  state : x.state = startState r

/-- What a part of the load that took `k` records of `held` did to the bundles and counted. -/
structure Tally (held : BundleId → RawRecord → Prop) (q q' : Progress) (k : Nat) : Prop where
  total : q'.loaded + q'.refused = q.loaded + q.refused + k
  loaded : q'.loaded = q.loaded + newly q.state q'.state
  kept : ∀ b, (q.state.bun b).active.isSome = true → q'.state.bun b = q.state.bun b
  idle : ∀ b, (q'.state.bun b).active = none → q'.state.bun b = q.state.bun b
  new : ∀ b r, (q.state.bun b).active = none → (q'.state.bun b).active = some r →
    FromStored held b r ∧ InstalledAs (q'.state.bun b) r

theorem Tally.trans {held : BundleId → RawRecord → Prop} {q q' q'' : Progress} {k m : Nat} (h : Tally held q q' k)
    (h' : Tally held q' q'' m) : Tally held q q'' (k + m) := by
  have mono : ∀ b, (q.state.bun b).active.isSome = true → (q'.state.bun b).active.isSome = true := fun b e => by
    rw [h.kept b e]; exact e
  refine ⟨by rw [h'.total, h.total]; omega, ?_, fun b e => (h'.kept b (mono b e)).trans (h.kept b e), fun b e => ?_,
    fun b r free e => ?_⟩
  · have both : newly q.state q''.state = newly q.state q'.state + newly q'.state q''.state := by
      refine countP_add (fun b => ?_) allBundles
      cases e : (q.state.bun b).active with
      | some r =>
        have some' : (q.state.bun b).active.isSome = true := by rw [e]; rfl
        have k := h.kept b some'
        rw [h'.kept b (by rw [k]; exact some'), k, e]
        rfl
      | none =>
        cases e' : (q'.state.bun b).active with
        | some r =>
          rw [h'.kept b (by rw [e']; rfl), e']
          rfl
        | none => simp
    rw [h'.loaded, h.loaded, both, Nat.add_assoc]
  · have same := h'.idle b e
    exact same.trans (h.idle b (by rw [← same]; exact e))
  · cases e' : (q'.state.bun b).active with
    | none => exact h'.new b r e' e
    | some r' =>
      have same := h'.kept b (by rw [e']; rfl)
      rw [same] at e ⊢
      exact h.new b r free e

/-- Nothing about the bundles or the counts. -/
theorem Tally.of_bundles {held : BundleId → RawRecord → Prop} {q q' : Progress}
    (bundles : q'.state.bundles = q.state.bundles)
    (loaded : q'.loaded = q.loaded) (refused : q'.refused = q.refused) : Tally held q q' 0 := by
  have same : ∀ b, q'.state.bun b = q.state.bun b := fun b => by simp only [State.bun, bundles]
  refine ⟨by rw [loaded, refused]; rfl, ?_, fun b _ => same b, fun b _ => same b, fun b r free e => ?_⟩
  · have none : newly q.state q'.state = 0 := by
      unfold newly
      rw [List.countP_eq_zero]
      intro b _
      rw [same]
      cases (q.state.bun b).active <;> simp
    rw [loaded, none]; rfl
  · rw [same, free] at e; cases e

/-- A record refused or loaded, as it is counted (R42). -/
theorem Progress.record_cases (q : Progress) (x : Nat × RawRecord) :
    (q.record x = ⟨q.state, q.loaded, q.refused + 1⟩ ∧ bundleOf x.1 = none) ∨
    ∃ b : BundleId, x.1 = b.val ∧
      ((∃ status, q.record x = ⟨q.state.loadRefused b status, q.loaded, q.refused + 1⟩) ∨
        ∃ r clamped y size, (q.state.bun b).active = none ∧ x.2.stored = some (r, clamped) ∧
          q.state.validate b r = .ok (y, size) ∧ q.record x =
            ⟨q.state.takeEffect b y size, q.loaded + 1, q.refused⟩) := by
  unfold Progress.record
  cases e : bundleOf x.1 with
  | none => exact .inl ⟨rfl, rfl⟩
  | some b =>
    have val : x.1 = b.val := by
      unfold bundleOf at e
      split at e
      · rw [← Option.some.inj e]
      · cases e
    refine .inr ⟨b, val, ?_⟩
    have h := q.state.loadRecord_cases b x.2
    simp only
    generalize q.state.loadRecord b x.2 = y at h
    cases h with
    | refused status => exact .inl ⟨status, rfl⟩
    | loaded r clamped y size free stored valid => exact .inr ⟨r, clamped, y, size, free, stored, valid, rfl⟩

/-- A validated record differs from the one asked for in FPP and max depth alone (R24, R26). -/
theorem validate_ok_same {s : State} {b : BundleId} {r q : Record} {size : Nat} (h : s.validate b r = .ok (q, size)) :
    q = { r with fpp := q.fpp, maxDepth := q.maxDepth } := by
  unfold State.validate at h
  simp only at h
  split at h
  · cases h
  · split at h
    · cases h
    · split at h
      · cases h
      · have e : q = (sizeRing (payloadClamp r)).1 := (congrArg Prod.fst (Except.ok.inj h)).symm
        rw [sizeRing_spec] at e
        rw [e]
        unfold payloadClamp
        split <;> rfl

theorem Tally.record {held : BundleId → RawRecord → Prop} (q : Progress) {x : Nat × RawRecord}
    (h : ∀ b : BundleId, x.1 = b.val → held b x.2) : Tally held q (q.record x) 1 := by
  have refused : ∀ u : State, u.bundles = q.state.bundles → Tally held q ⟨u, q.loaded, q.refused + 1⟩ 1 :=
    fun u bundles => by
      have same : Tally held q ⟨u, q.loaded, q.refused⟩ 0 := .of_bundles bundles rfl rfl
      exact ⟨rfl, same.loaded, same.kept, same.idle, same.new⟩
  rcases q.record_cases x with ⟨e, -⟩ | ⟨b, val, ⟨status, e⟩ | ⟨r, clamped, y, size, free, stored, valid, e⟩⟩
  · rw [e]; exact refused _ rfl
  · rw [e]; exact refused _ rfl
  · have new := NewlyActive.takeEffect free y size
    rw [e]
    generalize q.state.takeEffect b y size = u at new
    have one : newly q.state u = 1 := by
      have e : (fun c => (u.bun c).active.isSome && (q.state.bun c).active.isNone) = fun c => c == b := by
        funext c
        by_cases ne : c = b
        · subst ne; rw [new.active, free]; simp
        · rw [new.others c ne]
          cases (q.state.bun c).active <;> simp [ne]
      unfold newly
      rw [e]
      exact List.count_eq_one_of_mem (List.nodup_finRange 64) (List.mem_finRange b)
    refine ⟨by simp only; omega, by simp only; rw [one], fun c some => new.others c fun e => ?_, fun c none => ?_,
      fun c r' free' e' => ?_⟩
    · rw [e, free] at some; cases some
    · exact new.others c fun e => by rw [e, new.active] at none; cases none
    · have e : c = b := by
        by_contra ne
        rw [new.others c ne, free'] at e'; cases e'
      subst e
      rw [new.active] at e'
      cases e'
      exact ⟨⟨x.2, r, clamped, h c val, stored, validate_ok_same valid⟩,
        ⟨new.pending, new.check, new.recordFault, new.armed, new.state⟩⟩

theorem Tally.records {held : BundleId → RawRecord → Prop} (xs : List (Nat × RawRecord))
    (h : ∀ x ∈ xs, ∀ b : BundleId, x.1 = b.val → held b x.2) (q : Progress) :
    Tally held q (xs.foldl Progress.record q) xs.length := by
  induction xs generalizing q with
  | nil => exact .of_bundles rfl rfl rfl
  | cons x xs ih =>
    have k := (Tally.record q (h x List.mem_cons_self)).trans
      (ih (fun y hy => h y (List.mem_cons_of_mem _ hy)) (q.record x))
    rwa [Nat.add_comm, ← List.length_cons (a := x)] at k

/-! ## The records of a section (R42) -/

/-- The records a section holds. -/
def ImageSection.records : ImageSection → List (Nat × RawRecord)
  | .bundles rs => rs
  | _ => []

/-- How many of them name a bundle number in a byte. -/
def ImageSection.numbered (x : ImageSection) : List (Nat × RawRecord) := x.records.filter fun r => decide (r.1 < 256)

theorem length_ascending (xs : List (Nat × RawRecord)) :
    (ascending xs).length = (xs.filter fun r => decide (r.1 < 256)).length := by
  have upTo : ∀ n, ((List.range n).flatMap fun m => xs.filter fun x => x.1 == m).length =
      (xs.filter fun r => decide (r.1 < n)).length := fun n => by
    induction n with
    | zero => simp
    | succ n ih =>
      have add : xs.countP (fun r => decide (r.1 < n + 1)) = xs.countP (fun r => decide (r.1 < n)) +
          xs.countP fun r => r.1 == n := by
        refine countP_add (fun r => ?_) xs
        by_cases e : r.1 = n
        · simp [e]
        · have iff : (r.1 < n + 1) = (r.1 < n) := by rw [eq_iff_iff]; omega
          simp [e, iff]
      rw [List.range_succ, List.flatMap_append, List.length_append, ih, ← List.countP_eq_length_filter,
        ← List.countP_eq_length_filter, add, List.countP_eq_length_filter (p := fun r : Nat × RawRecord => r.1 == n)]
      simp
  exact upTo 256

theorem Tally.apply {held : BundleId → RawRecord → Prop} (q : Progress) {x : ImageSection}
    (h : ∀ y ∈ x.records, ∀ b : BundleId, y.1 = b.val → held b y.2) : Tally held q (q.apply x) x.numbered.length := by
  have part := PartOf.apply q x
  cases x with
  | bundles rs =>
    have k := Tally.records (ascending rs) (fun y hy b e => h y
      ((mem_ascending (by rw [e]; exact b.isLt.trans (by decide))).1 hy) b e) q
    rwa [length_ascending] at k
  | settings x => exact .of_bundles (part.bundles (by simp [ImageSection.order])) rfl rfl
  | tribs xs => exact .of_bundles (part.bundles (by simp [ImageSection.order])) rfl rfl
  | timing x mode c => exact .of_bundles (part.bundles (by simp [ImageSection.order])) rfl rfl
  | lists east west => exact .of_bundles (part.bundles (by simp [ImageSection.order])) rfl rfl
  | skipped => exact .of_bundles (part.bundles (by simp [ImageSection.order])) rfl rfl

theorem Tally.sections {held : BundleId → RawRecord → Prop} (xs : List ImageSection)
    (h : ∀ x ∈ xs, ∀ y ∈ x.records, ∀ b : BundleId, y.1 = b.val → held b y.2) (q : Progress) :
    Tally held q (xs.foldl Progress.apply q) (xs.flatMap ImageSection.numbered).length := by
  induction xs generalizing q with
  | nil => exact .of_bundles rfl rfl rfl
  | cons x xs ih =>
    have k := (Tally.apply q (h x List.mem_cons_self)).trans
      (ih (fun y hy => h y (List.mem_cons_of_mem _ hy)) (q.apply x))
    rwa [← List.length_append, ← List.flatMap_cons] at k

/-- The order of the kinds leaves what one kind holds in its order. -/
theorem flatMap_tableOrder {α : Type} (f : ImageSection → List α) (n : Nat) (h : ∀ x, x.order ≠ n → f x = [])
    (xs : List ImageSection) : (tableOrder xs).flatMap f = xs.flatMap f := by
  have lone : ∀ ys : List ImageSection, (ys.filter fun x => x.order == n).flatMap f = ys.flatMap f := fun ys =>
    flatMap_filter_of_nil _ _ ys fun x hx => h x (by simpa using hx)
  rw [← lone, filter_tableOrder, lone]

theorem ImageSection.records_eq_nil {x : ImageSection} (h : x.order ≠ 5) : x.records = [] := by
  cases x with
  | bundles rs => exact absurd rfl h
  | _ => rfl

/-! ## Ports settled after the sections (R18) -/

/-- A configuration once its STEERED clock has been settled (R18, R176). -/
def settledClock (s : State) (p : TribId) (cfg : TribConfig) : TribConfig :=
  match cfg.clock with
  | .steered b => if (s.bun b).isOn p then cfg else { cfg with clock := .system }
  | _ => cfg

theorem State.trib_settleClock (s : State) (p q : TribId) : (s.settleClock p).trib q =
    if q = p then { s.trib p with cfg := settledClock s p (s.trib p).cfg } else s.trib q := by
  unfold State.settleClock settledClock
  cases e : (s.trib p).cfg.clock with
  | steered b =>
    simp only
    split
    · split
      · next h => rw [h]
      · rfl
    · rw [State.trib_modTrib]
  | system => simp only; split <;> simp_all
  | loop => simp only; split <;> simp_all

theorem State.settleClocks_spec {ps : List TribId} (nodup : ps.Nodup) (s : State) :
    PartOf 2 s (ps.foldl State.settleClock s) ∧ (ps.foldl State.settleClock s).ctrls = s.ctrls ∧
    (ps.foldl State.settleClock s).timing = s.timing ∧ (ps.foldl State.settleClock s).now = s.now ∧
    ∀ p, (ps.foldl State.settleClock s).trib p =
      if p ∈ ps then { s.trib p with cfg := settledClock s p (s.trib p).cfg } else s.trib p := by
  induction ps generalizing s with
  | nil => exact ⟨.refl .., rfl, rfl, rfl, fun _ => rfl⟩
  | cons q ps ih =>
    obtain ⟨fresh, rest⟩ := List.nodup_cons.1 nodup
    obtain ⟨part, ctrls, timing, now, each⟩ := ih rest (s.settleClock q)
    have first := PartOf.settleClock s q
    have frame : (s.settleClock q).ctrls = s.ctrls ∧ (s.settleClock q).timing = s.timing ∧
        (s.settleClock q).now = s.now := by
      unfold State.settleClock; split
      · split <;> exact ⟨rfl, rfl, rfl⟩
      · exact ⟨rfl, rfl, rfl⟩
    refine ⟨first.trans part, ctrls.trans frame.1, timing.trans frame.2.1, now.trans frame.2.2, fun p => ?_⟩
    have bun : ∀ b, (s.settleClock q).bun b = s.bun b := fun b => by
      simp only [State.bun, first.bundles (by decide)]
    have settled : ∀ cfg, settledClock (s.settleClock q) p cfg = settledClock s p cfg := fun cfg => by
      unfold settledClock; simp only [bun]
    rw [List.foldl_cons, each, settled, State.trib_settleClock]
    by_cases e : p = q
    · subst e; simp [fresh]
    · simp [e]

/-! ## The state a passed image leaves -/

/-- What follows the sections: the clocks are settled and the load ends (R18, R176). -/
structure Ended (q : Progress) (t : State) : Prop where
  load : t.load = .loaded q.loaded q.refused
  part : PartOf 2 q.state t
  timing : t.timing = q.state.timing
  cfg : ∀ p, (t.trib p).cfg = settledClock q.state p (q.state.trib p).cfg
  posts : Posts q.state t [eventNow q.state .imageLoaded .none (q.loaded * 65536 + q.refused)]

theorem applyImage_ended (s : State) (xs : List ImageSection) :
    Ended ((tableOrder xs).foldl Progress.apply ⟨s, 0, 0⟩) (s.applyImage xs) := by
  obtain ⟨q, hq⟩ : ∃ q, q = (tableOrder xs).foldl Progress.apply ⟨s, 0, 0⟩ := ⟨_, rfl⟩
  have e : s.applyImage xs = ({ allTribs.foldl State.settleClock q.state with
      load := .loaded q.loaded q.refused } : State).post .imageLoaded .none (q.loaded * 65536 + q.refused) := by
    rw [hq]; rfl
  obtain ⟨part, ctrls, timing, now, each⟩ := State.settleClocks_spec (List.nodup_finRange 8) q.state
  rw [e, ← hq]
  generalize hu : allTribs.foldl State.settleClock q.state = u at *
  change List.foldl State.settleClock q.state (List.finRange 8) = u at hu
  rw [hu] at part ctrls timing now each
  refine ⟨rfl, ⟨part.captures, part.save, part.pending, part.up, part.settings, fun ne => absurd rfl ne, part.timing,
    part.lists, part.bundles⟩, timing, fun p => ?_, ?_⟩
  · change (u.trib p).cfg = _
    rw [each, if_pos (by simp)]
  · have posted := Posts.post ({ u with load := .loaded q.loaded q.refused } : State) .imageLoaded .none
      (q.loaded * 65536 + q.refused)
    have same : eventNow ({ u with load := .loaded q.loaded q.refused } : State) = eventNow q.state :=
      eventNow_of_now now
    rw [same] at posted
    have base : Posts q.state ({ u with load := .loaded q.loaded q.refused } : State) [] := Posts.of_ctrls ctrls
    exact Posts.trans base posted

end Sys2Proof.Machine
end

section
/-! The image load, its ends and what a passed image leaves (R18, R42, R81, R164, R170, R176): the rest of O24. -/

namespace Sys2Proof.Machine

open Safety

/-! ## The load that does not pass -/

theorem imageLoad_idle {s : State} (h : s.load ≠ .loading) (bs : List Byte) :
    imageLoad bs s = s ∧ memoryReadyTimeout s = s := by
  have e : s.loading = false := by simp [State.loading, h]
  simp [imageLoad, memoryReadyTimeout, e]

theorem memoryReadyTimeout_loading {s : State} (h : s.load = .loading) : memoryReadyTimeout s =
    if 12500000 ≤ s.now then ({ s with load := .absentNoAnswer } : State).post .imageAbsent .none 0 else s := by
  unfold memoryReadyTimeout
  exact if_congr (by
    rw [Bool.and_eq_true, decide_eq_true_iff]
    simp [State.loading, h, Config.memoryReadyTicks]) rfl rfl

theorem checkImage_absent {bs : List Byte} (h : fieldAt bs 0 4 ≠ 0xC5A3B816) : checkImage bs = .absent := by
  have e : fieldAt bs 0 4 ≠ imageMarker := h
  exact if_pos e

/-- The count that a fault leaves (R174). -/
theorem count_add (f : Faults) (r : FaultRecord) : (f.add r).count = min (f.count + 1) (max f.count 255) := by
  unfold Faults.add
  simp only
  split <;> omega

/-- A fault posts its event (R174). -/
theorem Posts.recordFault (s : State) (kind : FaultKind) (subject : Option BundleId) (detail : Nat) :
    Posts s (s.recordFault kind subject detail) [faultEvent s kind subject 1] := by
  intro cp
  unfold State.recordFault faultEvent
  rw [← count_add _ ⟨kind, subject, s.eventTime, detail⟩]
  exact Posts.post _ _ _ _ cp

theorem rejectImage_posts (s : State) (cause : ImageCause) : Posts s (s.rejectImage cause)
    [faultEvent s .imageFault none 1, eventNow s .imageRejected .none cause.code] := by
  have fault := Posts.recordFault s .imageFault none cause.code
  have now : (s.recordFault .imageFault none cause.code).now = s.now := rfl
  unfold State.rejectImage
  simp only
  generalize s.recordFault .imageFault none cause.code = u at fault now
  have rejected := Posts.post ({ u with load := .rejected cause } : State) .imageRejected .none cause.code
  have event : eventNow ({ u with load := .rejected cause } : State) = eventNow s := eventNow_of_now now
  rw [event] at rejected
  have fault : Posts s ({ u with load := .rejected cause } : State) [faultEvent s .imageFault none 1] := fault
  exact Posts.trans fault rejected

/-! ## Aspects of the state and the sections that change them (Table 69) -/

/-- The sections of a passed image applied, the clocks not yet settled (R42, R176). -/
def State.applied (s : State) (xs : List ImageSection) : Progress := (tableOrder xs).foldl Progress.apply ⟨s, 0, 0⟩

/-- An aspect of the state that sections of place `n` in Table 69 alone change. -/
def Aspect {α : Type} (A : State → α) (n : Nat) : Prop := ∀ m s t, m ≠ n → PartOf m s t → A t = A s

theorem Aspect.foldl {α : Type} {A : State → α} {n : Nat} (h : Aspect A n) {xs : List ImageSection}
    (none : ∀ x ∈ xs, x.order ≠ n) (q : Progress) : A (xs.foldl Progress.apply q).state = A q.state :=
  foldl_apply_keeps (g := fun x => x.order = n) (fun q x ne => h _ _ _ ne (.apply q x)) xs none q

/-- No section of the kind: what it holds stays. -/
theorem Aspect.of_none {α : Type} {A : State → α} {n : Nat} (h : Aspect A n) {xs : List ImageSection}
    (none : ∀ x ∈ xs, x.order ≠ n) (s : State) : A (s.applied xs).state = A s :=
  h.foldl (fun x hx => none x (mem_tableOrder.1 hx)) _

/-- The last section of a kind, with the sections applied before it and after it. -/
theorem applied_last (s : State) {pre post : List ImageSection} {x : ImageSection}
    (h : ∀ y ∈ post, y.order ≠ x.order) : ∃ before after : List ImageSection,
    s.applied (pre ++ x :: post) = after.foldl Progress.apply ((before.foldl Progress.apply ⟨s, 0, 0⟩).apply x) ∧
      (∀ y ∈ before, y.order ≤ x.order) ∧ ∀ y ∈ after, x.order < y.order := by
  obtain ⟨before, after, e, le, lt⟩ := tableOrder_last h (pre := pre)
  exact ⟨before, after, by rw [State.applied, e, List.foldl_append, List.foldl_cons], le, lt⟩

/-- The last section of a kind prevails (R183). -/
theorem Aspect.of_last {α : Type} {A : State → α} {n : Nat} (h : Aspect A n) {pre post : List ImageSection}
    {x : ImageSection} (own : x.order = n) (none : ∀ y ∈ post, y.order ≠ n) (s : State) :
    ∃ q : Progress, A (s.applied (pre ++ x :: post)).state = A (q.apply x).state := by
  subst own
  obtain ⟨before, after, e, -, lt⟩ := applied_last s none (pre := pre)
  exact ⟨before.foldl Progress.apply ⟨s, 0, 0⟩, by rw [e, h.foldl fun y hy => (lt y hy).ne']⟩

/-- The clocks settled and the load ended change the ports alone. -/
theorem Aspect.ended {α : Type} {A : State → α} {n : Nat} (h : Aspect A n) (ne : 2 ≠ n) (s : State)
    (xs : List ImageSection) : A (s.applyImage xs) = A (s.applied xs).state :=
  h _ _ _ ne (applyImage_ended s xs).part

theorem aspect_bundles : Aspect State.bundles 5 := fun _ _ _ ne h => h.bundles ne

theorem aspect_settings : Aspect State.settings 1 := fun _ _ _ ne h => h.settings ne

theorem aspect_list (k : NetPort) : Aspect (fun s => (s.net k).list) 4 := fun _ _ _ ne h => h.lists ne k

theorem aspect_cfg (p : TribId) : Aspect (fun s => (s.trib p).cfg) 2 := fun _ _ _ ne h => h.ports ne p

/-- The timing mode, and each candidate's priority and qualify time (R156, R157). -/
def Timing.config (x : Timing) : TimingMode × (Candidate → Nat × Nat) :=
  (x.mode, fun c => ((x.candidate c).priority, (x.candidate c).qualify))

theorem SameConfig.config_eq {x y : Timing} (h : SameConfig x y) : y.config = x.config := by
  simp only [Timing.config, h.mode, h.priority, h.qualify]

theorem aspect_timing : Aspect (fun s => s.timing.config) 3 := fun _ _ _ ne h => (h.timing ne).config_eq

theorem order_of_kind (x : ImageSection) :
    (x.order = 1 → ∃ y, x = .settings y) ∧ (x.order = 2 → ∃ ys, x = .tribs ys) ∧
    (x.order = 3 → ∃ raw m c, x = .timing raw m c) ∧ (x.order = 4 → ∃ east west, x = .lists east west) ∧
    (x.order = 5 → ∃ rs, x = .bundles rs) := by
  cases x <;> simp [ImageSection.order]

/-- Between two states the parts of a load leave the inputs, the captures and the save. -/
theorem applied_kept (s : State) (xs : List ImageSection) :
    (s.applied xs).state.captures = s.captures ∧ (s.applied xs).state.save = s.save ∧
    (s.applied xs).state.pending = s.pending ∧ ∀ n, ((s.applied xs).state.net n).up = (s.net n).up := by
  have keep : Aspect (fun s : State => (s.captures, s.save, s.pending, fun n => (s.net n).up)) 6 :=
    fun _ _ _ _ h => by simp only [h.captures, h.save, h.pending, h.up]
  have same := keep.of_none (xs := xs) (fun x _ => by have := x.order_lt; omega) s
  simp only [Prod.mk.injEq] at same
  exact ⟨same.1, same.2.1, same.2.2.1, fun n => congrFun same.2.2.2 n⟩

/-! ## Settings, timing and lists -/

theorem loadSettings_spec (s : State) (x : RawSettings) :
    (s.loadSettings x).settings.east = x.east ∧ (s.loadSettings x).settings.west = x.west ∧
    (s.loadSettings x).settings.idleLimit = max 1 (min x.idleLimit 60) ∧
    (0x0600 ≤ x.bundleType → x.bundleType ≤ 0xFFFF → x.bundleType ≠ 0x8100 →
      (s.loadSettings x).settings.bundleType = x.bundleType) := by
  refine ⟨rfl, rfl, ?_, fun low high ne => ?_⟩
  · change clampNat 1 60 x.idleLimit = _
    unfold clampNat; omega
  · exact if_pos (by simp [bundleTypeValid, low, high, ne])

theorem loadTiming_spec (s : State) (raw : Vector RawPriority 9) (m c : Nat) :
    (∀ mode, timingModeOf m c = some mode → (s.loadTiming raw m c).timing.mode = mode) ∧
    ∀ d, ((s.loadTiming raw m c).timing.candidate d).priority = min raw[d.index].priority 7 ∧
      ((s.loadTiming raw m c).timing.candidate d).qualify = min raw[d.index].qualify 600 := by
  unfold State.loadTiming
  simp only
  generalize hu : ({ s with timing := { s.timing.configure raw with
    mode := (timingModeOf m c).getD (s.timing.configure raw).mode } } : State) = u
  have same := u.evaluateTiming_same
  have own : ∀ d, u.timing.candidate d = (s.timing.configure raw).candidate d := fun d => by rw [← hu]; rfl
  refine ⟨fun mode e => ?_, fun d => ?_⟩
  · rw [same.mode, ← hu]
    simp [e]
  · rw [same.candidate, own, Timing.candidate_configure]
    exact ⟨rfl, rfl⟩

/-- The settings in force once a passed image has been applied (R170). -/
theorem settings_of_last {s : State} {pre post : List ImageSection} {x : RawSettings}
    (last : ∀ y, ImageSection.settings y ∉ post) : ∃ u : State,
    (s.applyImage (pre ++ .settings x :: post)).settings = (u.loadSettings x).settings := by
  obtain ⟨q, e⟩ := aspect_settings.of_last (pre := pre) (x := .settings x) rfl (fun y hy own => by
    obtain ⟨z, rfl⟩ := (order_of_kind y).1 own; exact last z hy) s
  exact ⟨q.state, (aspect_settings.ended (by decide) s _).trans e⟩

/-- The timing configuration in force then (R164). -/
theorem timing_of_last {s : State} {pre post : List ImageSection} {raw : Vector RawPriority 9} {m c : Nat}
    (last : ∀ raw' m' c', ImageSection.timing raw' m' c' ∉ post) : ∃ u : State,
    (s.applyImage (pre ++ .timing raw m c :: post)).timing.config = (u.loadTiming raw m c).timing.config := by
  obtain ⟨q, e⟩ := aspect_timing.of_last (pre := pre) (x := .timing raw m c) rfl (fun y hy own => by
    obtain ⟨raw', m', c', rfl⟩ := (order_of_kind y).2.2.1 own; exact last _ _ _ hy) s
  exact ⟨q.state, (aspect_timing.ended (by decide) s _).trans e⟩

/-- The acceptance lists then (R81). -/
theorem lists_of_last {s : State} {pre post : List ImageSection} {east west : List RawEntry}
    (last : ∀ e w, ImageSection.lists e w ∉ post) :
    ((s.applyImage (pre ++ .lists east west :: post)).net .east).list = installed east ∧
    ((s.applyImage (pre ++ .lists east west :: post)).net .west).list = installed west := by
  have none : ∀ y ∈ post, y.order ≠ 4 := fun y hy own => by
    obtain ⟨e, w, rfl⟩ := (order_of_kind y).2.2.2.1 own; exact last e w hy
  have each : ∀ k, ∃ q : Progress, ((s.applyImage (pre ++ .lists east west :: post)).net k).list =
      ((q.state.loadLists east west).net k).list := fun k => by
    obtain ⟨q, e⟩ := (aspect_list k).of_last (pre := pre) (x := .lists east west) rfl none s
    exact ⟨q, ((aspect_list k).ended (by decide) s _).trans e⟩
  obtain ⟨q, e⟩ := each .east
  obtain ⟨q', e'⟩ := each .west
  exact ⟨e.trans rfl, e'.trans rfl⟩

/-! ## Ports -/

theorem occupied_of_free {s : State} (h : ∀ b, (s.bun b).active = none ∧ (s.bun b).armed = none) (p : TribId) :
    s.occupied p = false := by
  unfold State.occupied
  rw [List.any_eq_false]
  intro b _
  obtain ⟨active, armed⟩ := h b
  simp [Bundle.isOn, Bundle.armedRecord, active, armed]

theorem loadTribs_bundles (xs : List (Nat × RawTribConfig)) (s : State) :
    (xs.foldl State.loadTrib s).bundles = s.bundles :=
  (PartOf.foldl .loadTrib xs s).bundles (by decide)

/-- The last configuration that names a port stands (R18). -/
theorem loadTribs_last {s : State} (free : ∀ b, (s.bun b).active = none ∧ (s.bun b).armed = none)
    {ya yb : List (Nat × RawTribConfig)} {p : TribId} {raw : RawTribConfig} {cfg : TribConfig}
    (last : ∀ z ∈ yb, z.1 ≠ p.val) (typed : raw.typed raw.storedClock = some cfg) :
    (((ya ++ (p.val, raw) :: yb).foldl State.loadTrib s).trib p).cfg = cfg := by
  have later : ∀ (zs : List (Nat × RawTribConfig)) (u : State), (∀ z ∈ zs, z.1 ≠ p.val) →
      (zs.foldl State.loadTrib u).trib p = u.trib p := fun zs => by
    induction zs with
    | nil => exact fun _ _ => rfl
    | cons z zs ih =>
      intro u h
      rw [List.foldl_cons, ih _ fun y hy => h y (List.mem_cons_of_mem _ hy),
        State.trib_loadTrib_ne u (h z List.mem_cons_self)]
  rw [List.foldl_append, List.foldl_cons, later yb _ last]
  have bundles := loadTribs_bundles ya s
  generalize ya.foldl State.loadTrib s = u at bundles
  have opens : u.occupied p = false := by
    refine occupied_of_free (fun b => ?_) p
    have e : u.bun b = s.bun b := by simp only [State.bun, bundles]
    rw [e]; exact free b
  have own : u.loadTrib (p.val, raw) = u.applyTrib p cfg := by
    have e : tribOf p.val = some p := by simp [tribOf]
    simp [State.loadTrib, e, typed, State.kindRefused, opens]
  rw [own]
  exact (applyTrib_rest u p cfg).2.2

theorem settledClock_congr {s t : State} (h : ∀ b, s.bun b = t.bun b) (p : TribId) (cfg : TribConfig) :
    settledClock s p cfg = settledClock t p cfg := by
  unfold settledClock; simp only [h]

theorem cfg_of_last {s : State} (free : ∀ b, (s.bun b).active = none ∧ (s.bun b).armed = none)
    {pre post : List ImageSection} {ya yb : List (Nat × RawTribConfig)} {p : TribId} {raw : RawTribConfig}
    {cfg : TribConfig} (last : ∀ zs, ImageSection.tribs zs ∉ post) (lone : ∀ z ∈ yb, z.1 ≠ p.val)
    (typed : raw.typed raw.storedClock = some cfg) {t : State}
    (ht : t = s.applyImage (pre ++ .tribs (ya ++ (p.val, raw) :: yb) :: post)) :
    (t.trib p).cfg = settledClock t p cfg := by
  obtain ⟨before, after, e, le, lt⟩ :=
    applied_last s (pre := pre) (x := .tribs (ya ++ (p.val, raw) :: yb)) fun y hy own => by
      obtain ⟨zs, rfl⟩ := (order_of_kind y).2.1 own
      exact last zs hy
  have ended := applyImage_ended s (pre ++ .tribs (ya ++ (p.val, raw) :: yb) :: post)
  rw [← ht] at ended
  have cfgs := ended.cfg p
  have stood : ((s.applied (pre ++ .tribs (ya ++ (p.val, raw) :: yb) :: post)).state.trib p).cfg = cfg := by
    have bundles : (before.foldl Progress.apply ⟨s, 0, 0⟩).state.bundles = s.bundles :=
      aspect_bundles.foldl (fun y hy own => by
        have := le y hy
        rw [own] at this
        exact absurd this (by simp [ImageSection.order])) _
    rw [e, (aspect_cfg p).foldl fun y hy => (lt y hy).ne']
    exact loadTribs_last (fun b => by simp only [State.bun, bundles]; exact free b) lone typed
  have bundles : t.bundles = (s.applied (pre ++ .tribs (ya ++ (p.val, raw) :: yb) :: post)).state.bundles :=
    ended.part.bundles (by decide)
  unfold State.applied at stood bundles
  rw [stood] at cfgs
  rw [cfgs]
  exact settledClock_congr (fun b => by simp only [State.bun, bundles]) p cfg

end Sys2Proof.Machine
end

section
/-! The records of a passed image, and O24. -/

namespace Sys2Proof.Machine

open Safety

/-! ## What a passed image does to the bundles -/

/-- The image stores record `raw` for bundle `b`. -/
def Held (xs : List ImageSection) (b : BundleId) (raw : RawRecord) : Prop :=
  ∃ rs, ImageSection.bundles rs ∈ xs ∧ (b.val, raw) ∈ rs

theorem applied_tally (s : State) (xs : List ImageSection) :
    Tally (Held xs) ⟨s, 0, 0⟩ (s.applied xs) (xs.flatMap ImageSection.numbered).length := by
  have numbered : ∀ x : ImageSection, x.order ≠ 5 → x.numbered = [] := fun x ne => by
    rw [ImageSection.numbered, ImageSection.records_eq_nil ne]; rfl
  have k := Tally.sections (held := Held xs) (tableOrder xs) (fun x hx y hy b val => by
    cases x with
    | bundles rs => exact ⟨rs, mem_tableOrder.1 hx, by rw [← val]; exact hy⟩
    | _ => cases hy) ⟨s, 0, 0⟩
  rwa [flatMap_tableOrder _ 5 numbered] at k

theorem bun_applyImage (s : State) (xs : List ImageSection) (b : BundleId) :
    (s.applyImage xs).bun b = (s.applied xs).state.bun b := by
  have bundles := (applyImage_ended s xs).part.bundles (by decide)
  simp only [State.bun, bundles, State.applied]

theorem applied_now (s : State) (xs : List ImageSection) : (s.applied xs).state.now = s.now :=
  (LoadPart.sections (tableOrder xs) ⟨s, 0, 0⟩).now

/-- The order of neighbouring sections of different kinds does not matter (R183). -/
theorem applyImage_swap (s : State) (pre post : List ImageSection) {x y : ImageSection} (h : DifferentKinds x y) :
    s.applyImage (pre ++ y :: x :: post) = s.applyImage (pre ++ x :: y :: post) := by
  have same : x.order = y.order → x = y := fun e => by
    cases x <;> cases y <;> simp_all [DifferentKinds, ImageSection.order]
  have order : tableOrder (pre ++ y :: x :: post) = tableOrder (pre ++ x :: y :: post) :=
    tableOrder_congr fun n => by
      by_cases e : x.order = y.order
      · rw [same e]
      · have apart : ¬ (x.order = n ∧ y.order = n) := fun ⟨hx, hy⟩ => e (hx.trans hy.symm)
        simp only [List.filter_append, List.filter_cons, beq_iff_eq]
        by_cases hx : x.order = n <;> by_cases hy : y.order = n <;> simp_all
  unfold State.applyImage
  rw [order]

theorem timing_of_config {x y : Timing} (h : y.config = x.config) : y.mode = x.mode ∧
    ∀ d, (y.candidate d).priority = (x.candidate d).priority ∧ (y.candidate d).qualify = (x.candidate d).qualify := by
  simp only [Timing.config, Prod.mk.injEq] at h
  exact ⟨h.1, fun d => by simpa using congrFun h.2 d⟩

/-! ## One stored record (R42) -/

/-- The load when the sections of Table 69 before the records have been applied. -/
def State.beforeRecords (s : State) (xs : List ImageSection) : Progress :=
  ((List.range 5).flatMap fun n => xs.filter fun x => x.order == n).foldl Progress.apply ⟨s, 0, 0⟩

theorem ascending_singleton {x : Nat × RawRecord} (h : x.1 < 256) : ascending [x] = [x] := by
  have all : ∀ y ∈ ascending [x], y = x := fun y hy => by
    unfold ascending at hy
    rw [List.mem_flatMap] at hy
    obtain ⟨n, -, hy⟩ := hy
    exact List.mem_singleton.1 (List.mem_filter.1 hy).1
  have one : (ascending [x]).length = 1 := by rw [length_ascending]; simp [h]
  obtain ⟨y, e⟩ := List.length_eq_one_iff.1 one
  rw [e, all y (by rw [e]; exact List.mem_singleton_self y)]

/-- Record sections that hold nothing, and those that hold one record. -/
theorem foldl_apply_bundles {ys : List ImageSection} (h : ∀ y ∈ ys, y.order = 5) (q : Progress) :
    (ys.flatMap ImageSection.records = [] → ys.foldl Progress.apply q = q) ∧
    ∀ x : Nat × RawRecord, x.1 < 256 → ys.flatMap ImageSection.records = [x] → ys.foldl Progress.apply q =
      q.record x := by
  induction ys generalizing q with
  | nil => exact ⟨fun _ => rfl, nofun⟩
  | cons y ys ih =>
    obtain ⟨rs, rfl⟩ := (order_of_kind y).2.2.2.2 (h _ List.mem_cons_self)
    have rest := ih fun z hz => h z (List.mem_cons_of_mem _ hz)
    have records : (ImageSection.bundles rs).records = rs := rfl
    have empty : q.apply (.bundles []) = q := by
      change (ascending []).foldl Progress.record q = q
      rw [List.eq_nil_of_length_eq_zero (by rw [length_ascending]; rfl : (ascending []).length = 0)]
      rfl
    rw [List.flatMap_cons, List.foldl_cons, records]
    refine ⟨fun none => ?_, fun x lt one => ?_⟩
    · obtain ⟨rfl, none⟩ := List.append_eq_nil_iff.1 none
      rw [empty]; exact (rest q).1 none
    · rcases List.append_eq_singleton_iff.1 one with ⟨rfl, one⟩ | ⟨rfl, none⟩
      · rw [empty]; exact (rest q).2 x lt one
      · rw [(rest _).1 none]
        change (ascending [x]).foldl Progress.record q = _
        rw [ascending_singleton lt]
        rfl

/-- An image with one stored record: it is judged last (R42, R183). -/
theorem applied_lone {s : State} {xs : List ImageSection} {b : BundleId} {raw : RawRecord}
    (h : xs.flatMap ImageSection.records = [(b.val, raw)]) :
    s.applied xs = (s.beforeRecords xs).record (b.val, raw) := by
  have order : tableOrder xs = ((List.range 5).flatMap fun n => xs.filter fun x => x.order == n) ++
      xs.filter fun x => x.order == 5 := by
    rw [tableOrder, List.range_succ, List.flatMap_append]; simp
  have one : (xs.filter fun x => x.order == 5).flatMap ImageSection.records = [(b.val, raw)] := by
    rw [flatMap_filter_of_nil _ _ xs fun x hx => ImageSection.records_eq_nil (by simpa using hx), h]
  rw [State.applied, order, List.foldl_append]
  exact (foldl_apply_bundles (fun y hy => by simpa using (List.mem_filter.1 hy).2) _).2 _
    (b.isLt.trans (by decide)) one

/-- The sections before the records leave the bundles and count none. -/
theorem beforeRecords_spec (s : State) (xs : List ImageSection) : (s.beforeRecords xs).state.bundles = s.bundles ∧
    (s.beforeRecords xs).loaded = 0 ∧ (s.beforeRecords xs).refused = 0 ∧ (s.beforeRecords xs).state.now = s.now := by
  have before : ∀ y ∈ (List.range 5).flatMap fun n => xs.filter fun x => x.order == n, y.order ≠ 5 := fun y hy => by
    simp only [List.mem_flatMap, List.mem_range, List.mem_filter, beq_iff_eq] at hy
    obtain ⟨n, lt, -, e⟩ := hy
    omega
  have counts : ∀ (ys : List ImageSection) (q : Progress), (∀ y ∈ ys, y.order ≠ 5) →
      (ys.foldl Progress.apply q).loaded = q.loaded ∧ (ys.foldl Progress.apply q).refused = q.refused := fun ys => by
    induction ys with
    | nil => exact fun _ _ => ⟨rfl, rfl⟩
    | cons y ys ih =>
      intro q h
      obtain ⟨loaded, refused⟩ := ih (q.apply y) fun z hz => h z (List.mem_cons_of_mem _ hz)
      have own : (q.apply y).loaded = q.loaded ∧ (q.apply y).refused = q.refused := by
        cases y with
        | bundles rs => exact absurd rfl (h _ List.mem_cons_self)
        | _ => exact ⟨rfl, rfl⟩
      exact ⟨loaded.trans own.1, refused.trans own.2⟩
  obtain ⟨loaded, refused⟩ := counts _ ⟨s, 0, 0⟩ before
  exact ⟨aspect_bundles.foldl before _, loaded, refused, (LoadPart.sections _ ⟨s, 0, 0⟩).now⟩

/-- The validation reads the bundles and the kinds of the ports alone (R23, R26). -/
theorem validate_congr {s t : State} (bundles : t.bundles = s.bundles)
    (kinds : ∀ p, (t.trib p).cfg.kind = (s.trib p).cfg.kind) (b : BundleId) (r : Record) :
    t.validate b r = s.validate b r := by
  have bun : ∀ o, t.bun o = s.bun o := fun o => by simp only [State.bun, bundles]
  have conflicts : ∀ r, t.conflicts b r = s.conflicts b r := fun r => by simp only [State.conflicts, bun]
  have sum : ∀ size, t.poolSumWith b size = s.poolSumWith b size := fun size => by simp only [State.poolSumWith, bun]
  unfold State.validate
  simp only [kinds, conflicts, sum]

/-- A record read back: taken where its validation passes, refused where it fails (R42). -/
theorem Progress.record_stored {q : Progress} {b : BundleId} {raw : RawRecord} {r : Record} {clamped : Bool}
    (free : (q.state.bun b).active = none) (stored : raw.stored = some (r, clamped)) :
    (∀ r' size, q.state.validate b r = .ok (r', size) →
      q.record (b.val, raw) = ⟨q.state.takeEffect b r' size, q.loaded + 1, q.refused⟩) ∧
    ∀ status, q.state.validate b r = .error status →
      q.record (b.val, raw) = ⟨q.state.loadRefused b status, q.loaded, q.refused + 1⟩ := by
  constructor
  · intro r' size valid
    simp [Progress.record, bundleOf_val, State.loadRecord, free, stored, valid]
  · intro status invalid
    simp [Progress.record, bundleOf_val, State.loadRecord, free, stored, invalid]

/-- The kinds the ports have when the record is judged are those the image leaves. -/
theorem beforeRecords_kind {s : State} {xs : List ImageSection} {b : BundleId} {raw : RawRecord}
    (h : xs.flatMap ImageSection.records = [(b.val, raw)]) (p : TribId) :
    ((s.applyImage xs).trib p).cfg.kind = ((s.beforeRecords xs).state.trib p).cfg.kind := by
  have own := (applyImage_ended s xs).cfg p
  change _ = settledClock (s.applied xs).state p ((s.applied xs).state.trib p).cfg at own
  have kind : ∀ u cfg, (settledClock u p cfg).kind = cfg.kind := fun u cfg => by
    unfold settledClock
    split
    · split <;> rfl
    · rfl
  have records : ((s.applied xs).state.trib p).cfg = ((s.beforeRecords xs).state.trib p).cfg := by
    rw [applied_lone h]
    exact (PartOf.records [(b.val, raw)] (s.beforeRecords xs)).ports (by decide) p
  rw [own, kind, records]

/-- A bundle's lone stored record, judged against the ports as the image leaves them (R42). -/
theorem lone_record {s t : State} {xs : List ImageSection} {b : BundleId} {raw : RawRecord} {r : Record}
    {clamped : Bool}
    (ht : t = s.applyImage xs) (h : xs.flatMap ImageSection.records = [(b.val, raw)])
    (free : (s.bun b).active = none) (stored : raw.stored = some (r, clamped)) :
    (∀ r' size, ({ s with tribs := t.tribs } : State).validate b r = .ok (r', size) →
      (t.bun b).active = some r' ∧ (t.bun b).ringSize = size ∧ (s.applied xs).loaded = 1 ∧ (s.applied xs).refused = 0) ∧
    ∀ status, ({ s with tribs := t.tribs } : State).validate b r = .error status →
      (t.bun b).active = none ∧ (s.applied xs).loaded = 0 ∧ (s.applied xs).refused = 1 ∧
      Reported t (loadRefusedEvent s b status) := by
  obtain ⟨bundles, loaded, refused, now⟩ := beforeRecords_spec s xs
  have bun : (s.beforeRecords xs).state.bun b = s.bun b := by simp only [State.bun, bundles]
  have free' : ((s.beforeRecords xs).state.bun b).active = none := by rw [bun, free]
  have judged : ({ s with tribs := t.tribs } : State).validate b r = (s.beforeRecords xs).state.validate b r :=
    validate_congr (s := (s.beforeRecords xs).state) (t := { s with tribs := t.tribs }) bundles.symm
      (fun p => by change (t.trib p).cfg.kind = _; rw [ht]; exact beforeRecords_kind h p) b r
  obtain ⟨passes, fails⟩ := Progress.record_stored free' stored
  rw [judged]
  refine ⟨fun r' size valid => ?_, fun status invalid => ?_⟩
  · have new := NewlyActive.takeEffect free' r' size
    rw [ht, bun_applyImage, applied_lone h, passes r' size valid, loaded, refused]
    exact ⟨new.active, new.ringSize, rfl, rfl⟩
  · have grows := (applyImage_loadPart s xs).queues
    have told := reported_loadRefused (s.beforeRecords xs).state b status
    have event : loadRefusedEvent (s.beforeRecords xs).state b status = loadRefusedEvent s b status := by
      simp only [loadRefusedEvent, eventNow_of_now now, bun]
    have applied := applied_lone (s := s) h
    rw [fails status invalid] at applied
    change ∀ cp, Grows ((s.applied xs).state.ctrl cp) _ at grows
    rw [applied] at grows
    rw [ht, bun_applyImage, applied, loaded, refused, ← event]
    exact ⟨free', rfl, rfl, reported_mono told grows⟩

/-- A refused record posts its event and no other (R42). -/
theorem Posts.loadRefused (s : State) (b : BundleId) (status : Status) :
    Posts s (s.loadRefused b status) [loadRefusedEvent s b status] := by
  have own : ∀ (x : BState) (cause : StateCause) (code : Nat), Posts s (s.postBundleState b x x cause code)
      [eventNow s .bundleState (.bundle b) (code * 16777216 + (cause.code * 65536 + x.code * 256 + x.code))] :=
    fun x cause code => by
      unfold State.postBundleState changeDetail
      exact Posts.post s .bundleState (.bundle b) _
  have h := own (s.bun b).state .loadRefused status.code
  rwa [← Nat.add_assoc, ← Nat.add_assoc] at h

/-- An image that is one section with one record (R42, R173). -/
theorem lone_section {s t : State} {b : BundleId} {raw : RawRecord} {r : Record} {clamped : Bool}
    (ht : t = s.applyImage [.bundles [(b.val, raw)]]) (free : (s.bun b).active = none)
    (stored : raw.stored = some (r, clamped)) :
    (∀ r' size, s.validate b r = .ok (r', size) →
      (t.bun b).active = some r' ∧ (t.bun b).ringSize = size ∧
      Posts s t [bundleStateEvent s b (s.bun b).state (t.bun b).state .activated,
        eventNow s .bundleActivated (.bundle b) 0, eventNow s .imageLoaded .none 65536]) ∧
    ∀ status, s.validate b r = .error status → t.bun b = s.bun b ∧
      Posts s t [loadRefusedEvent s b status, eventNow s .imageLoaded .none 1] := by
  have applied : s.applied [.bundles [(b.val, raw)]] = Progress.record ⟨s, 0, 0⟩ (b.val, raw) := by
    rw [applied_lone (b := b) (raw := raw) rfl]
    rfl
  have ended := (applyImage_ended s [.bundles [(b.val, raw)]]).posts
  have now := applied_now s [.bundles [(b.val, raw)]]
  change Posts (s.applied [.bundles [(b.val, raw)]]).state _ [eventNow (s.applied _).state .imageLoaded .none
    ((s.applied _).loaded * 65536 + (s.applied _).refused)] at ended
  rw [eventNow_of_now now, ← ht] at ended
  have bun := bun_applyImage s [.bundles [(b.val, raw)]] b
  obtain ⟨passes, fails⟩ := Progress.record_stored (q := ⟨s, 0, 0⟩) free stored
  rw [← ht] at bun
  rw [bun]
  refine ⟨fun r' size valid => ?_, fun status invalid => ?_⟩
  · have new := NewlyActive.takeEffect free r' size
    rw [passes r' size valid] at applied
    rw [applied] at ended ⊢
    rw [Nat.zero_add, Nat.one_mul, Nat.add_zero] at ended
    exact ⟨new.active, new.ringSize, Posts.trans new.posts ended⟩
  · rw [fails status invalid] at applied
    rw [applied] at ended ⊢
    rw [Nat.zero_add, Nat.zero_mul, Nat.zero_add] at ended
    exact ⟨rfl, Posts.trans (Posts.loadRefused s b status) ended⟩

/-- Settles O24. -/
theorem imageLoadEndsAbsentRejectedOrLoaded : Obligations.ImageLoadEndsAbsentRejectedOrLoaded := by
  refine ⟨fun bs n marker hn => checkImage_causes bs n marker hn, fun s bs => ⟨fun idle => ?_, fun loading =>
    ⟨fun early => ?_, fun due => ?_, fun absent => ?_, fun cause rejected => ?_, fun xs passed => ?_⟩⟩⟩
  · obtain ⟨image, timeout⟩ := imageLoad_idle idle bs
    exact ⟨congrArg Host.Outcome.next image, congrArg Host.Outcome.next timeout⟩
  · exact congrArg Host.Outcome.next ((memoryReadyTimeout_loading loading).trans (if_neg (by omega)))
  · exact ⟨_, congrArg Host.Outcome.next ((memoryReadyTimeout_loading loading).trans (if_pos due)), rfl,
      Posts.post ({ s with load := .absentNoAnswer } : State) .imageAbsent .none 0⟩
  · have e : imageLoad bs s = ({ s with load := .absentNoMarker } : State).post .imageAbsent .none 1 := by
      simp [imageLoad, State.loading, loading, checkImage_absent absent]
    exact ⟨_, congrArg Host.Outcome.next e, rfl,
      Posts.post ({ s with load := .absentNoMarker } : State) .imageAbsent .none 1⟩
  · have e : imageLoad bs s = s.rejectImage cause := by simp [imageLoad, State.loading, loading, rejected]
    exact ⟨_, congrArg Host.Outcome.next e, rfl, rfl, rejectImage_posts s cause⟩
  · obtain ⟨t, ht⟩ : ∃ t, t = s.applyImage xs := ⟨_, rfl⟩
    have ended : Ended (s.applied xs) t := ht ▸ applyImage_ended s xs
    have tally := applied_tally s xs
    have bun : ∀ b, t.bun b = (s.applied xs).state.bun b := fun b => ht ▸ bun_applyImage s xs b
    obtain ⟨captures, save, pending, up⟩ := applied_kept s xs
    have now : (s.applied xs).state.now = s.now := applied_now s xs
    refine ⟨t, (s.applied xs).loaded, (s.applied xs).refused,
      congrArg Host.Outcome.next (ht ▸ imageLoad_passed loading passed), ended.load, ?_, ?_,
      ended.part.captures.trans captures, ended.part.save.trans save, ?_, ended.part.pending.trans pending,
      fun n => (ended.part.up n).trans (up n), fun none => ?_, fun pre post x e last => ?_, fun none => ?_,
      fun pre post raw m c e last => ?_, fun none n => ?_, fun pre post east west e last => ?_,
      fun pre post ys ya yb raw cfg p e last free eys lone typed => ?_, fun b r active => ?_,
      fun b r free active => ?_, ?_, fun bs' pre post x y e kinds passed' => ?_,
      fun b raw r clamped one free stored => ?_, fun b raw r clamped e free stored => ?_⟩
    · have total := tally.total
      simp only [Nat.zero_add] at total
      rw [total, List.length_flatMap]
      congr 2
      funext x
      cases x <;> rfl
    · rw [← eventNow_of_now now]
      exact ended.posts.reported (List.mem_singleton_self _)
    · rw [ht]; exact (applyImage_loadPart s xs).now.trans now
    · rw [ht, aspect_settings.ended (by decide),
        aspect_settings.of_none fun x hx own => by
          obtain ⟨y, rfl⟩ := (order_of_kind x).1 own; exact none y hx]
    · obtain ⟨u, settings⟩ := settings_of_last (s := s) (pre := pre) (x := x) last
      rw [ht, e, settings]
      exact loadSettings_spec u x
    · have config := (aspect_timing.ended (by decide) s xs).trans (aspect_timing.of_none (xs := xs) (fun x hx own => by
        obtain ⟨raw, m, c, rfl⟩ := (order_of_kind x).2.2.1 own; exact none raw m c hx) s)
      rw [← ht] at config
      exact timing_of_config config
    · obtain ⟨u, config⟩ := timing_of_last (s := s) (pre := pre) (raw := raw) (m := m) (c := c) last
      rw [← e, ← ht] at config
      obtain ⟨mode, each⟩ := timing_of_config config
      obtain ⟨mode', each'⟩ := loadTiming_spec u raw m c
      exact ⟨fun x typed => mode.trans (mode' x typed),
        fun d => ⟨(each d).1.trans (each' d).1, (each d).2.trans (each' d).2⟩⟩
    · have list := aspect_list n
      exact ht ▸ (list.ended (by decide) s xs).trans (list.of_none (fun x hx own => by
        obtain ⟨east, west, rfl⟩ := (order_of_kind x).2.2.2.1 own; exact none east west hx) s)
    · rw [ht, e]
      exact lists_of_last last
    · subst eys
      rw [e] at ht
      exact cfg_of_last free last lone typed ht
    · rw [bun, tally.kept b (by rw [active]; rfl), active]
    · rw [bun] at active ⊢
      obtain ⟨⟨raw, r0, clamped, ⟨rs, hrs, hr⟩, stored, same⟩, new⟩ := tally.new b r free active
      exact ⟨⟨rs, raw, r0, clamped, hrs, hr, stored, same⟩, new.pending, new.check, new.recordFault, new.armed,
        new.state⟩
    · have loaded := tally.loaded
      simp only [Nat.zero_add] at loaded
      rw [loaded, newly, List.countP_eq_length_filter]
      simp only [bun]
    · have swapped := applyImage_swap s pre post kinds
      rw [ht, e, ← swapped]
      exact congrArg Host.Outcome.next (imageLoad_passed loading passed')
    · exact lone_record ht ((congrArg xs.flatMap (funext fun x => by cases x <;> rfl)).trans one) free stored
    · subst e
      obtain ⟨passes, fails⟩ := lone_section ht free stored
      have counts := applied_lone (s := s) (xs := [.bundles [(b.val, raw)]]) (b := b) (raw := raw) rfl
      obtain ⟨passes', fails'⟩ := Progress.record_stored (q := ⟨s, 0, 0⟩) free stored
      refine ⟨fun r' size valid => ?_, fun status invalid => ?_⟩
      · obtain ⟨active, size', posts⟩ := passes r' size valid
        have e := counts.trans (passes' r' size valid)
        exact ⟨active, size', by rw [e], by rw [e], posts⟩
      · obtain ⟨same, posts⟩ := fails status invalid
        have e := counts.trans (fails' status invalid)
        exact ⟨same, by rw [e], by rw [e], posts⟩

end Sys2Proof.Machine
end

section
/-! Receive frames, the assemblers and the offers (R12, R13, R44 to R48, R51, R52): O33. -/

namespace Sys2Proof.Machine

open Safety

/-! ## Two changes of one component -/

theorem State.modAssembly_congr {s : State} {b : BundleId} {f g : Assembly → Assembly}
    (h : f (s.bun b).assembly = g (s.bun b).assembly) : s.modAssembly b f = s.modAssembly b g := by
  unfold State.modAssembly State.modBun; simp only [h]

theorem State.modAssembly_modAssembly (s : State) (b : BundleId) (f g : Assembly → Assembly) :
    (s.modAssembly b f).modAssembly b g = s.modAssembly b fun a => g (f a) := by
  simp [State.modAssembly, State.modBun, State.bun]

theorem State.modNet_congr {s : State} {n : NetPort} {f g : Net → Net} (h : f (s.net n) = g (s.net n)) :
    s.modNet n f = s.modNet n g := by
  unfold State.modNet; rw [h]

theorem State.modNet_modNet (s : State) (n : NetPort) (f g : Net → Net) :
    (s.modNet n f).modNet n g = s.modNet n fun x => g (f x) := by
  cases n <;> rfl

/-! ## Which ports release (R12) -/

theorem locallyTimed_iff (x : RxState) : x.locallyTimed = true ↔ LocallyTimed x := by
  cases x <;> simp [RxState.locallyTimed, LocallyTimed]

theorem State.releases_iff (s : State) (p : TribId) (others : List TribId) (q : TribId) :
    s.releases p others q = true ↔ Releases s p others q := by
  unfold State.releases Releases
  split
  · next e =>
    subst e
    simp only [true_and, bne_iff_ne, ne_eq]
    refine ⟨.inl, fun h => h.elim id fun ⟨_, timed, _⟩ off => ?_⟩
    simp [LocallyTimed, off] at timed
  · next ne => simp [ne, locallyTimed_iff, and_comm]

/-! ## What a bundle gathers of a frame (R13, R44 to R46) -/

/-- The assembly state with the bytes of one more frame. -/
def Assembly.appended (a : Assembly) (bytes : List Byte) (mark : Bool) : Assembly :=
  { a with buffer := a.buffer ++ bytes, frames := a.frames + 1, faultMark := a.faultMark || mark }

/-- The assembly state once its packet is complete, `mark` the fault mark of the last frame. -/
def Assembly.emptied (a : Assembly) (mark : Bool) : Assembly :=
  { a with
    buffer := []
    frames := 0
    faultMark := false
    seq := a.seq + 1
    completed := bump a.completed
    originFaults := if a.faultMark || mark then bump a.originFaults else a.originFaults }

/-- The bytes and the mark a port hands over, as the statement says them. -/
theorem handed_eq {x : Trib} {bytes : Vector Byte 32} {frame : List Byte} {mark : Bool}
    (h : (frame, mark) = if x.rx = .aligned ∨ x.rx = .present then (bytes.toList, false)
      else (List.replicate 32 0xFF, true)) : x.handed bytes = (frame, mark) := by
  rw [h]
  unfold Trib.handed
  exact if_congr (by cases x.rx <;> simp [RxState.onLine]) rfl rfl

theorem State.append_of_lt {s : State} {b : BundleId} {r : Record} (h : (s.bun b).assembly.frames + 1 < r.fpp)
    (bytes : List Byte) (mark : Bool) : s.append b r bytes mark = s.modAssembly b fun a => a.appended bytes mark := by
  unfold State.append
  simp only [if_neg (Nat.not_le.2 h)]
  exact State.modAssembly_congr rfl

theorem State.append_of_le {s : State} {b : BundleId} {r : Record} (h : r.fpp ≤ (s.bun b).assembly.frames + 1)
    (bytes : List Byte) (mark : Bool) : s.append b r bytes mark =
      (((s.modAssembly b fun a => a.emptied mark).offerPacket b r ⟨(s.bun b).assembly.seq,
        (s.bun b).assembly.buffer ++ bytes, (s.bun b).assembly.faultMark || mark, false,
          false⟩).arbitrate .east).arbitrate
        .west := by
  unfold State.append State.complete
  simp only [if_pos h, State.bun_modAssembly_self, State.modAssembly_modAssembly]
  rw [State.modAssembly_congr (g := fun a => a.emptied mark) rfl]

theorem collect_idle {p : TribId} {bytes : Vector Byte 32} {others : List TribId} {s : State} {b : BundleId}
    (h : ∀ r, (s.bun b).active = some r → (s.bun b).state.running = true → ¬ Releases s p others r.port) :
    State.collect p bytes others s b = s := by
  unfold State.collect
  simp only
  split
  · rfl
  · next r active =>
    refine if_neg fun k => ?_
    rw [Bool.and_eq_true, State.releases_iff] at k
    exact h r active k.2 k.1

theorem collect_releasing {p : TribId} {bytes : Vector Byte 32} {others : List TribId} {s : State} {b : BundleId}
    {r : Record} (active : (s.bun b).active = some r) (running : (s.bun b).state.running = true)
    (released : Releases s p others r.port) : State.collect p bytes others s b =
      s.append b r (r.slots.toList.map fun n => ((s.trib r.port).handed bytes).1.getD n 0)
        ((s.trib r.port).handed bytes).2 := by
  unfold State.collect
  simp only [active]
  rw [if_pos (by rw [Bool.and_eq_true, State.releases_iff]; exact ⟨released, running⟩)]
  rfl

/-! ## What offers and the arbiters leave (R47, R48, R51, R55) -/

/-- What a bundle has gathered of its packet, and the packets it has counted. -/
def Assembly.gathered (a : Assembly) : List Byte × Nat × Bool × Seq × Nat × Nat :=
  (a.buffer, a.frames, a.faultMark, a.seq, a.completed, a.originFaults)

/-- Only queues, transmitters, assembly states and echo states differ, and no bundle but those of `touched` has
gathered more. -/
structure Queueing (s t : State) (touched : BundleId → Prop) : Prop where
  frame : t = { s with bundles := t.bundles, nets := t.nets }
  blocks : ∀ c, t.bun c = { s.bun c with assembly := (t.bun c).assembly, delay := (t.bun c).delay }
  gathered : ∀ c, ¬ touched c → (t.bun c).assembly.gathered = (s.bun c).assembly.gathered

theorem Queueing.trans {s t u : State} {P Q : BundleId → Prop} (h : Queueing s t P) (k : Queueing t u Q) :
    Queueing s u fun c => P c ∨ Q c where
  frame := by rw [k.frame, h.frame]
  blocks c := by rw [k.blocks, h.blocks]
  gathered c ne := (k.gathered c fun q => ne (.inr q)).trans (h.gathered c fun p => ne (.inl p))

theorem Queueing.mono {s t : State} {P Q : BundleId → Prop} (h : Queueing s t P) (k : ∀ c, P c → Q c) :
    Queueing s t Q :=
  ⟨h.frame, h.blocks, fun c ne => h.gathered c fun p => ne (k c p)⟩

theorem Queueing.refl (s : State) : Queueing s s fun _ => False := ⟨rfl, fun _ => rfl, fun _ _ => rfl⟩

theorem Queueing.andQueue {s t u : State} {P : BundleId → Prop} (h : Queueing s t P)
    (k : Queueing t u fun _ => False) : Queueing s u P := (h.trans k).mono fun _ => Or.rec id False.elim

theorem Queueing.nets {s t : State} (h : t = { s with nets := t.nets }) : Queueing s t fun _ => False := by
  have bun : ∀ c, t.bun c = s.bun c := fun c => by rw [h]; rfl
  refine ⟨?_, fun c => by rw [bun], fun c _ => by rw [bun]⟩
  rw [h]

theorem Queueing.modNet (s : State) (n : NetPort) (f : Net → Net) : Queueing s (s.modNet n f) fun _ => False :=
    .nets rfl

theorem Queueing.modAssembly (s : State) (b : BundleId) (f : Assembly → Assembly) :
    Queueing s (s.modAssembly b f) fun c => c = b := by
  refine ⟨rfl, fun c => ?_, fun c ne => ?_⟩
  · unfold State.modAssembly
    rw [State.bun_modBun]
    split
    · next e => rw [e]
    · rfl
  · unfold State.modAssembly
    rw [State.bun_modBun_ne _ _ ne]

/-- A change of what is held and counted as queued. -/
theorem Queueing.hold (s : State) (b : BundleId) (f : Assembly → Assembly) (h : ∀ a, (f a).gathered = a.gathered) :
    Queueing s (s.modAssembly b f) fun _ => False := by
  have base := Queueing.modAssembly s b f
  refine ⟨base.frame, base.blocks, fun c _ => ?_⟩
  by_cases e : c = b
  · subst e; rw [State.bun_modAssembly_self]; exact h _
  · exact base.gathered c e

theorem Queueing.modDelay (s : State) (b : BundleId) (f : Delay → Delay) :
    Queueing s (s.modDelay b f) fun _ => False := by
  refine ⟨rfl, fun c => ?_, fun c _ => ?_⟩ <;> unfold State.modDelay <;> rw [State.bun_modBun] <;> split
  · next e => rw [e]
  · rfl
  · next e => rw [e]
  · rfl

theorem Queueing.loseCopy (s : State) (b : BundleId) (q : Seq) (n : NetPort) :
    Queueing s (s.loseCopy b q n) fun _ => False := .hold s b _ fun _ => rfl

theorem Queueing.join (s : State) (n : NetPort) (c : PacketClass) (e : QueueEntry) :
    Queueing s (s.join n c e) fun _ => False :=
  ((Queueing.modNet s n fun x => x.setQueue c (x.queue c ++ [e])).andQueue
    (.modNet _ n fun x => { x with tx := { x.tx with joined := bump x.tx.joined } })).andQueue
    (.hold _ e.bundle (fun a => { a with queued := bump a.queued }) fun _ => rfl)

theorem Queueing.offerCopy (s : State) (n : NetPort) (c : PacketClass) (e : QueueEntry) :
    Queueing s (s.offerCopy n c e).1 fun _ => False := by
  unfold State.offerCopy
  simp only
  split
  · exact .join ..
  · split
    · exact (((Queueing.modNet s n _).andQueue (.modNet _ n _)).andQueue (.loseCopy ..)).andQueue (.join ..)
    · exact .modNet s n fun x => { x with tx := { x.tx with dropped := bump x.tx.dropped } }

theorem Queueing.supersede (s : State) (b : BundleId) : Queueing s (s.supersede b) fun _ => False := by
  unfold State.supersede
  split
  · split
    · exact (Queueing.nets rfl).andQueue (.hold _ b _ fun _ => rfl)
    · exact .refl s
  · exact .refl s

theorem Queueing.offerPaths (b : BundleId) (r : Record) (paths : List Path) (s : State) (h : HeldTx) :
    Queueing s (s.offerPaths b r h paths).1 fun _ => False := by
  induction paths generalizing s h with
  | nil => exact .refl s
  | cons p paths ih => exact (Queueing.offerCopy ..).andQueue (ih _ _)

/-- The transmitting paths whose links are UP (R47). -/
def State.openPaths (s : State) (r : Record) : List Path :=
  (transmittingPaths r.pathMode).filter fun p => (s.net (r.portMap.portOf p)).up

/-- A packet joins what its bundle holds where one of its copies was queued (R48). -/
def State.holdPacket (s : State) (b : BundleId) (h : HeldTx) : State :=
  if h.east || h.west then s.modAssembly b fun a => { a with held := a.held ++ [h] } else s

theorem State.offerPacket_eq (s : State) (b : BundleId) (r : Record) (h : HeldTx) : s.offerPacket b r h =
    let counted := notOffered s b ((transmittingPaths r.pathMode).length - (s.openPaths r).length)
    let x := (if (s.openPaths r).isEmpty then counted else counted.supersede b).offerPaths b r h (s.openPaths r)
    x.1.holdPacket b x.2 := rfl

theorem Queueing.holdPacket (s : State) (b : BundleId) (h : HeldTx) :
    Queueing s (s.holdPacket b h) fun _ => False := by
  unfold State.holdPacket
  split
  · exact .hold s b _ fun _ => rfl
  · exact .refl s

theorem Queueing.offerPacket (s : State) (b : BundleId) (r : Record) (h : HeldTx) :
    Queueing s (s.offerPacket b r h) fun _ => False := by
  rw [State.offerPacket_eq]
  have counted : ∀ lost, Queueing s (notOffered s b lost) fun _ => False := fun lost =>
    .hold s b (fun a => { a with notOffered := bumpBy a.notOffered lost }) fun _ => rfl
  refine (Queueing.andQueue ?_ (.offerPaths ..)).andQueue (.holdPacket ..)
  split
  · exact counted _
  · exact (counted _).andQueue (.supersede ..)

theorem Queueing.expireEcho (s : State) (b : BundleId) (p : Path) :
    Queueing s (s.expireEcho b p) fun _ => False := by
  unfold State.expireEcho
  simp only
  split
  · exact .modDelay ..
  · exact .refl s

theorem Queueing.arbitrate (s : State) (n : NetPort) : Queueing s (s.arbitrate n) fun _ => False := by
  have transmits : ∀ u e, Queueing u (State.transmit u n e) fun _ => False := fun u e => by
    unfold State.transmit
    simp only
    split
    · exact ((Queueing.modNet u n _).andQueue (.expireEcho ..)).andQueue (.loseCopy ..)
    · exact .refl u
  unfold State.arbitrate
  simp only
  split
  · split
    · exact .refl s
    · split
      · exact .refl s
      · exact (Queueing.modNet s n _).andQueue (transmits ..)
  · exact .refl s

theorem Queueing.append (s : State) (b : BundleId) (r : Record) (bytes : List Byte) (mark : Bool) :
    Queueing s (s.append b r bytes mark) fun c => c = b := by
  rcases Nat.lt_or_ge ((s.bun b).assembly.frames + 1) r.fpp with lt | le
  · rw [State.append_of_lt lt]; exact .modAssembly ..
  · rw [State.append_of_le le]
    exact (((Queueing.modAssembly ..).andQueue (.offerPacket ..)).andQueue (.arbitrate ..)).andQueue (.arbitrate ..)

theorem Queueing.collect (p : TribId) (bytes : Vector Byte 32) (others : List TribId) (s : State) (b : BundleId) :
    Queueing s (State.collect p bytes others s b) fun c => c = b := by
  unfold State.collect
  simp only
  split
  · exact (Queueing.refl s).mono fun _ => False.elim
  · split
    · exact .append ..
    · exact (Queueing.refl s).mono fun _ => False.elim

/-! ## Every bundle in turn -/

/-- What a bundle has gathered once the frame has been released. -/
def State.fed (p : TribId) (bytes : Vector Byte 32) (others : List TribId) (s : State) (b : BundleId) :
    List Byte × Nat × Bool × Seq × Nat × Nat :=
  ((State.collect p bytes others s b).bun b).assembly.gathered

theorem State.fed_idle {p : TribId} {bytes : Vector Byte 32} {others : List TribId} {s : State} {b : BundleId}
    (h : ∀ r, (s.bun b).active = some r → (s.bun b).state.running = true → ¬ Releases s p others r.port) :
    s.fed p bytes others b = (s.bun b).assembly.gathered := by rw [State.fed, collect_idle h]

theorem State.fed_releasing {p : TribId} {bytes : Vector Byte 32} {others : List TribId} {s : State} {b : BundleId}
    {r : Record} {frame : List Byte} {mark : Bool} (active : (s.bun b).active = some r)
    (running : (s.bun b).state.running = true) (released : Releases s p others r.port)
    (handed : (s.trib r.port).handed bytes = (frame, mark)) : s.fed p bytes others b =
      if r.fpp ≤ (s.bun b).assembly.frames + 1 then ((s.bun b).assembly.emptied mark).gathered
      else ((s.bun b).assembly.appended (r.slots.toList.map fun n => frame.getD n 0) mark).gathered := by
  rw [State.fed, collect_releasing active running released, handed]
  split
  · next le =>
    rw [State.append_of_le le]
    have rest := ((Queueing.offerPacket (s.modAssembly b fun a => a.emptied mark) b r ⟨(s.bun b).assembly.seq,
      (s.bun b).assembly.buffer ++ r.slots.toList.map (fun n => frame.getD n 0), (s.bun b).assembly.faultMark || mark,
      false, false⟩).andQueue (.arbitrate _ .east)).andQueue (.arbitrate _ .west)
    rw [rest.gathered b id, State.bun_modAssembly_self]
  · next lt => rw [State.append_of_lt (Nat.not_le.1 lt), State.bun_modAssembly_self]

/-- What a bundle gathers depends on its own assembly state, record and state, and on the lines alone. -/
theorem State.fed_congr {s t : State} {b : BundleId} (tribs : t.tribs = s.tribs)
    (active : (t.bun b).active = (s.bun b).active) (state : (t.bun b).state = (s.bun b).state)
    (gathered : (t.bun b).assembly.gathered = (s.bun b).assembly.gathered) (p : TribId) (bytes : Vector Byte 32)
    (others : List TribId) : t.fed p bytes others b = s.fed p bytes others b := by
  have trib : ∀ q, t.trib q = s.trib q := fun q => by simp only [State.trib, tribs]
  have releases : ∀ q, Releases t p others q ↔ Releases s p others q := fun q => by simp only [Releases, trib]
  by_cases h : ∃ r, (s.bun b).active = some r ∧ (s.bun b).state.running = true ∧ Releases s p others r.port
  · obtain ⟨r, some, running, released⟩ := h
    rw [State.fed_releasing some running released rfl, State.fed_releasing (active.trans some) (by rw [state, running])
      ((releases _).2 released) rfl, trib]
    simp only [Assembly.gathered, Prod.mk.injEq] at gathered
    obtain ⟨buffer, frames, faultMark, seq, completed, originFaults⟩ := gathered
    simp only [Assembly.gathered, Assembly.emptied, Assembly.appended, buffer, frames, faultMark, seq, completed,
      originFaults]
  · have idle : ∀ r, (s.bun b).active = some r → (s.bun b).state.running = true → ¬ Releases s p others r.port :=
      fun r some running released => h ⟨r, some, running, released⟩
    rw [State.fed_idle idle, State.fed_idle (fun r some running released => idle r (active ▸ some) (state ▸ running)
      ((releases _).1 released)), gathered]

/-- Each bundle gathers what it would gather alone. -/
theorem collected {xs : List BundleId} (nodup : xs.Nodup) (p : TribId) (bytes : Vector Byte 32) (others : List TribId)
    (s : State) : Queueing s (xs.foldl (State.collect p bytes others) s) (fun c => c ∈ xs) ∧
    ∀ b ∈ xs, ((xs.foldl (State.collect p bytes others) s).bun b).assembly.gathered = s.fed p bytes others b := by
  induction xs generalizing s with
  | nil => exact ⟨(Queueing.refl s).mono fun _ => False.elim, nofun⟩
  | cons x xs ih =>
    obtain ⟨fresh, rest⟩ := List.nodup_cons.1 nodup
    have first := Queueing.collect p bytes others s x
    obtain ⟨queueing, each⟩ := ih rest (State.collect p bytes others s x)
    refine ⟨(first.trans queueing).mono fun c => by simp, fun b mem => ?_⟩
    rw [List.foldl_cons]
    rcases List.mem_cons.1 mem with rfl | mem
    · exact queueing.gathered b fresh
    · have ne : b ≠ x := fun e => fresh (e ▸ mem)
      rw [each b mem]
      have blocks := first.blocks b
      exact State.fed_congr (by rw [first.frame]) (by rw [blocks]) (by rw [blocks]) (first.gathered b ne) p bytes others

end Sys2Proof.Machine
end

section
/-! Offers, evictions and superseded packets (R47, R48, R51, R52), and O33. -/

namespace Sys2Proof.Machine

open Safety

/-! ## A copy offered (R51, R52) -/

theorem State.join_eq (s : State) (n : NetPort) (c : PacketClass) (e : QueueEntry) : s.join n c e = joined s n c e := by
  unfold State.join State.modTx joined
  simp only
  rw [State.modNet_modNet]
  refine congrArg (fun u : State => u.modAssembly e.bundle fun a => { a with queued := bump a.queued })
    (State.modNet_congr ?_)
  simp only [Net.tx_setQueue]

theorem State.offerCopy_room {s : State} {n : NetPort} (h : (s.net n).queued < 64) (c : PacketClass) (e : QueueEntry) :
    s.offerCopy n c e = (joined s n c e, true) := by
  unfold State.offerCopy
  simp only
  rw [if_pos (by exact h), State.join_eq]

/-- The newest entry of a sub-queue. -/
theorem Net.evict_cases (x : Net) (c : PacketClass) :
    (∀ rest old, c ≠ .routine → x.routine = rest ++ [old] → x.evict c = some (old, x.setQueue .routine rest)) ∧
    (∀ rest old, c = .protection → x.routine = [] → x.priority = rest ++ [old] →
      x.evict c = some (old, x.setQueue .priority rest)) ∧
    (c = .routine ∨ x.routine = [] ∧ (c = .priority ∨ x.priority = []) → x.evict c = none) := by
  unfold Net.evict
  refine ⟨fun rest old ne e => ?_, fun rest old own none e => ?_, fun h => ?_⟩
  · cases c with
    | routine => exact absurd rfl ne
    | _ => simp [e, Net.setQueue]
  · subst own
    simp [none, e, Net.setQueue]
  · rcases h with rfl | ⟨none, rfl | none'⟩
    · rfl
    · simp [none]
    · cases c <;> simp [none, none']

theorem State.offerCopy_evict {s : State} {n : NetPort} {c d : PacketClass} {e old : QueueEntry}
    {rest : List QueueEntry} (full : 64 ≤ (s.net n).queued)
    (h : (s.net n).evict c = some (old, (s.net n).setQueue d rest)) :
    s.offerCopy n c e = (joined (evicted s n d rest old) n c e, true) := by
  unfold State.offerCopy
  simp only [h]
  rw [if_neg (by exact Nat.not_lt.2 full), State.join_eq]
  unfold State.modTx
  rw [State.modNet_modNet]
  unfold evicted State.loseCopy
  simp only [Net.tx_setQueue]

theorem State.offerCopy_drop {s : State} {n : NetPort} {c : PacketClass} (full : 64 ≤ (s.net n).queued)
    (h : (s.net n).evict c = none) (e : QueueEntry) : s.offerCopy n c e = (s.modNet n fun y =>
      { y with tx := { y.tx with dropped := bump y.tx.dropped } }, false) := by
  unfold State.offerCopy
  simp only [h]
  exact if_neg (by exact Nat.not_lt.2 full)

/-! ## The oldest packet given up (R48) -/

theorem State.supersede_few {s : State} {b : BundleId} (h : (s.bun b).assembly.held.length < 4) :
    s.supersede b = s := by
  unfold State.supersede
  split
  · next x rest e =>
    rw [e, List.length_cons] at h
    exact if_neg (by omega)
  · rfl

/-- The state once the packets held of bundle `b` are `rest`, `h` having been given up. -/
theorem State.supersede_full {s : State} {b : BundleId} {h : HeldTx} {rest : List HeldTx}
    (held : (s.bun b).assembly.held = h :: rest) (full : 4 ≤ (s.bun b).assembly.held.length) :
    s.supersede b = ({ s with nets := s.nets.map (Net.without (drop := fun e =>
      e.bundle == b && e.seq == h.seq)) } : State).modAssembly b fun a =>
      { a with held := rest, superseded := bumpBy a.superseded (h.east.toNat + h.west.toNat) } := by
  rw [held, List.length_cons] at full
  unfold State.supersede
  split
  · next x rest' e =>
    rw [held] at e
    obtain ⟨rfl, rfl⟩ := List.cons.inj e
    exact if_pos (by omega)
  · next e => rw [held] at e; cases e

/-! ## A packet offered on its paths (R47) -/

theorem mem_transmittingPaths (r : Record) : transmittingPaths r.pathMode =
    if r.pathMode = .single then [.p1] else [.p1, .p2] := by
  cases r.pathMode <;> rfl

theorem State.offerPacket_down {s : State} {b : BundleId} {r : Record} {h : HeldTx} (east : h.east = false)
    (west : h.west = false) (down : ∀ p ∈ transmittingPaths r.pathMode, (s.net (r.portMap.portOf p)).up = false) :
    s.offerPacket b r h = notOffered s b (transmittingPaths r.pathMode).length := by
  have none : s.openPaths r = [] := by
    rw [State.openPaths, List.filter_eq_nil_iff]
    exact fun p mem => by simp [down p mem]
  rw [State.offerPacket_eq]
  simp [none, State.offerPaths, State.holdPacket, east, west]

/-- A packet offered on one path is held where its copy joined. -/
theorem State.holdPacket_one {h : HeldTx} (east : h.east = false) (west : h.west = false) (s : State) (b : BundleId)
    (n : NetPort) (took : Bool) : s.holdPacket b (h.setQueued n took) =
      if took then s.modAssembly b fun a => { a with held := a.held ++ [h.setQueued n true] } else s := by
  cases took <;> cases n <;> simp [State.holdPacket, HeldTx.setQueued, east, west]

/-- A packet offered on both paths is held where a copy joined. -/
theorem State.holdPacket_both {h : HeldTx} {m : PortMap} (s : State) (b : BundleId) (east west : Bool) :
    s.holdPacket b ((h.setQueued (m.portOf .p1) east).setQueued (m.portOf .p2) west) =
      if east || west then s.modAssembly b fun a =>
        { a with held := a.held ++ [(h.setQueued (m.portOf .p1) east).setQueued (m.portOf .p2) west] } else s := by
  cases m
  · rfl
  · exact if_congr (by simp [HeldTx.setQueued, PortMap.portOf, Bool.or_comm]) rfl rfl

theorem State.offerPacket_one {s u : State} {b : BundleId} {r : Record} {h : HeldTx} {p : Path} {took : Bool}
    (east : h.east = false) (west : h.west = false) (one : s.openPaths r = [p])
    (offer : ((notOffered s b ((transmittingPaths r.pathMode).length - 1)).supersede b).offerCopy
      (r.portMap.portOf p) r.pclass ⟨b, h.seq, p⟩ = (u, took)) :
    s.offerPacket b r h = if took then u.modAssembly b fun a =>
      { a with held := a.held ++ [h.setQueued (r.portMap.portOf p) true] } else u := by
  rw [State.offerPacket_eq, one]
  simp only [List.isEmpty_cons, Bool.false_eq_true, if_false, List.length_singleton, State.offerPaths, offer]
  exact State.holdPacket_one east west u b _ took

theorem State.offerPacket_both {s u v : State} {b : BundleId} {r : Record} {h : HeldTx} {east west : Bool}
    (mode : r.pathMode ≠ .single) (up : ∀ p, (s.net (r.portMap.portOf p)).up = true)
    (first : ((notOffered s b 0).supersede b).offerCopy (r.portMap.portOf .p1) r.pclass ⟨b, h.seq, .p1⟩ = (u, east))
    (second : u.offerCopy (r.portMap.portOf .p2) r.pclass ⟨b, h.seq, .p2⟩ = (v, west)) :
    s.offerPacket b r h = if east || west then v.modAssembly b fun a =>
      { a with held := a.held ++ [(h.setQueued (r.portMap.portOf .p1) east).setQueued
        (r.portMap.portOf .p2) west] } else v := by
  have paths : transmittingPaths r.pathMode = [.p1, .p2] := by rw [mem_transmittingPaths, if_neg mode]
  have both : s.openPaths r = [.p1, .p2] := by rw [State.openPaths, paths]; simp [up]
  have seq : ∀ n q, (h.setQueued n q).seq = h.seq := fun n q => by cases n <;> rfl
  rw [State.offerPacket_eq, both, paths]
  simp only [List.isEmpty_cons, Bool.false_eq_true, if_false, Nat.sub_self, State.offerPaths, first, seq, second]
  exact State.holdPacket_both v b east west

/-! ## The obligation -/

/-- The clauses of O33 about one bundle's part of the frame. -/
theorem fed_clauses {s t : State} {p : TribId} {bytes : Vector Byte 32} {others : List TribId} {b : BundleId}
    (fed : (t.bun b).assembly.gathered = s.fed p bytes others b) {r : Record} {frame : List Byte} {mark : Bool}
    (active : (s.bun b).active = some r) (running : (s.bun b).state.running = true)
    (released : Releases s p others r.port) (handed : (s.trib r.port).handed bytes = (frame, mark)) :
    ((s.bun b).assembly.frames + 1 < r.fpp → (t.bun b).assembly.gathered =
      ((s.bun b).assembly.appended (r.slots.toList.map fun n => frame.getD n 0) mark).gathered) ∧
    (r.fpp ≤ (s.bun b).assembly.frames + 1 → (t.bun b).assembly.gathered =
      ((s.bun b).assembly.emptied mark).gathered) := by
  rw [fed, State.fed_releasing active running released handed]
  exact ⟨fun lt => if_neg (Nat.not_le.2 lt), fun le => if_pos le⟩

theorem gathered_eq_iff (a c : Assembly) : a.gathered = c.gathered ↔ a.buffer = c.buffer ∧ a.frames = c.frames ∧
    a.faultMark = c.faultMark ∧ a.seq = c.seq ∧ a.completed = c.completed ∧ a.originFaults = c.originFaults := by
  simp [Assembly.gathered]

theorem receiveFrame_clauses (s : State) (p : TribId) (bytes : Vector Byte 32) (others : List TribId) :
    Queueing s (receiveFrame p bytes others s) (fun _ => True) ∧
    ∀ b, ((receiveFrame p bytes others s).bun b).assembly.gathered = s.fed p bytes others b := by
  obtain ⟨queueing, each⟩ := collected (List.nodup_finRange 64) p bytes others s
  exact ⟨queueing.mono fun _ _ => trivial, fun b => each b (List.mem_finRange b)⟩

theorem receiveFrame_off {s : State} {p : TribId} (off : (s.trib p).rx = .off) (bytes : Vector Byte 32)
    (others : List TribId) : receiveFrame p bytes others s = s := by
  have idle : ∀ b, State.collect p bytes others s b = s := fun b => collect_idle fun r _ _ released => by
    rcases released with ⟨-, on⟩ | ⟨-, timed, -⟩
    · exact on off
    · simp [LocallyTimed, off] at timed
  exact List.foldl_fixed' idle allBundles

/-- Settles O33. -/
theorem receiveFramesFeedTheAssemblers : Obligations.ReceiveFramesFeedTheAssemblers := by
  refine ⟨fun s p bytes others => ⟨fun off => ?_, rfl, ?_, List.mem_finRange, ?_⟩, fun s p bytes others b =>
    ⟨collect_idle, fun r frame mark a active running released ha given => ?_⟩, fun s n c e x hx => ?_,
    fun s b held hheld => ?_, fun s t b r h paths ht east west hpaths => ?_⟩
  · exact congrArg Host.Outcome.next (receiveFrame_off off bytes others)
  · exact List.pairwise_lt_finRange 64
  · have run : exec (.receiveFrame ⟨p, others⟩ bytes) s = .next (receiveFrame p bytes others s) := rfl
    obtain ⟨queueing, each⟩ := receiveFrame_clauses s p bytes others
    rw [run]
    generalize receiveFrame p bytes others s = t at queueing each
    refine ⟨t, rfl, queueing.frame, queueing.blocks, fun b idle => ?_,
      fun b r frame mark active running released given => ?_⟩
    · obtain ⟨buffer, frames, faultMark, seq, completed, -⟩ :=
        (gathered_eq_iff ..).1 ((each b).trans (State.fed_idle idle))
      exact ⟨buffer, frames, faultMark, seq, completed⟩
    · obtain ⟨more, full⟩ := fed_clauses (each b) active running released (handed_eq given)
      refine ⟨fun lt => ?_, fun le => (gathered_eq_iff ..).1 (full le)⟩
      obtain ⟨buffer, frames, faultMark, seq, -⟩ := (gathered_eq_iff ..).1 (more lt)
      exact ⟨buffer, frames, faultMark, seq⟩
  · subst ha
    rw [collect_releasing active running released, handed_eq given]
    exact ⟨fun lt => State.append_of_lt lt .., fun le => State.append_of_le le ..⟩
  · subst hx
    obtain ⟨routine, priority, none⟩ := Net.evict_cases (s.net n) c
    exact ⟨fun room => State.offerCopy_room room c e,
      fun rest old full ne own => State.offerCopy_evict full (routine rest old ne own),
      fun rest old full own empty last => State.offerCopy_evict full (priority rest old own empty last),
      fun full stuck => State.offerCopy_drop full (none stuck) e⟩
  · subst hheld
    refine ⟨State.supersede_few, fun h rest held full => ⟨_, rfl, ?_⟩⟩
    rw [State.supersede_full held full]
    refine ⟨rfl, fun c ne => State.bun_modBun_ne _ _ ne, State.bun_modAssembly_self .., fun n => ?_⟩
    have drop : (fun e : QueueEntry => !(e.bundle == b && e.seq == h.seq)) =
        fun e => decide (e.bundle ≠ b ∨ e.seq ≠ h.seq) := by
      funext e
      by_cases hb : e.bundle = b <;> by_cases hq : e.seq = h.seq <;> simp [hb, hq]
    have net : ∀ u : Two Net, (u.map (Net.without (drop := fun e => e.bundle == b && e.seq == h.seq))).atNet n =
        (u.atNet n).without fun e => e.bundle == b && e.seq == h.seq := fun u => by cases n <;> rfl
    refine (net s.nets).trans ?_
    simp only [Net.without, drop]
    rfl
  · subst ht hpaths
    rw [← mem_transmittingPaths]
    refine ⟨State.offerPacket_down east west, fun p q n u took shape ne hn up down offer => ?_,
      fun u v first second mode up offer offer' => State.offerPacket_both mode up offer offer'⟩
    subst hn
    have own : s.openPaths r = [p] := by
      unfold State.openPaths
      rcases shape with e | e | e <;> rw [e] at down ⊢ <;> simp_all
    refine State.offerPacket_one east west own offer

end Sys2Proof.Machine
end

section
/-! What opens a transmit frame: corruptions, the end of a steering interval,
  activations and timing (R14, R29, R158). -/

namespace Sys2Proof.Machine

open Safety

/-! ## What an activation leaves of the frame start -/

/-- Between `s` and `t` no steering offset has moved, and bundle `b` has made no start or step ahead of its frame
start that it had not made before. -/
structure Onset (b : BundleId) (s t : State) : Prop where
  offset : ∀ p, (t.trib p).steer.offset = (s.trib p).steer.offset
  atStart : (s.bun b).playout.atStart = .none → (t.bun b).playout.atStart = .none

theorem Onset.refl (b : BundleId) (s : State) : Onset b s s := ⟨fun _ => rfl, id⟩

theorem Onset.trans {b : BundleId} {s t u : State} (h : Onset b s t) (k : Onset b t u) : Onset b s u :=
  ⟨fun p => (k.offset p).trans (h.offset p), k.atStart ∘ h.atStart⟩

theorem Onset.ite {b : BundleId} {s t u : State} {c : Prop} [Decidable c] (h : Onset b s t) (k : Onset b s u) :
    Onset b s (if c then t else u) := by split <;> assumption

theorem Onset.modBun (s : State) (b : BundleId) (f : Bundle → Bundle)
    (h : (s.bun b).playout.atStart = .none → (f (s.bun b)).playout.atStart = .none) : Onset b s (s.modBun b f) :=
  ⟨fun _ => rfl, fun k => by rw [State.bun_modBun_self]; exact h k⟩

theorem Onset.modDelay (s : State) (b : BundleId) (f : Delay → Delay) : Onset b s (s.modDelay b f) := .modBun s b _ id

theorem Onset.modSupervisor (s : State) (b : BundleId) (f : Supervisor → Supervisor) :
    Onset b s (s.modSupervisor b f) := .modBun s b _ id

theorem Onset.modSelector (s : State) (b : BundleId) (f : Selector → Selector) : Onset b s (s.modSelector b f) :=
  .modSupervisor s b _

theorem Onset.modPlayout (s : State) (b : BundleId) (f : Playout → Playout)
    (h : (s.bun b).playout.atStart = .none → (f (s.bun b).playout).atStart = .none) : Onset b s (s.modPlayout b f) :=
  .modBun s b _ h

theorem Onset.post (s : State) (b : BundleId) (k : EventKind) (j : Subject) (d : Nat) : Onset b s (s.post k j d) :=
  ⟨fun _ => rfl, id⟩

theorem Onset.postIf (s : State) (b : BundleId) (c : Bool) (k : EventKind) (j : Subject) (d : Nat) :
    Onset b s (s.postIf c k j d) := .ite (.post ..) (.refl ..)

theorem Onset.abandonSteering (s : State) (b c : BundleId) : Onset b s (s.abandonSteering c) := by
  refine ⟨fun p => ?_, id⟩
  rw [State.trib_abandonSteering]
  split
  · exact (s.trib p).steer.abandon_spec.2.1
  · rfl

theorem Onset.startAdjust (s : State) (b : BundleId) (target : Nat) : Onset b s (s.startAdjust b target) := by
  unfold State.startAdjust
  simp only
  split
  · exact ((Onset.modPlayout s b _ id).trans (.abandonSteering _ b b)).trans (.post ..)
  · exact (Onset.modPlayout s b _ id).trans (.post ..)

theorem Onset.settlePlaying (s : State) (b : BundleId) (r : Record) (target : Nat) :
    Onset b s (s.settlePlaying b r target) := by
  have propose : ∀ proposed shown, Onset b s (s.propose b proposed shown) :=
    fun _ _ => (Onset.modDelay s b _).trans (.post ..)
  unfold State.settlePlaying
  simp only
  split
  · split
    · exact (Onset.modDelay s b _).trans (.startAdjust ..)
    · exact .ite (.refl ..) (propose ..)
  · split
    · exact propose ..
    · exact .refl ..

theorem Onset.endEstimateWait (s : State) (b : BundleId) (found : Bool) : Onset b s (s.endEstimateWait b found) :=
  .ite (.modPlayout s b _ id) (.refl ..)

theorem Onset.computeTarget (s : State) (b : BundleId) : Onset b s (s.computeTarget b) := by
  have flags : ∀ c, Onset b s (s.setEqualiseFlags b c) :=
    fun c => ((Onset.modDelay s b _).trans (.postIf ..)).trans (.postIf ..)
  unfold State.computeTarget
  simp only
  split
  · exact .refl ..
  · next r _ =>
    refine ((flags ((s.bun b).computation r)).trans (.endEstimateWait _ b ((s.bun b).computation r).found)).trans ?_
    split
    · exact .settlePlaying ..
    · exact .modDelay ..
    · exact .modDelay ..
    · exact .modDelay ..
    · exact .refl ..

theorem Onset.changeState (s : State) (b : BundleId) (new : BState) (cause : StateCause) :
    Onset b s (s.changeState b new cause) := by
  have set : Onset b s (s.modBun b fun x => { x with state := new }) := .modBun s b _ id
  unfold State.changeState State.postBundleState
  exact .trans (.ite (set.trans (.abandonSteering ..)) set) (.post ..)

theorem Onset.setMismatch (s : State) (b : BundleId) (flag : Bool) : Onset b s (s.setMismatch b flag) :=
  .ite (.refl ..) ((Onset.modSelector ..).trans (.post ..))

theorem Onset.examine (s : State) (b : BundleId) (r : Record) (e : Expired) : Onset b s (s.examine b r e) := by
  unfold State.examine
  split
  · exact .modSelector ..
  · exact .modSelector ..
  · exact .modSelector ..
  · exact (((Onset.modSelector ..).trans (.post ..)).trans (.modDelay ..)).trans (.computeTarget ..)

theorem Onset.evaluateSelector (s : State) (b : BundleId) (e : Expired) : Onset b s (s.evaluateSelector b e) := by
  have examined : ∀ (u v : State) (c : Prop) [Decidable c] (r : Record), Onset b u v →
      Onset b u (if c then v else v.examine b r .none) := fun u v c _ r h => .ite h (h.trans (.examine ..))
  unfold State.evaluateSelector
  simp only
  split
  · exact .refl ..
  · next r _ =>
    refine .ite ?_ (.refl ..)
    exact (examined s _ _ r (.examine ..)).trans ((Onset.modSelector ..).trans (.setMismatch ..))

/-! ## A record taking effect -/

/-- Only the bundles, the steering intervals, the queues, the claims and the control ports differ, of the bundles
only `b`. -/
structure Effect (b : BundleId) (s t : State) : Prop where
  rest : t = { s with bundles := t.bundles, tribs := t.tribs, nets := t.nets, claims := t.claims, ctrls := t.ctrls }
  up : ∀ n, (t.net n).up = (s.net n).up
  others : OtherBundles s t b
  tribs : ∀ p, t.trib p = { s.trib p with steer := (t.trib p).steer }
  onset : Onset b s t

theorem Effect.refl (b : BundleId) (s : State) : Effect b s s :=
  ⟨rfl, fun _ => rfl, fun _ _ => rfl, fun _ => rfl, .refl b s⟩

theorem Effect.trans {b : BundleId} {s t u : State} (h : Effect b s t) (k : Effect b t u) : Effect b s u where
  rest := by rw [k.rest, h.rest]
  up n := (k.up n).trans (h.up n)
  others c ne := (k.others c ne).trans (h.others c ne)
  tribs p := by rw [k.tribs p, h.tribs p]
  onset := h.onset.trans k.onset

theorem Local.effect {b : BundleId} {s t : State} (h : Local b s t) (k : Onset b s t) : Effect b s t := by
  have nets : t.nets = s.nets := by rw [h.rest]
  refine ⟨?_, fun n => ?_, h.others, h.tribs, k⟩
  · rw [h.rest]
  · simp only [State.net, nets]

theorem Effect.modBun (s : State) (b : BundleId) (f : Bundle → Bundle)
    (h : (s.bun b).playout.atStart = .none → (f (s.bun b)).playout.atStart = .none) : Effect b s (s.modBun b f) :=
  ⟨rfl, fun _ => rfl, fun _ ne => State.bun_modBun_ne s f ne, fun _ => rfl, .modBun s b f h⟩

theorem Effect.post (s : State) (b : BundleId) (k : EventKind) (j : Subject) (d : Nat) : Effect b s (s.post k j d) :=
  (Local.post ..).effect (.post ..)

theorem Effect.computeTarget (s : State) (b : BundleId) : Effect b s (s.computeTarget b) :=
  (Local.computeTarget ..).effect (.computeTarget ..)

theorem Effect.changeState (s : State) (b : BundleId) (new : BState) (cause : StateCause) :
    Effect b s (s.changeState b new cause) := (Local.changeState ..).effect (.changeState ..)

theorem Effect.modDelay (s : State) (b : BundleId) (f : Delay → Delay) : Effect b s (s.modDelay b f) :=
  (Local.modDelay ..).effect (.modDelay ..)

theorem Effect.modSupervisor (s : State) (b : BundleId) (f : Supervisor → Supervisor) :
    Effect b s (s.modSupervisor b f) := (Local.modSupervisor ..).effect (.modSupervisor ..)

theorem Effect.startPaths (s : State) (b : BundleId) (r : Record) : Effect b s (s.startPaths b r) :=
  .modSupervisor ..

theorem Effect.modAssembly (s : State) (b : BundleId) (f : Assembly → Assembly) : Effect b s (s.modAssembly b f) :=
  .modBun s b (fun x => { x with assembly := f x.assembly }) id

theorem Effect.allocate (s : State) (b : BundleId) (size : Nat) (zero : Bool) :
    Effect b s (s.modPlayout b fun p => p.allocate size zero) :=
  .modBun s b (fun x => { x with playout := x.playout.allocate size zero }) fun _ => by
    simp only [Playout.allocate]; split <;> rfl

theorem Effect.restartAssembly (s : State) (b : BundleId) : Effect b s (s.restartAssembly b) := by
  have gone : Effect b s { s with nets := s.nets.map (Net.withdraw (b := b)) } :=
    ⟨rfl, fun n => by cases n <;> rfl, fun _ _ => rfl, fun _ => rfl, ⟨fun _ => rfl, id⟩⟩
  have withdrawn : Effect b s (s.withdraw b) := gone.trans (.modAssembly _ b fun a => { a with held := [] })
  exact withdrawn.trans (.modAssembly ..)

/-- A record that takes effect changes its bundle, which makes no start or step ahead (R29 to R33). -/
theorem Effect.takeEffect (s : State) (b : BundleId) (r : Record) (size : Nat) :
    Effect b s (s.takeEffect b r size) := by
  have recorded : Effect b s (s.recorded b r size) := (Effect.modBun s b _ id).trans
    ⟨rfl, fun _ => rfl, fun _ _ => rfl, fun _ => rfl, ⟨fun _ => rfl, id⟩⟩
  have effect : ∀ u : State, Effect b u (match (s.bun b).changeClass r with
      | .new => u.effectNew b r size
      | .restart => u.effectRestart b r size
      | .rebuilt => u.effectRebuilt b r size
      | .inPlace => u.effectInPlace b ((s.bun b).active.getD r) r) := fun u => by
    split
    · have fresh : Effect b u (u.modBun b fun x =>
          { x with playout := .fresh size, assembly := .start, delay := .zero, supervisor := .restart r }) :=
        .modBun u b _ fun _ => rfl
      unfold State.effectNew
      simp only
      refine .trans (.trans ?_ (.changeState ..)) (.computeTarget ..)
      split
      · exact fresh.trans (.startPaths ..)
      · exact fresh
    · have abandoned : Effect b u (u.postAbandoned b) := (Local.postIf ..).effect (.postIf ..)
      have mismatch : ∀ v : State, Effect b v (v.setMismatch b false) := fun v =>
        (Local.setMismatch ..).effect (.setMismatch ..)
      have blocks : Effect b u (u.restartBlocks b r size) :=
        ((((abandoned.trans (.allocate ..)).trans (.restartAssembly ..)).trans (.modDelay ..)).trans (mismatch _)).trans
          (.startPaths ..)
      rw [State.effectRestart_eq]
      refine .trans ?_ (.computeTarget ..)
      split
      · exact blocks
      · exact blocks.trans (.changeState ..)
    · exact (((Effect.allocate u b size false).trans (.modDelay ..)).trans (.modSupervisor ..)).trans
        (.computeTarget ..)
    · have wait : ∀ v : State, Effect b v (v.endFixedWait b r) := fun v => by
        unfold State.endFixedWait
        split
        · exact (Local.endEstimateWait ..).effect (.endEstimateWait ..)
        · exact .refl ..
      have evaluate : ∀ v : State, Effect b v (v.evaluateSelector b .none) := fun v =>
        (Local.evaluateSelector ..).effect (.evaluateSelector ..)
      unfold State.effectInPlace
      simp only
      split
      · exact (wait _).trans (evaluate _)
      · exact (((Effect.modDelay u b _).trans (.computeTarget ..)).trans (wait _)).trans (evaluate _)
  exact (recorded.trans (effect _)).trans (.post ..)

/-- What an activation makes of the record in force and of the armed one (R29). -/
theorem State.activateFor_spec (s : State) (p : TribId) (b : BundleId) : Effect b s (s.activateFor p b) ∧
    ((s.activateFor p b).bun b).active = (if ((s.bun b).armedRecord.map fun r => r.port) = some p
      then (s.bun b).armedRecord else (s.bun b).active) ∧
    ((s.activateFor p b).bun b).armed = (if ((s.bun b).armedRecord.map fun r => r.port) = some p
      then none else (s.bun b).armed) := by
  unfold State.activateFor
  split
  · unfold activationTakesEffect
    cases e : (s.bun b).armed with
    | none => next named => simp [Bundle.armedRecord, e] at named
    | some size =>
      have records := (Retold.takeEffect s b (s.bun b).pending size).quiet.records b
      rw [State.bun_recorded, if_pos rfl] at records
      exact ⟨.takeEffect .., records.active.trans (by simp [Bundle.armedRecord, e]), records.armed⟩
  · exact ⟨.refl .., rfl, rfl⟩

/-! ## The steps that open a frame -/

/-- What the opening of a frame leaves: the queues keep their links, the lines all but their steering, whose offsets
stay, and no bundle makes a start or step ahead. -/
structure Opening (s t : State) : Prop where
  rest : t = { s with bundles := t.bundles, tribs := t.tribs, nets := t.nets, claims := t.claims, ctrls := t.ctrls }
  up : ∀ n, (t.net n).up = (s.net n).up
  tribs : ∀ p, t.trib p = { s.trib p with steer := (t.trib p).steer }
  offset : ∀ p, (t.trib p).steer.offset = (s.trib p).steer.offset
  atStart : ∀ b, (s.bun b).playout.atStart = .none → (t.bun b).playout.atStart = .none

theorem Opening.refl (s : State) : Opening s s := ⟨rfl, fun _ => rfl, fun _ => rfl, fun _ => rfl, fun _ => id⟩

theorem Opening.trans {s t u : State} (h : Opening s t) (k : Opening t u) : Opening s u where
  rest := by rw [k.rest, h.rest]
  up n := (k.up n).trans (h.up n)
  tribs p := by rw [k.tribs p, h.tribs p]
  offset p := (k.offset p).trans (h.offset p)
  atStart b := k.atStart b ∘ h.atStart b

theorem Effect.opening {b : BundleId} {s t : State} (h : Effect b s t) : Opening s t where
  rest := h.rest
  up := h.up
  tribs := h.tribs
  offset := h.onset.offset
  atStart c := by
    by_cases e : c = b
    · subst e; exact h.onset.atStart
    · rw [h.others c e]; exact id

/-- The record a bundle has in force once the activations armed for port `p` have taken effect (R29). -/
def Bundle.inForceFor (x : Bundle) (p : TribId) : Option Record :=
  if (x.armedRecord.map fun r => r.port) = some p then x.armedRecord else x.active

/-- The activation it has armed then. -/
def Bundle.armedFor (x : Bundle) (p : TribId) : Option Nat :=
  if (x.armedRecord.map fun r => r.port) = some p then none else x.armed

theorem activations {xs : List BundleId} (nodup : xs.Nodup) (p : TribId) (s : State) :
    Opening s (xs.foldl (State.activateFor p) s) ∧
    (∀ b, b ∉ xs → (xs.foldl (State.activateFor p) s).bun b = s.bun b) ∧
    ∀ b ∈ xs, ((xs.foldl (State.activateFor p) s).bun b).active = (s.bun b).inForceFor p ∧
      ((xs.foldl (State.activateFor p) s).bun b).armed = (s.bun b).armedFor p := by
  induction xs generalizing s with
  | nil => exact ⟨.refl s, fun _ _ => rfl, nofun⟩
  | cons x xs ih =>
    obtain ⟨fresh, rest⟩ := List.nodup_cons.1 nodup
    obtain ⟨effect, active, armed⟩ := s.activateFor_spec p x
    obtain ⟨opening, others, each⟩ := ih rest (s.activateFor p x)
    rw [List.foldl_cons]
    refine ⟨effect.opening.trans opening, fun b ne => ?_, fun b mem => ?_⟩
    · rw [others b fun mem => ne (List.mem_cons_of_mem _ mem), effect.others b fun e => ne (e ▸ List.mem_cons_self)]
    · rcases List.mem_cons.1 mem with rfl | mem
      · rw [others b fresh]; exact ⟨active, armed⟩
      · rw [← effect.others b fun e => fresh (e ▸ mem)]; exact each b mem

/-- Corruptions change stored payload alone (R106). -/
theorem upsets_spec (upsets : List Upset) (s : State) :
    upsets.foldl State.applyUpset s = { s with bundles := (upsets.foldl State.applyUpset s).bundles } ∧
    ∀ b, ((upsets.foldl State.applyUpset s).bun b).active = (s.bun b).active ∧
      ((upsets.foldl State.applyUpset s).bun b).pending = (s.bun b).pending ∧
      ((upsets.foldl State.applyUpset s).bun b).armed = (s.bun b).armed ∧
      ((upsets.foldl State.applyUpset s).bun b).playout.atStart = (s.bun b).playout.atStart := by
  induction upsets generalizing s with
  | nil => exact ⟨rfl, fun _ => ⟨rfl, rfl, rfl, rfl⟩⟩
  | cons u upsets ih =>
    obtain ⟨rest, each⟩ := ih (s.applyUpset u)
    have first : s.applyUpset u = { s with bundles := (s.applyUpset u).bundles } := rfl
    have bundle : ∀ b, ((s.applyUpset u).bun b).active = (s.bun b).active ∧
        ((s.applyUpset u).bun b).pending = (s.bun b).pending ∧ ((s.applyUpset u).bun b).armed = (s.bun b).armed ∧
        ((s.applyUpset u).bun b).playout.atStart = (s.bun b).playout.atStart := fun b => by
      unfold State.applyUpset State.modPlayout
      rw [State.bun_modBun]
      split
      · next e => subst e; exact ⟨rfl, rfl, rfl, by simp only; split <;> rfl⟩
      · exact ⟨rfl, rfl, rfl, rfl⟩
    rw [List.foldl_cons]
    refine ⟨by rw [rest, first], fun b => ?_⟩
    obtain ⟨active, pending, armed, atStart⟩ := bundle b
    obtain ⟨active', pending', armed', atStart'⟩ := each b
    exact ⟨active'.trans active, pending'.trans pending, armed'.trans armed, atStart'.trans atStart⟩

/-- The port's transmit timing latched: nothing else of it changes (R158). -/
theorem Trib.latchTiming_spec (x : Trib) : x.latchTiming =
      { x with txSource := x.latchTiming.txSource, txOffset := x.latchTiming.txOffset } ∧
    (x.cfg.clock = .system → x.latchTiming.txSource = .system ∧ x.latchTiming.txOffset = 0) ∧
    (x.cfg.clock = .loop → x.latchTiming.txOffset = 0 ∧ x.latchTiming.txSource =
      if x.rx = .aligned ∨ x.rx = .present then .line else .system) ∧
    (∀ b, x.cfg.clock = .steered b → x.latchTiming.txSource = .steered ∧ x.latchTiming.txOffset = x.steer.offset) := by
  unfold Trib.latchTiming
  split
  · next e => exact ⟨rfl, fun _ => ⟨rfl, rfl⟩, fun k => by simp [e] at k, fun _ k => by simp [e] at k⟩
  · next e =>
    refine ⟨rfl, fun k => by simp [e] at k, fun _ => ⟨rfl, ?_⟩, fun _ k => by simp [e] at k⟩
    exact if_congr (by cases x.rx <;> simp [RxState.onLine]) rfl rfl
  · next e => exact ⟨rfl, fun k => by simp [e] at k, fun k => by simp [e] at k, fun _ _ => ⟨rfl, rfl⟩⟩

/-- The state in which a frame start of port `p` plays (R14, R29, R158). -/
structure Opened (s u : State) (p : TribId) : Prop where
  rest : u = { s with bundles := u.bundles, tribs := u.tribs, nets := u.nets, claims := u.claims, ctrls := u.ctrls }
  up : ∀ n, (u.net n).up = (s.net n).up
  active : ∀ b, (u.bun b).active = (s.bun b).inForceFor p
  armed : ∀ b, (u.bun b).armed = (s.bun b).armedFor p
  atStart : ∀ b, (s.bun b).playout.atStart = .none → (u.bun b).playout.atStart = .none
  others : ∀ q, q ≠ p → u.trib q = { s.trib q with steer := (u.trib q).steer }
  own : ∃ x : Steering, u.trib p = ({ s.trib p with steer := x } : Trib).latchTiming ∧
    x.offset = ((steeringIntervalEnd p s).trib p).steer.offset

theorem opened (s : State) (p : TribId) (upsets : List Upset) : Opened s (s.openFrame p upsets) p := by
  obtain ⟨upset, each⟩ := upsets_spec upsets s
  have inForce : ∀ b, ((upsets.foldl State.applyUpset s).bun b).inForceFor p = (s.bun b).inForceFor p ∧
      ((upsets.foldl State.applyUpset s).bun b).armedFor p = (s.bun b).armedFor p := fun b => by
    obtain ⟨active, pending, armed, -⟩ := each b
    have record : ((upsets.foldl State.applyUpset s).bun b).armedRecord = (s.bun b).armedRecord := by
      simp only [Bundle.armedRecord, armed, pending]
    unfold Bundle.inForceFor Bundle.armedFor
    rw [record, active, armed]
    exact ⟨rfl, rfl⟩
  have tribs : ∀ q, (upsets.foldl State.applyUpset s).trib q = s.trib q := fun q => by
    simp only [State.trib]; rw [upset]
  rw [State.openFrame_eq]
  generalize hv : upsets.foldl State.applyUpset s = v at upset each inForce tribs
  obtain ⟨opening, -, effect⟩ := activations (List.nodup_finRange 64) p (steeringIntervalEnd p v)
  change Opening _ (allBundles.foldl (State.activateFor p) (steeringIntervalEnd p v)) at opening
  change ∀ b ∈ List.finRange 64, ((allBundles.foldl (State.activateFor p) (steeringIntervalEnd p v)).bun b).active = _ ∧
    ((allBundles.foldl (State.activateFor p) (steeringIntervalEnd p v)).bun b).armed = _ at effect
  generalize allBundles.foldl (State.activateFor p) (steeringIntervalEnd p v) = w at opening effect
  have ended : steeringIntervalEnd p v = { v with tribs := (steeringIntervalEnd p v).tribs } := rfl
  have interval : ∀ q, (steeringIntervalEnd p v).trib q = (steeringIntervalEnd p s).trib q := fun q => by
    unfold steeringIntervalEnd
    by_cases e : q = p
    · subst e; rw [State.trib_modTrib_self, State.trib_modTrib_self, tribs]
    · rw [State.trib_modTrib_ne _ _ e, State.trib_modTrib_ne _ _ e, tribs]
  have line : ∀ q, w.trib q = { s.trib q with steer := (w.trib q).steer } := fun q => by
    have own : (steeringIntervalEnd p s).trib q =
      { s.trib q with steer := ((steeringIntervalEnd p s).trib q).steer } := by
      unfold steeringIntervalEnd
      rw [State.trib_modTrib]
      split
      · next e => subst e; split <;> rfl
      · rfl
    rw [opening.tribs q, interval q, own]
  refine ⟨?_, fun n => ?_, fun b => ?_, fun b => ?_, fun b none => ?_, fun q ne => ?_, (w.trib p).steer, ?_, ?_⟩
  · change ({ w with tribs := _ } : State) = _
    rw [opening.rest, ended, upset]
    rfl
  · refine (opening.up n).trans ?_
    rw [ended]; change (v.net n).up = _; rw [upset]; rfl
  · exact ((effect b (List.mem_finRange b)).1).trans (inForce b).1
  · exact ((effect b (List.mem_finRange b)).2).trans (inForce b).2
  · exact opening.atStart b ((each b).2.2.2.trans none)
  · rw [State.trib_modTrib_ne _ _ ne]; exact line q
  · exact (State.trib_modTrib_self ..).trans (congrArg Trib.latchTiming (line p))
  · rw [opening.offset p, interval p]

end Sys2Proof.Machine
end

section
/-! The playout of one bundle: what it leaves alone (R97 to R105), and that it depends on that bundle alone. -/

namespace Sys2Proof.Machine

open Safety

/-! ## What one bundle's playout leaves -/

/-- Bundle `b` alone plays from `s` to `t`: steering intervals, event queues and faults apart, nothing else differs,
and its record stays in force and the bundle running. -/
structure Plays (b : BundleId) (s t : State) : Prop where
  rest : t = { s with bundles := t.bundles, tribs := t.tribs, ctrls := t.ctrls, faults := t.faults }
  others : OtherBundles s t b
  tribs : ∀ p, t.trib p = { s.trib p with steer := (t.trib p).steer }
  active : (t.bun b).active = (s.bun b).active
  running : (s.bun b).state.running = true → (t.bun b).state.running = true

theorem Plays.refl (b : BundleId) (s : State) : Plays b s s := ⟨rfl, fun _ _ => rfl, fun _ => rfl, rfl, id⟩

theorem Plays.trans {b : BundleId} {s t u : State} (h : Plays b s t) (k : Plays b t u) : Plays b s u where
  rest := by rw [k.rest, h.rest]
  others c ne := (k.others c ne).trans (h.others c ne)
  tribs p := by rw [k.tribs p, h.tribs p]
  active := k.active.trans h.active
  running := k.running ∘ h.running

theorem Plays.ite {b : BundleId} {s t u : State} {c : Prop} [Decidable c] (h : Plays b s t) (k : Plays b s u) :
    Plays b s (if c then t else u) := by split <;> assumption

theorem Local.plays {b : BundleId} {s t : State} (h : Local b s t)
    (running : (s.bun b).state.running = true → (t.bun b).state.running = true) : Plays b s t := by
  refine ⟨?_, h.others, h.tribs, h.table.active, running⟩
  rw [h.rest]

theorem Plays.of_calm {b : BundleId} {s t : State} (h : Local b s t) (k : Calm s t) : Plays b s t :=
  h.plays fun e => by rw [k.states b]; exact e

theorem Plays.modPlayout (s : State) (b : BundleId) (f : Playout → Playout) : Plays b s (s.modPlayout b f) :=
  ⟨rfl, fun _ ne => State.bun_modBun_ne s _ ne, fun _ => rfl, by rw [State.bun_modPlayout_self],
    fun e => by rw [State.bun_modPlayout_self]; exact e⟩

theorem Plays.post (s : State) (b : BundleId) (k : EventKind) (j : Subject) (d : Nat) : Plays b s (s.post k j d) :=
  (Local.post ..).plays id

theorem Plays.changeState (s : State) (b : BundleId) {new : BState} (h : new.running = true) (cause : StateCause) :
    Plays b s (s.changeState b new cause) :=
  (Local.changeState ..).plays fun _ => by rw [State.bun_changeState]; exact h

theorem Plays.fallBack (s : State) (b : BundleId) {new : BState} (h : new.running = true) (cause : StateCause) :
    Plays b s (s.fallBack b new cause) := by
  unfold State.fallBack
  simp only
  split
  · exact ((Plays.changeState s b h cause).trans (.of_calm (.modDelay ..) (.dropProposal ..))).trans
      (.of_calm (.computeTarget ..) (.computeTarget ..))
  · exact .changeState s b h cause

theorem Plays.recordFault (s : State) (b : BundleId) (k : FaultKind) (j : Option BundleId) (d : Nat) :
    Plays b s (s.recordFault k j d) := ⟨rfl, fun _ _ => rfl, fun _ => rfl, rfl, id⟩

theorem Plays.modPlay (s : State) (b : BundleId) (f : PlayCounters → PlayCounters) : Plays b s (s.modPlay b f) := by
  unfold State.modPlay; exact .modPlayout ..

theorem Plays.setAtStart (s : State) (b : BundleId) (x : AtStart) : Plays b s (s.setAtStart b x) := by
  unfold State.setAtStart; exact .modPlayout ..

theorem Plays.substitute (s : State) (b : BundleId) (r : Record) : Plays b s (s.substitute b r) := by
  unfold State.substitute State.give; exact .modPlayout ..

theorem Plays.giveFrame (s : State) (b : BundleId) (r : Record) : Plays b s (s.giveFrame b r) := by
  unfold State.giveFrame
  simp only
  split
  · next x _ _ =>
    have given : ∀ u : State, Plays b u (if x.frameSound r.slots.count (s.bun b).playout.played = true then
        u.givePayload b (frameBytes x.payload r.slots.count (s.bun b).playout.played)
        else u.giveParityFrame b r x.seq) := fun u => by
      split
      · exact .modPlayout ..
      · unfold State.giveParityFrame
        exact ((Plays.substitute ..).trans (.recordFault ..)).trans (.modPlay ..)
    have measured : Plays b s (if (s.bun b).playout.played = 0 then s.modPlayout b fun p =>
        { p with residence := widen p.residence (s.timeCount - x.arrival).toNat } else s) :=
      .ite (.modPlayout ..) (.refl ..)
    exact measured.trans (given _)
  · exact .substitute ..

theorem Plays.underrun (s : State) (b : BundleId) (r : Record) : Plays b s (s.underrun b r) := by
  unfold State.underrun
  have posted := (Plays.modPlayout s b fun p => { p with counters := { p.counters with
    underruns := bump p.counters.underruns } }).trans (.post _ b .playoutUnderrun (.bundle b)
    ((s.bun b).playout.head.getD 0).toNat)
  exact (((posted.trans (.of_calm (.postIf ..) (.postAbandoned ..))).trans (.modPlayout ..)).trans
    (.fallBack _ b rfl _)).trans (.modPlayout ..)

theorem Plays.playFrame (s : State) (b : BundleId) (r : Record) : Plays b s (s.playFrame b r) := by
  unfold State.playFrame
  simp only
  split
  · split
    · exact .underrun ..
    · exact ((Plays.modPlayout ..).trans (.giveFrame ..)).trans (.modPlayout ..)
  · exact (Plays.giveFrame ..).trans (.modPlayout ..)

theorem Plays.adjustTick (s : State) (b : BundleId) (r : Record) : Plays b s (s.adjustTick b r) := by
  have passed : ∀ u : State, Plays b u ((((u.modPlayout b fun p => p.passFrame r.fpp).modPlay b fun c =>
      { c with skipped := bump c.skipped }).setPace b 0 (some .skip)).setAtStart b .skipped) := fun u =>
    (((Plays.modPlayout u b _).trans (.modPlayout ..)).trans (.modPlayout ..)).trans (.modPlayout ..)
  have skip : Plays b s (s.skipStep b r) := by
    unfold State.skipStep
    simp only
    split
    · exact (Plays.underrun ..).trans (.modPlayout ..)
    · next u begun =>
      refine .trans ?_ (passed u)
      split at begun
      · obtain ⟨kind, -, rfl⟩ := Option.map_eq_some_iff.1 begun
        exact .modPlayout ..
      · cases begun; exact .refl ..
  unfold State.adjustTick
  simp only
  split
  · exact .refl ..
  · refine .ite (.ite ?_ (.ite ?_ skip)) (.modPlayout ..)
    · exact (Plays.post ..).trans (.modPlayout ..)
    · exact ((Plays.modPlayout ..).trans (.modPlayout ..)).trans (.modPlayout ..)

theorem Plays.startPlayout (s : State) (b : BundleId) (r : Record) : Plays b s (s.startPlayout b r) := by
  have trim : Plays b s (s.startTrim b r) := by
    unfold State.startTrim
    simp only
    split
    · exact (Plays.modPlayout ..).trans (.post ..)
    · exact .refl ..
  have stated : Plays b s (((s.startTrim b r).modPlayout b fun p =>
    { p with phase := .waitPacket, startCount := 0 }).changeState
      b .playing .playoutStart) := (trim.trans (.modPlayout ..)).trans (.changeState _ b rfl _)
  unfold State.startPlayout
  exact stated.trans (.setAtStart ..)

/-- A bundle's frame start is local to it, and it goes on running (R92 to R104). -/
theorem Plays.playBundle (s : State) (b : BundleId) : Plays b s (s.playBundle b) := by
  have begins : ∀ r, Plays b s (s.beginStart b r) := fun r =>
    .ite (.refl ..) (.ite (.startPlayout ..) (.ite (.adjustTick ..) (.refl ..)))
  have finishes : ∀ (u : State) r, Plays b u (u.finishStart b r) := fun u r => by
    unfold State.finishStart
    simp only
    split
    · exact .substitute ..
    · exact .modPlayout ..
    · exact .playFrame ..
    · exact (Plays.modPlayout ..).trans (.ite (.refl ..) (.modPlayout ..))
  unfold State.playBundle
  simp only
  split
  · exact .refl ..
  · exact .ite (((begins _).trans (finishes ..)).trans (.modPlayout ..)) (.refl ..)

/-! ## It depends on the bundle and on the time alone -/

/-- Bundle `b` is the same in both states, at the same time. -/
structure Agree (b : BundleId) (s t : State) : Prop where
  bun : s.bun b = t.bun b
  now : s.now = t.now

namespace Agree

variable {b : BundleId} {s t : State}

theorem modBun (h : Agree b s t) (f : Bundle → Bundle) : Agree b (s.modBun b f) (t.modBun b f) :=
  ⟨by rw [State.bun_modBun_self, State.bun_modBun_self, h.bun], h.now⟩

theorem modPlayout (h : Agree b s t) (f : Playout → Playout) : Agree b (s.modPlayout b f) (t.modPlayout b f) :=
  h.modBun _

theorem modDelay (h : Agree b s t) (f : Delay → Delay) : Agree b (s.modDelay b f) (t.modDelay b f) := h.modBun _

theorem modPlay (h : Agree b s t) (f : PlayCounters → PlayCounters) : Agree b (s.modPlay b f) (t.modPlay b f) :=
  h.modPlayout _

theorem setPace (h : Agree b s t) (pace : Nat) (step : Option Direction) :
    Agree b (s.setPace b pace step) (t.setPace b pace step) := h.modPlayout _

theorem setAtStart (h : Agree b s t) (x : AtStart) : Agree b (s.setAtStart b x) (t.setAtStart b x) := h.modPlayout _

theorem post (h : Agree b s t) (k : EventKind) (j : Subject) (d : Nat) : Agree b (s.post k j d) (t.post k j d) :=
  ⟨h.bun, h.now⟩

theorem postIf (h : Agree b s t) (c : Bool) (k : EventKind) (j : Subject) (d : Nat) :
    Agree b (s.postIf c k j d) (t.postIf c k j d) := by cases c <;> exact ⟨h.bun, h.now⟩

theorem abandonSteering (h : Agree b s t) (c : BundleId) : Agree b (s.abandonSteering c) (t.abandonSteering c) :=
  ⟨h.bun, h.now⟩

theorem ite (c : Prop) [Decidable c] {s' t' : State} (h : Agree b s t) (k : Agree b s' t') :
    Agree b (if c then s else s') (if c then t else t') := by split <;> assumption

theorem changeState (h : Agree b s t) (new : BState) (cause : StateCause) :
    Agree b (s.changeState b new cause) (t.changeState b new cause) := by
  have set := h.modBun fun x => { x with state := new }
  unfold State.changeState
  rw [h.bun]
  exact (ite _ (set.abandonSteering b) set).post ..

theorem startAdjust (h : Agree b s t) (target : Nat) : Agree b (s.startAdjust b target) (t.startAdjust b target) := by
  unfold State.startAdjust
  rw [h.bun]
  simp only
  cases (t.bun b).playout.adjust with
  | none => exact ((h.modPlayout _).abandonSteering b).post ..
  | some a => exact (h.modPlayout _).post ..

theorem propose (h : Agree b s t) (proposed : Option Nat) (shown : Nat) :
    Agree b (s.propose b proposed shown) (t.propose b proposed shown) := by
  unfold State.propose
  rw [h.bun]
  exact (h.modDelay _).post ..

theorem settlePlaying (h : Agree b s t) (r : Record) (target : Nat) :
    Agree b (s.settlePlaying b r target) (t.settlePlaying b r target) := by
  unfold State.settlePlaying
  rw [h.bun]
  simp only
  refine ite _ ?_ ?_
  · cases r.eqApply with
    | auto => exact (h.modDelay _).startAdjust target
    | held => exact ite _ h (h.propose ..)
  · cases (t.bun b).delay.proposed with
    | none => exact h
    | some _ => exact h.propose ..

theorem computeTarget (h : Agree b s t) : Agree b (s.computeTarget b) (t.computeTarget b) := by
  unfold State.computeTarget
  rw [h.bun]
  simp only
  cases (t.bun b).active with
  | none => exact h
  | some r =>
    have flags : ∀ c, Agree b (s.setEqualiseFlags b c) (t.setEqualiseFlags b c) := fun c => by
      unfold State.setEqualiseFlags
      rw [h.bun]
      exact ((h.modDelay _).postIf ..).postIf ..
    have wait : ∀ c found, Agree b ((s.setEqualiseFlags b c).endEstimateWait b found)
        ((t.setEqualiseFlags b c).endEstimateWait b found) := fun c found => by
      unfold State.endEstimateWait
      rw [(flags c).bun]
      exact ite _ ((flags c).modPlayout _) (flags c)
    cases (t.bun b).state with
    | playing => exact (wait ..).settlePlaying ..
    | stopped => exact (wait ..).modDelay _
    | filling => exact (wait ..).modDelay _
    | down => exact (wait ..).modDelay _
    | free => exact wait ..

theorem fallBack (h : Agree b s t) (new : BState) (cause : StateCause) :
    Agree b (s.fallBack b new cause) (t.fallBack b new cause) := by
  have changed := h.changeState new cause
  unfold State.fallBack
  rw [h.bun]
  exact ite _ (changed.modDelay _).computeTarget changed

theorem underrun (h : Agree b s t) (r : Record) : Agree b (s.underrun b r) (t.underrun b r) := by
  have counted := h.modPlay fun c => { c with underruns := bump c.underruns }
  have abandoned : ∀ {u v : State}, Agree b u v → Agree b (u.postAbandoned b) (v.postAbandoned b) := fun k => by
    unfold State.postAbandoned
    rw [k.bun]
    exact k.postIf ..
  unfold State.underrun
  rw [h.bun]
  exact (((abandoned (counted.post ..)).modPlayout _).fallBack ..).modPlayout _

theorem giveFrame (h : Agree b s t) (r : Record) : Agree b (s.giveFrame b r) (t.giveFrame b r) := by
  have substitute : ∀ {u v : State}, Agree b u v → Agree b (u.substitute b r) (v.substitute b r) := fun k => by
    unfold State.substitute
    rw [k.bun]
    exact k.modPlayout _
  have time : s.timeCount = t.timeCount := by simp only [State.timeCount, h.now]
  unfold State.giveFrame
  rw [h.bun]
  generalize (t.bun b).playout = p
  simp only
  cases p.period with
  | none => exact substitute h
  | missing => exact substitute h
  | packet =>
    cases p.head.bind p.slotFor with
    | none => exact substitute h
    | some x =>
      have measured : Agree b (if p.played = 0 then s.modPlayout b fun q =>
            { q with residence := widen q.residence (s.timeCount - x.arrival).toNat } else s)
          (if p.played = 0 then t.modPlayout b fun q =>
            { q with residence := widen q.residence (t.timeCount - x.arrival).toNat } else t) := by
        rw [time]
        exact ite _ (h.modPlayout _) h
      have parity : ∀ {u v : State}, Agree b u v →
        Agree b (u.giveParityFrame b r x.seq) (v.giveParityFrame b r x.seq) :=
        fun k => by
          have faulted : Agree b ((State.substitute _ b r).recordFault .storeParity (some b) x.seq.toNat)
              ((State.substitute _ b r).recordFault .storeParity (some b) x.seq.toNat) :=
            ⟨(substitute k).bun, (substitute k).now⟩
          unfold State.giveParityFrame
          exact faulted.modPlay _
      exact ite _ (measured.modPlayout _) (parity measured)

theorem playFrame (h : Agree b s t) (r : Record) : Agree b (s.playFrame b r) (t.playFrame b r) := by
  unfold State.playFrame
  rw [h.bun]
  refine ite _ ?_ ((h.giveFrame r).modPlayout _)
  cases (t.bun b).playout.nextPeriod with
  | none => exact h.underrun r
  | some kind => exact ((h.modPlayout _).giveFrame r).modPlayout _

theorem skipStep (h : Agree b s t) (r : Record) : Agree b (s.skipStep b r) (t.skipStep b r) := by
  have passed : ∀ {u v : State}, Agree b u v → Agree b
      ((((u.modPlayout b fun p => p.passFrame r.fpp).modPlay b fun c =>
        { c with skipped := bump c.skipped }).setPace b 0 (some .skip)).setAtStart b .skipped)
      ((((v.modPlayout b fun p => p.passFrame r.fpp).modPlay b fun c =>
        { c with skipped := bump c.skipped }).setPace b 0 (some .skip)).setAtStart b .skipped) := fun k =>
    (((k.modPlayout _).modPlay _).setPace ..).setAtStart _
  unfold State.skipStep
  rw [h.bun]
  by_cases idle : (t.bun b).playout.period = .none
  · simp only [if_pos idle]
    cases (t.bun b).playout.nextPeriod with
    | none => exact (h.underrun r).setAtStart _
    | some kind => exact passed (h.modPlayout _)
  · simp only [if_neg idle]
    exact passed h

theorem adjustTick (h : Agree b s t) (r : Record) : Agree b (s.adjustTick b r) (t.adjustTick b r) := by
  unfold State.adjustTick
  rw [h.bun]
  simp only
  cases (t.bun b).playout.adjust with
  | none => exact h
  | some a =>
    refine ite _ ?_ (h.setPace ..)
    unfold State.adjustStep
    rw [h.bun]
    exact ite _ ((h.post ..).modPlayout _) (ite _ (((h.modPlay _).setPace ..).setAtStart _) (h.skipStep r))

theorem startPlayout (h : Agree b s t) (r : Record) : Agree b (s.startPlayout b r) (t.startPlayout b r) := by
  have trim : Agree b (s.startTrim b r) (t.startTrim b r) := by
    unfold State.startTrim
    rw [h.bun]
    exact ite _ ((h.modPlayout _).post ..) h
  exact ((trim.modPlayout _).changeState ..).setAtStart _

/-- What a bundle's frame start makes of it depends on it and on the time alone (R92 to R104). -/
theorem playBundle (h : Agree b s t) : Agree b (s.playBundle b) (t.playBundle b) := by
  have begins : ∀ r, Agree b (s.beginStart b r) (t.beginStart b r) := fun r => by
    unfold State.beginStart
    rw [h.bun]
    exact ite _ h (ite _ (h.startPlayout r) (ite _ (h.adjustTick r) h))
  have fills : ∀ {u v : State} r, Agree b u v → Agree b (u.fillFrame b r) (v.fillFrame b r) := fun r k => by
    have given := k.modPlayout fun p => { p with out := fillBytes r }
    unfold State.fillFrame State.give
    simp only
    rw [given.bun]
    exact ite _ given (given.modPlayout _)
  have finishes : ∀ {u v : State} r, Agree b u v → Agree b (u.finishStart b r) (v.finishStart b r) :=
    fun {u v} r k => by
    unfold State.finishStart
    rw [k.bun]
    simp only
    split
    · unfold State.substitute
      rw [k.bun]
      exact k.modPlayout _
    · exact k.modPlayout _
    · exact k.playFrame r
    · exact fills r k
  unfold State.playBundle
  rw [h.bun]
  simp only
  cases (t.bun b).active with
  | none => exact h
  | some r => exact ite _ ((finishes r (begins r)).setAtStart _) h

end Agree

end Sys2Proof.Machine
end

section
/-! A transmit frame: the playout of its port, its 32 bytes and its slot 0 (R14 to R16, R97): O34. -/

namespace Sys2Proof.Machine

open Safety

/-! ## Every bundle on the port plays -/

/-- In a run over distinct bundles that each change themselves alone, what becomes of one is its own turn from a state
that has it as it was. -/
theorem foldl_own {f : State → BundleId → State} (others : ∀ s b c, c ≠ b → (f s b).bun c = s.bun c)
    (now : ∀ s b, (f s b).now = s.now) {xs : List BundleId} (nodup : xs.Nodup) {b : BundleId} (mem : b ∈ xs)
    (s : State) : ∃ v, Agree b v s ∧ (xs.foldl f s).bun b = (f v b).bun b := by
  have rest : ∀ (ys : List BundleId) (u : State), b ∉ ys → (ys.foldl f u).bun b = u.bun b := fun ys => by
    induction ys with
    | nil => exact fun _ _ => rfl
    | cons y ys ih =>
      intro u fresh
      rw [List.foldl_cons, ih _ fun k => fresh (List.mem_cons_of_mem _ k),
        others u y b fun e => fresh (e ▸ List.mem_cons_self)]
  induction xs generalizing s with
  | nil => cases mem
  | cons x xs ih =>
    obtain ⟨fresh, nodup⟩ := List.nodup_cons.1 nodup
    rw [List.foldl_cons]
    rcases List.mem_cons.1 mem with rfl | mem
    · exact ⟨s, ⟨rfl, rfl⟩, rest xs _ fresh⟩
    · have ne : b ≠ x := fun e => fresh (e ▸ mem)
      obtain ⟨v, agree, own⟩ := ih nodup mem (f s x)
      exact ⟨v, ⟨agree.bun.trans (others s x b ne), agree.now.trans (now s x)⟩, own⟩

theorem Plays.now {b : BundleId} {s t : State} (h : Plays b s t) : t.now = s.now := by rw [h.rest]

theorem Plays.sampleOn (p : TribId) (s : State) (b : BundleId) : Plays b s (s.sampleOn p b) := by
  unfold State.sampleOn
  simp only
  split
  · exact .refl ..
  · exact .ite (.modPlayout ..) (.refl ..)

theorem Plays.playOn (p : TribId) (s : State) (b : BundleId) : Plays b s (s.playOn p b) := by
  unfold State.playOn
  exact .ite (.playBundle ..) (.refl ..)

theorem State.sampleOn_off {p : TribId} {s : State} {b : BundleId} (h : (s.bun b).isOn p = false) :
    s.sampleOn p b = s := by
  unfold State.sampleOn
  simp only
  cases e : (s.bun b).active with
  | none => rfl
  | some r =>
    have off : r.port ≠ p := fun k => by simp [Bundle.isOn, e, k] at h
    simp [off]

/-- A frame start of a port: its bundles play, and nothing else differs but steering intervals, queues of events and
faults. -/
structure Playing (s t : State) : Prop where
  rest : t = { s with bundles := t.bundles, tribs := t.tribs, ctrls := t.ctrls, faults := t.faults }
  tribs : ∀ p, t.trib p = { s.trib p with steer := (t.trib p).steer }
  active : ∀ b, (t.bun b).active = (s.bun b).active
  running : ∀ b, (s.bun b).state.running = true → (t.bun b).state.running = true

theorem Playing.refl (s : State) : Playing s s := ⟨rfl, fun _ => rfl, fun _ => rfl, fun _ => id⟩

theorem Playing.trans {s t u : State} (h : Playing s t) (k : Playing t u) : Playing s u where
  rest := by rw [k.rest, h.rest]
  tribs p := by rw [k.tribs p, h.tribs p]
  active b := (k.active b).trans (h.active b)
  running b := k.running b ∘ h.running b

theorem Plays.playing {b : BundleId} {s t : State} (h : Plays b s t) : Playing s t := by
  refine ⟨h.rest, h.tribs, fun c => ?_, fun c => ?_⟩ <;> by_cases e : c = b
  · subst e; exact h.active
  · rw [h.others c e]
  · subst e; exact h.running
  · rw [h.others c e]; exact id

theorem Playing.foldl {f : State → BundleId → State} (h : ∀ s b, Plays b s (f s b)) (xs : List BundleId) (s : State) :
    Playing s (xs.foldl f s) := by
  induction xs generalizing s with
  | nil => exact .refl s
  | cons x xs ih => exact (h s x).playing.trans (ih _)

theorem Playing.steerSample (s : State) (p : TribId) : Playing s (s.steerSample p) := by
  unfold State.steerSample
  split
  · split
    · refine ⟨rfl, fun q => ?_, fun _ => rfl, fun _ => id⟩
      rw [State.trib_modTrib]
      split
      · next e => subst e; rfl
      · rfl
    · exact .refl s
  · exact .refl s

theorem State.steerSample_bun (s : State) (p : TribId) (b : BundleId) : (s.steerSample p).bun b = s.bun b := by
  unfold State.steerSample
  split
  · split <;> rfl
  · rfl

theorem State.playPort_eq (s : State) (p : TribId) : s.playPort p =
    allBundles.foldl (State.playOn p) ((allBundles.foldl (State.sampleOn p) s).steerSample p) := rfl

/-- Each bundle on the port has its fill sampled and plays one frame; every other stays (R90, R97). -/
theorem playPort_spec (s : State) (p : TribId) : Playing s (s.playPort p) ∧
    ∀ b, (s.playPort p).bun b =
      if (s.bun b).isOn p then ((s.sampleOn p b).playBundle b).bun b else s.bun b := by
  have nodup : allBundles.Nodup := List.nodup_finRange 64
  rw [State.playPort_eq]
  have sampled := Playing.foldl (Plays.sampleOn p) allBundles s
  have steered := sampled.trans (.steerSample (allBundles.foldl (State.sampleOn p) s) p)
  refine ⟨steered.trans (.foldl (Plays.playOn p) allBundles _), fun b => ?_⟩
  obtain ⟨v, first, own⟩ := foldl_own (fun s b c ne => (Plays.sampleOn p s b).others c ne)
    (fun s b => (Plays.sampleOn p s b).now) nodup (List.mem_finRange b) s
  obtain ⟨w, second, turn⟩ := foldl_own (fun s b c ne => (Plays.playOn p s b).others c ne)
    (fun s b => (Plays.playOn p s b).now) nodup (List.mem_finRange b)
      ((allBundles.foldl (State.sampleOn p) s).steerSample p)
  rw [turn]
  have sample : (v.sampleOn p b).bun b = (s.sampleOn p b).bun b := by
    unfold State.sampleOn
    simp only
    rw [first.bun]
    split
    · exact first.bun
    · split
      · unfold State.sampleFill
        rw [State.bun_modPlayout_self, State.bun_modPlayout_self, first.bun]
      · exact first.bun
  have start : w.bun b = (s.sampleOn p b).bun b := by
    rw [second.bun, State.steerSample_bun, own, sample]
  have agree : Agree b w (s.sampleOn p b) := by
    refine ⟨start, second.now.trans ?_⟩
    rw [(Plays.sampleOn p s b).now, steered.rest]
  have on : (w.bun b).isOn p = (s.bun b).isOn p := by
    unfold Bundle.isOn
    rw [start, (Plays.sampleOn p s b).active]
  unfold State.playOn
  rw [on]
  split
  · exact agree.playBundle.bun
  · next off => rw [start, State.sampleOn_off (by simpa using off)]

/-! ## The bytes of a frame (R14) -/

theorem length_placeSlots (frame : List Byte) (slots : List Nat) (bytes : List Byte) :
    (placeSlots frame slots bytes).length = frame.length := by
  unfold placeSlots
  generalize slots.zip bytes = xs
  induction xs generalizing frame with
  | nil => rfl
  | cons x xs ih => rw [List.foldl_cons, ih, List.length_set]

/-- A slot that is not among those placed keeps its byte. -/
theorem placeSlots_other {slots : List Nat} {n : Nat} (h : n ∉ slots) (frame bytes : List Byte) :
    (placeSlots frame slots bytes)[n]? = frame[n]? := by
  have each : ∀ x ∈ slots.zip bytes, x.1 ≠ n := fun x mem e => h (e ▸ (List.of_mem_zip mem).1)
  unfold placeSlots
  generalize slots.zip bytes = xs at each
  induction xs generalizing frame with
  | nil => rfl
  | cons x xs ih =>
    rw [List.foldl_cons, ih _ fun y mem => each y (List.mem_cons_of_mem _ mem),
      List.getElem?_set_ne (each x List.mem_cons_self)]

/-- A slot placed holds the byte of its position. -/
theorem placeSlots_own {slots : List Nat} (nodup : slots.Nodup) {frame bytes : List Byte} {i n : Nat} {v : Byte}
    (slot : slots[i]? = some n) (byte : bytes[i]? = some v) (lt : n < frame.length) :
    (placeSlots frame slots bytes)[n]? = some v := by
  induction slots generalizing frame bytes i with
  | nil => simp at slot
  | cons x slots ih =>
    obtain ⟨fresh, nodup⟩ := List.nodup_cons.1 nodup
    cases bytes with
    | nil => simp at byte
    | cons y bytes =>
      have step : placeSlots frame (x :: slots) (y :: bytes) = placeSlots (frame.set x y) slots bytes := rfl
      rw [step]
      cases i with
      | zero =>
        obtain rfl : x = n := by simpa using slot
        obtain rfl : y = v := by simpa using byte
        rw [placeSlots_other fresh, List.getElem?_set_self lt]
      | succ i => exact ih nodup (by simpa using slot) (by simpa using byte) (by rwa [List.length_set])

/-- A running bundle on the port. -/
def RunsOn (s : State) (p : TribId) (b : BundleId) (r : Record) : Prop :=
  (s.bun b).active = some r ∧ r.port = p ∧ (s.bun b).state.running = true

theorem placeBundle_of_runsOn {s : State} {p : TribId} {b : BundleId} {r : Record} (h : RunsOn s p b r)
    (frame : List Byte) : s.placeBundle p frame b = placeSlots frame r.slots.toList (s.bun b).playout.out := by
  obtain ⟨active, port, running⟩ := h
  unfold State.placeBundle
  simp [active, port, running]

theorem placeBundle_of_not {s : State} {p : TribId} {b : BundleId} (h : ∀ r, ¬ RunsOn s p b r) (frame : List Byte) :
    s.placeBundle p frame b = frame := by
  unfold State.placeBundle
  simp only
  split
  · rfl
  · next r active =>
    refine if_neg fun k => ?_
    simp only [Bool.and_eq_true, decide_eq_true_eq] at k
    exact h r ⟨active, k.1, k.2⟩

theorem length_placeBundle (s : State) (p : TribId) (frame : List Byte) (b : BundleId) :
    (s.placeBundle p frame b).length = frame.length := by
  unfold State.placeBundle
  simp only
  split
  · rfl
  · split
    · exact length_placeSlots ..
    · rfl

theorem length_placed (s : State) (p : TribId) (xs : List BundleId) (frame : List Byte) :
    (xs.foldl (s.placeBundle p) frame).length = frame.length := by
  induction xs generalizing frame with
  | nil => rfl
  | cons x xs ih => rw [List.foldl_cons, ih, length_placeBundle]

/-- A slot that none of the bundles has keeps its byte. -/
theorem placed_other {s : State} {p : TribId} {n : Nat} {xs : List BundleId}
    (h : ∀ b ∈ xs, ∀ r, RunsOn s p b r → n ∉ r.slots.toList) (frame : List Byte) :
    (xs.foldl (s.placeBundle p) frame)[n]? = frame[n]? := by
  induction xs generalizing frame with
  | nil => rfl
  | cons x xs ih =>
    rw [List.foldl_cons, ih fun b mem => h b (List.mem_cons_of_mem _ mem)]
    by_cases e : ∃ r, RunsOn s p x r
    · obtain ⟨r, runs⟩ := e
      rw [placeBundle_of_runsOn runs, placeSlots_other (h x List.mem_cons_self r runs)]
    · rw [placeBundle_of_not fun r k => e ⟨r, k⟩]

/-- A slot that one of the bundles alone has holds that bundle's byte. -/
theorem placed_own {s : State} {p : TribId} {b : BundleId} {r : Record} {i n : Nat} {v : Byte} {xs : List BundleId}
    (distinct : xs.Nodup) (mem : b ∈ xs) (runs : RunsOn s p b r) (nodup : r.slots.toList.Nodup)
    (alone : ∀ c, c ≠ b → ∀ q, RunsOn s p c q → n ∉ q.slots.toList) (slot : r.slots.toList[i]? = some n)
    (byte : (s.bun b).playout.out[i]? = some v) {frame : List Byte} (lt : n < frame.length) :
    (xs.foldl (s.placeBundle p) frame)[n]? = some v := by
  induction xs generalizing frame with
  | nil => cases mem
  | cons x xs ih =>
    obtain ⟨fresh, distinct⟩ := List.nodup_cons.1 distinct
    rw [List.foldl_cons]
    rcases List.mem_cons.1 mem with rfl | mem
    · rw [placed_other fun c mem q => alone c (fun e => fresh (e ▸ mem)) q, placeBundle_of_runsOn runs,
        placeSlots_own nodup slot byte lt]
    · exact ih distinct mem (by rwa [length_placeBundle])

theorem length_slotBytes (s : State) (p : TribId) : (s.slotBytes p).length = 32 := by
  unfold State.slotBytes
  rw [length_placed, List.length_replicate]

theorem length_buildFrame (s : State) (p : TribId) (ones : Bool) (word : Byte) :
    (s.buildFrame p ones word).length = 32 := by
  unfold State.buildFrame
  split
  · rw [List.length_replicate]
  · split
    · rw [List.length_set, length_slotBytes]
    · exact length_slotBytes ..

/-- A frame not sent as all ones carries its slots, slot 0 of a FRAMED port apart. -/
theorem buildFrame_slot {s : State} {p : TribId} {n : Nat} (h : (s.trib p).cfg.kind = .framed → n ≠ 0) (word : Byte) :
    (s.buildFrame p false word)[n]? = (s.slotBytes p)[n]? := by
  unfold State.buildFrame
  rw [if_neg (by simp)]
  split
  · next framed => exact List.getElem?_set_ne (h framed).symm
  · rfl

theorem buildFrame_zero {s : State} {p : TribId} (h : (s.trib p).cfg.kind = .framed) (word : Byte) :
    (s.buildFrame p false word)[0]? = some word := by
  unfold State.buildFrame
  rw [if_neg (by simp), h]
  exact List.getElem?_set_self (by rw [length_slotBytes]; decide)

/-! ## All ones and slot 0 (R15, R16) -/

/-- No start or step ahead of the frame start: all ones by the states as they stand. -/
theorem State.aisDown_iff {s : State} (none : ∀ b, (s.bun b).playout.atStart = .none) (p : TribId) :
    s.aisDown p = true ↔ (s.trib p).cfg.aisWhenDown = true ∧ (∃ b, (s.bun b).isOn p = true) ∧
      ∀ b, (s.bun b).isOn p = true → (s.bun b).state ≠ .playing := by
  have state : ∀ b, (s.bun b).stateAtStart = (s.bun b).state := fun b => by simp [Bundle.stateAtStart, none b]
  unfold State.aisDown
  simp only [Bool.and_eq_true, state, List.all_eq_true, List.mem_filter, bne_iff_ne, and_assoc]
  simp [allBundles, List.filter_eq_nil_iff]

theorem State.alertOn_eq {s : State} (none : ∀ b, (s.bun b).playout.atStart = .none) (p : TribId) :
    s.alertOn p = s.portDelayAlert p := by
  have alert : ∀ b, (s.bun b).alertAtStart = (s.bun b).delayAlert := fun b => by
    unfold Bundle.alertAtStart
    rw [none b]
    simp [show (AtStart.none == AtStart.ended) = false from rfl,
      show (AtStart.none == AtStart.underran) = false from rfl]
  simp only [State.alertOn, State.portDelayAlert, alert]

/-- The generated slot 0, its alert bit taken away (Table 9). -/
theorem slotZero_eq (x : Trib) (alert : Bool) : slotZero x.odd x.remoteAlarmOut alert x.cfg.alert =
    if x.odd then (if x.rx = .aligned then 0xDF else 0xFF) - (if alert then alertMask x.cfg.alert else 0)
    else 0x9B := by
  have word : ∀ (remote alert : Bool) (bit : AlertBit),
      (if remote then (0xFF : Byte) else 0xDF) &&& ~~~ (if alert then alertMask bit else 0x00) =
      (if remote then 0xFF else 0xDF) - (if alert then alertMask bit else 0) := fun remote alert bit => by
    cases bit <;> revert remote alert <;> decide
  unfold slotZero Trib.remoteAlarmOut
  rw [word]
  cases x.rx <;> rfl

/-! ## The frame start whole -/

/-- What a frame start sends: the port's line with its frame, after its bundles have played (R14). -/
theorem transmitFrameStart_eq {s : State} {p : TribId} (h : (s.trib p).cfg.kind ≠ .disabled) (upsets : List Upset) :
    transmitFrameStart p upsets s = ((s.openFrame p upsets).playPort p).modTrib p fun x => x.sendFrame
      (((s.openFrame p upsets).playPort p).buildFrame p ((s.openFrame p upsets).aisDown p)
        (slotZero ((s.openFrame p upsets).trib p).odd ((s.openFrame p upsets).trib p).remoteAlarmOut
          ((s.openFrame p upsets).alertOn p) ((s.openFrame p upsets).trib p).cfg.alert))
      ((s.openFrame p upsets).aisDown p) := if_neg h

/-- The port's line once it has sent `frame`: its parity alternates, its timing is the one latched. -/
def Trib.sent (x : Trib) (z : Steering) (frame : List Byte) (ones : Bool) (after : Steering) : Trib :=
  { x with
    odd := !x.odd
    txFrame := frame
    txAllOnes := ones
    txSource := ({ x with steer := z } : Trib).latchTiming.txSource
    txOffset := ({ x with steer := z } : Trib).latchTiming.txOffset
    steer := after }

/-- A frame start of an enabled port: its bundles play in `u` and leave `w`, and the port sends a frame built of it. -/
structure FrameSent (s u w t : State) (p : TribId) (ones : Bool) (word : Byte) : Prop where
  opened : Opened s u p
  playing : Playing u w
  bundles : ∀ b, w.bun b = if (u.bun b).isOn p then ((u.sampleOn p b).playBundle b).bun b else u.bun b
  rest : t = { w with tribs := t.tribs }
  others : ∀ q, q ≠ p → t.trib q = w.trib q
  line : ∃ z : Steering, z.offset = ((steeringIntervalEnd p s).trib p).steer.offset ∧
    t.trib p = (s.trib p).sent z (w.buildFrame p ones word) ones (w.trib p).steer
  ones : ones = u.aisDown p
  word : word = slotZero (s.trib p).odd (s.trib p).remoteAlarmOut (u.alertOn p) (s.trib p).cfg.alert
  same : (u.trib p).cfg = (s.trib p).cfg ∧ (w.trib p).cfg = (s.trib p).cfg

theorem frameSent_spec {s : State} {p : TribId} (h : (s.trib p).cfg.kind ≠ .disabled) (upsets : List Upset) :
    ∃ w ones word, FrameSent s (s.openFrame p upsets) w (transmitFrameStart p upsets s) p ones word := by
  have opens := opened s p upsets
  rw [transmitFrameStart_eq h]
  generalize s.openFrame p upsets = u at opens
  obtain ⟨playing, bundles⟩ := playPort_spec u p
  generalize u.playPort p = w at playing bundles
  obtain ⟨z, latched, offset⟩ := opens.own
  obtain ⟨latch, -⟩ := ({ s.trib p with steer := z } : Trib).latchTiming_spec
  rw [latch] at latched
  have ucfg : (u.trib p).cfg = (s.trib p).cfg := by rw [latched]
  have uodd : (u.trib p).odd = (s.trib p).odd := by rw [latched]
  have uremote : (u.trib p).remoteAlarmOut = (s.trib p).remoteAlarmOut := by rw [latched]; rfl
  rw [uodd, uremote, ucfg]
  refine ⟨w, _, _, opens, playing, bundles, rfl, fun q ne => State.trib_modTrib_ne _ _ ne, ⟨z, offset, ?_⟩, rfl, rfl,
    ucfg, by rw [playing.tribs p]; exact ucfg⟩
  refine (State.trib_modTrib_self ..).trans ?_
  generalize w.buildFrame p _ _ = frame
  have line := playing.tribs p
  rw [latched] at line
  generalize (w.trib p).steer = after at line
  rw [line]
  rfl

/-- The timing a port latches, as Table 58 says it (R158). -/
theorem sent_timing (x : Trib) (z : Steering) (frame : List Byte) (ones : Bool) (after : Steering) :
    (x.cfg.clock = .system →
      (x.sent z frame ones after).txSource = .system ∧ (x.sent z frame ones after).txOffset = 0) ∧
    (x.cfg.clock = .loop → (x.sent z frame ones after).txOffset = 0 ∧ (x.sent z frame ones after).txSource =
      if x.rx = .aligned ∨ x.rx = .present then .line else .system) ∧
    (∀ b, x.cfg.clock = .steered b → (x.sent z frame ones after).txSource = .steered ∧
      (x.sent z frame ones after).txOffset = z.offset) :=
  ({ x with steer := z } : Trib).latchTiming_spec.2

/-- Settles O34. -/
theorem transmitFramesAlternateParityAndCarrySlotZero : Obligations.TransmitFramesAlternateParityAndCarrySlotZero := by
  refine fun s p upsets => ⟨fun disabled => congrArg Host.Outcome.next (if_pos disabled), fun enabled => ?_⟩
  have run : exec (.transmitFrameStart p upsets) s = .next (transmitFrameStart p upsets s) := rfl
  obtain ⟨w, ones, word, sent⟩ := frameSent_spec enabled upsets
  rw [run]
  generalize s.openFrame p upsets = u at sent
  generalize transmitFrameStart p upsets s = t at sent
  obtain ⟨z, offset, line⟩ := sent.line
  obtain ⟨system, loop, steered⟩ := sent_timing (s.trib p) z (w.buildFrame p ones word) ones (w.trib p).steer
  obtain ⟨ucfg, wcfg⟩ := sent.same
  have rest : t = { s with
      bundles := t.bundles, tribs := t.tribs, nets := u.nets, claims := t.claims, ctrls := t.ctrls,
      faults := t.faults } := by
    rw [sent.rest, sent.playing.rest, sent.opened.rest]
  have up : t.nets.map (fun n => n.up) = s.nets.map fun n => n.up := by
    have nets : t.nets = u.nets := by rw [rest]
    rw [nets]
    exact congrArg₂ Two.mk (sent.opened.up .east) (sent.opened.up .west)
  have others : ∀ q, q ≠ p → t.trib q = { s.trib q with steer := (t.trib q).steer } := fun q ne => by
    rw [sent.others q ne, sent.playing.tribs q, sent.opened.others q ne]
  refine ⟨t, u, rfl, rfl, sent.opened.active, sent.opened.armed, up, by rw [rest], by rw [rest], by rw [rest],
    by rw [rest], by rw [rest], others, ?_⟩
  rw [line]
  refine ⟨rfl, system, loop, fun b v clock ended => ?_, length_buildFrame .., fun all => ?_, fun none => ⟨?_, ?_⟩⟩
  · obtain ⟨source, from'⟩ := steered b clock
    have e : steeringIntervalEnd p s = v := Host.Outcome.next.inj ended
    exact ⟨source, by rw [from', offset, e]⟩
  · exact if_pos all
  · change ones = true ↔ _
    rw [sent.ones, State.aisDown_iff fun b => sent.opened.atStart b (none b), ucfg]
  · intro some framed
    have off : ones = false := some
    change (w.buildFrame p ones word)[0]? = _
    rw [off, buildFrame_zero (by rw [wcfg]; exact framed), sent.word, slotZero_eq,
      State.alertOn_eq fun b => sent.opened.atStart b (none b)]

end Sys2Proof.Machine
end

section
/-! The slots of a transmit frame and the playout of one bundle (R14, R92, R97 to R106): O35. -/

namespace Sys2Proof.Machine

open Safety

/-! ## Which slots are whose (R19) -/

theorem inForceFor_inForce {s : State} {b : BundleId} {p : TribId} {r : Record}
    (h : (s.bun b).inForceFor p = some r) : InForce s b r := by
  unfold Bundle.inForceFor at h
  split at h
  · exact .inr h
  · exact .inl h

theorem State.playBundle_idle {s : State} {b : BundleId} (h : (s.bun b).state.running = false) :
    s.playBundle b = s := by
  unfold State.playBundle
  simp only
  split
  · rfl
  · exact if_neg (by simp [h])

/-- A bundle that runs after its frame start ran before it. -/
theorem running_of_played {u : State} {p : TribId} {b : BundleId}
    (h : (((u.sampleOn p b).playBundle b).bun b).state.running = true) : (u.bun b).state.running = true := by
  have sampled : ((u.sampleOn p b).bun b).state = (u.bun b).state := (Calm.sampleOn p u b).states b
  cases e : (u.bun b).state.running with
  | true => rfl
  | false =>
    rw [State.playBundle_idle (by rw [sampled, e]), sampled, e] at h
    cases h

/-- What a frame not sent as all ones carries in its slots (R14). -/
theorem frameSent_slots {s u w t : State} {p : TribId} {ones : Bool} {word : Byte} (h : FrameSent s u w t p ones word)
    (exclusive : SlotsExclusive s)
    (sound : ∀ b r, InForce s b r → r.slots.toList.Nodup ∧ ∀ n ∈ r.slots.toList, n < 32)
    (some' : (t.trib p).txAllOnes = false) {n : Nat} (lt : n < 32) (zero : (s.trib p).cfg.kind = .framed → n ≠ 0) :
    (∀ (b : BundleId) (r : Record) (i : Nat) (v : Byte), (u.bun b).active = some r → r.port = p →
      (u.bun b).state.running = true → r.slots.toList[i]? = some n → (t.bun b).playout.out[i]? = some v →
      (t.trib p).txFrame[n]? = some v) ∧
    ((∀ b r, (u.bun b).active = some r → r.port = p → (u.bun b).state.running = true → n ∉ r.slots.toList) →
      (t.trib p).txFrame[n]? = some (s.trib p).cfg.idle) := by
  obtain ⟨z, -, line⟩ := h.line
  obtain ⟨-, wcfg⟩ := h.same
  rw [line] at some' ⊢
  have off : ones = false := some'
  have frame : ((s.trib p).sent z (w.buildFrame p ones word) ones (w.trib p).steer).txFrame[n]? =
      (w.slotBytes p)[n]? := by
    change (w.buildFrame p ones word)[n]? = _
    rw [off, buildFrame_slot (by rw [wcfg]; exact zero)]
  have inForce : ∀ b r, (w.bun b).active = some r → InForce s b r := fun b r active =>
    inForceFor_inForce ((h.opened.active b).symm.trans ((h.playing.active b).symm.trans active))
  have bun : ∀ b, t.bun b = w.bun b := fun b => by rw [h.rest]; rfl
  rw [frame]
  have runs : ∀ b r, (u.bun b).active = some r → r.port = p → (u.bun b).state.running = true → RunsOn w p b r :=
    fun b r active port running => ⟨(h.playing.active b).trans active, port, h.playing.running b running⟩
  have ran : ∀ b r, RunsOn w p b r → (u.bun b).active = some r ∧ r.port = p ∧ (u.bun b).state.running = true :=
    fun b r ⟨active, port, running⟩ => by
      have active' : (u.bun b).active = some r := (h.playing.active b).symm.trans active
      refine ⟨active', port, ?_⟩
      rw [h.bundles b, if_pos (by simp [Bundle.isOn, active', port])] at running
      exact running_of_played running
  refine ⟨fun b r i v active port running slot byte => ?_, fun free => ?_⟩
  · have own := runs b r active port running
    refine placed_own (List.nodup_finRange 64) (List.mem_finRange b) own (sound b r (inForce b r own.1)).1
      (fun c ne q other mem => ?_) slot (by rwa [← bun]) (by rw [List.length_replicate]; exact lt)
    have port' := other.2.1
    exact exclusive c b q r ne (inForce c q other.1) (inForce b r own.1) (port'.trans port.symm) n mem
      (List.mem_of_getElem? slot)
  · unfold State.slotBytes
    rw [placed_other fun b _ r own => by
      obtain ⟨active, port, running⟩ := ran b r own
      exact free b r active port running, wcfg, List.getElem?_replicate, if_pos lt]

end Sys2Proof.Machine
end

section
/-! The playout of one bundle at its frame start, case by case (R92 to R106): the rest of O35. -/

namespace Sys2Proof.Machine

open Safety

/-! ## Changes of one playout -/

theorem State.modPlayout_modPlayout (s : State) (b : BundleId) (f g : Playout → Playout) :
    (s.modPlayout b f).modPlayout b g = s.modPlayout b fun p => g (f p) := by
  simp [State.modPlayout, State.modBun, State.bun]

theorem State.modPlayout_congr {s : State} {b : BundleId} {f g : Playout → Playout}
    (h : f (s.bun b).playout = g (s.bun b).playout) : s.modPlayout b f = s.modPlayout b g := by
  unfold State.modPlayout State.modBun; simp only [h]

theorem State.modPlayout_self {s : State} {b : BundleId} {f : Playout → Playout}
    (h : f (s.bun b).playout = (s.bun b).playout) : s.modPlayout b f = s := by
  have same : { s.bun b with playout := f (s.bun b).playout } = s.bun b := by rw [h]
  change ({ s with bundles := s.bundles.set b { s.bun b with playout := f (s.bun b).playout } } : State) = s
  rw [same]
  simp [State.bun]

/-- A change of one playout alone. -/
theorem modPlayout_alone {s t : State} {b : BundleId} {f : Playout → Playout} (h : t = s.modPlayout b f) :
    t = { s with bundles := t.bundles } ∧ OtherBundles s t b ∧
      t.bun b = { s.bun b with playout := f (s.bun b).playout } := by
  subst h
  exact ⟨rfl, fun c ne => State.bun_modBun_ne s _ ne, State.bun_modPlayout_self ..⟩

theorem Playout.substitution_eq (p : Playout) (r : Record) : p.substitution r = substituted p r := by
  unfold Playout.substitution substituted
  cases r.substitution with
  | fill => simp [fillBytes]
  | repeatLast => rfl

/-! ## The frame once the start or the step is settled -/

theorem State.playBundle_running {s : State} {b : BundleId} {r : Record} (active : (s.bun b).active = some r)
    (running : (s.bun b).state.running = true) :
    s.playBundle b = ((s.beginStart b r).finishStart b r).setAtStart b .none := by
  unfold State.playBundle
  simp only [active]
  exact if_pos running

theorem State.finishStart_plays {s : State} {b : BundleId} (r : Record) (playing : (s.bun b).state = .playing)
    (inserted : (s.bun b).playout.atStart ≠ .inserted) (underran : (s.bun b).playout.atStart ≠ .underran) :
    s.finishStart b r = s.playFrame b r := by
  unfold State.finishStart
  simp only
  split
  · next e _ => exact absurd e inserted
  · next e => exact absurd e underran
  · rfl
  · exact absurd playing ‹(s.bun b).state = .playing → False›

theorem State.finishStart_fills {s : State} {b : BundleId} (r : Record) (waiting : (s.bun b).state ≠ .playing)
    (none : (s.bun b).playout.atStart = .none) : s.finishStart b r = s.fillFrame b r := by
  unfold State.finishStart
  simp only
  split
  · next playing => exact absurd playing waiting
  · next e => rw [none] at e; cases e
  · exact absurd ‹(s.bun b).state = .playing› waiting
  · rfl

/-- No start or step made ahead, and none due: the frame start begins with nothing. -/
theorem State.beginStart_ahead {s : State} {b : BundleId} (r : Record) (h : (s.bun b).playout.atStart ≠ .none) :
    s.beginStart b r = s := by
  unfold State.beginStart
  exact if_pos (by simpa using h)

theorem Bundle.startDue_iff (x : Bundle) (r : Record) : x.startDue r = true ↔
    x.state = .filling ∧ x.playout.phase = .countdown ∧ x.delay.target - r.fpp ≤ x.playout.startCount := by
  simp [Bundle.startDue, startValue, and_assoc]

theorem State.beginStart_starts {s : State} {b : BundleId} {r : Record} (none : (s.bun b).playout.atStart = .none)
    (due : (s.bun b).startDue r = true) : s.beginStart b r = s.startPlayout b r := by
  unfold State.beginStart
  simp only
  rw [if_neg (by simp [none]), if_pos due]

theorem State.beginStart_playing {s : State} {b : BundleId} (r : Record) (none : (s.bun b).playout.atStart = .none)
    (playing : (s.bun b).state = .playing) : s.beginStart b r = s.adjustTick b r := by
  have idle : ¬ (s.bun b).startDue r = true := fun h => by
    rw [Bundle.startDue_iff, playing] at h
    cases h.1
  unfold State.beginStart
  simp only
  rw [if_neg (by simp [none]), if_neg idle, if_pos playing]

theorem State.beginStart_waits {s : State} {b : BundleId} {r : Record} (waiting : (s.bun b).state ≠ .playing)
    (idle : ¬ (s.bun b).startDue r = true) : s.beginStart b r = s := by
  by_cases e : ((s.bun b).playout.atStart != .none) = true
  · exact if_pos e
  · exact (if_neg e).trans ((if_neg idle).trans (if_neg waiting))

/-- A bundle whose playout starts at this frame start: PLAYING, its start noted (R95). -/
theorem State.bun_startPlayout (s : State) (b : BundleId) (r : Record) :
    ((s.startPlayout b r).bun b).state = .playing ∧ ((s.startPlayout b r).bun b).playout.atStart = .started := by
  unfold State.startPlayout State.setAtStart
  simp only
  rw [State.bun_modPlayout_self, State.bun_changeState]
  exact ⟨rfl, rfl⟩

/-- A frame that gives the fill byte (R92, R94). -/
theorem State.fillFrame_eq (s : State) (b : BundleId) (r : Record) : s.fillFrame b r = s.modPlayout b fun p =>
    { p with out := fillBytes r, startCount := if p.phase = .waitPacket then p.startCount
      else min (p.startCount + 1) 65535 } := by
  unfold State.fillFrame State.give State.countStart
  simp only [State.bun_modPlayout_self, State.modPlayout_modPlayout]
  split
  · next wait => exact State.modPlayout_congr (by simp only [if_pos wait])
  · next wait => exact State.modPlayout_congr (by simp only [if_neg wait])

/-- A step that is not due makes its pace count alone (R104). -/
theorem State.adjustTick_paces {s : State} {b : BundleId} {r : Record} {a : Adjust}
    (adjust : (s.bun b).playout.adjust = some a) (early : a.pace + 1 < 2 ^ r.pace) :
    s.adjustTick b r = s.modPlayout b fun q => { q with adjust := some { a with pace := a.pace + 1 } } := by
  have due : (s.bun b).playout.stepDue r = false := by simp [Playout.stepDue, adjust]; exact early
  have paced : s.setPace b (a.pace + 1) none = s.modPlayout b fun q =>
    { q with adjust := some { a with pace := a.pace + 1 } } := by
    unfold State.setPace
    exact State.modPlayout_congr (by simp [adjust])
  unfold State.adjustTick
  simp only [adjust, due]
  exact paced

theorem State.adjustTick_steps {s : State} {b : BundleId} {r : Record} {a : Adjust}
    (adjust : (s.bun b).playout.adjust = some a) (due : 2 ^ r.pace ≤ a.pace + 1) :
    s.adjustTick b r = s.adjustStep b r a := by
  have due : (s.bun b).playout.stepDue r = true := by simp [Playout.stepDue, adjust, due]
  unfold State.adjustTick
  simp only [adjust, due]
  rfl

theorem State.adjustTick_none {s : State} {b : BundleId} (r : Record) (adjust : (s.bun b).playout.adjust = none) :
    s.adjustTick b r = s := by
  unfold State.adjustTick
  simp only [adjust]

/-! ## The periods (R97 to R100) -/

/-- The playout of a period that begins at this frame, or goes on. -/
def Playout.begun (p : Playout) (kind : Period) : Playout := if p.period = .none then p.beginPeriod kind else p

theorem State.playFrame_begun {s : State} {b : BundleId} {r : Record} {kind : Period} {p : Playout}
    (hp : (s.bun b).playout = p) (h : p.period = kind ∧ kind ≠ .none ∨ p.period = .none ∧ p.nextPeriod = some kind) :
    s.playFrame b r = ((s.modPlayout b fun p => p.begun kind).giveFrame b r).modPlayout b fun p =>
      p.passFrame r.fpp := by
  subst hp
  rcases h with ⟨own, some⟩ | ⟨none, next⟩
  · have going : ¬ (s.bun b).playout.period = .none := by rw [own]; exact some
    have same : (s.modPlayout b fun p => p.begun kind) = s := State.modPlayout_self (if_neg going)
    rw [same]
    unfold State.playFrame
    exact if_neg going
  · have begins : (s.modPlayout b fun p => p.begun kind) = s.modPlayout b fun p => p.beginPeriod kind :=
      State.modPlayout_congr (if_pos none)
    rw [begins]
    unfold State.playFrame
    simp only [next]
    exact if_pos none

theorem Playout.passFrame_lt {p : Playout} {fpp : Nat} (h : p.played + 1 < fpp) :
    p.passFrame fpp = { p with played := p.played + 1 } := by
  unfold Playout.passFrame
  exact if_neg (Nat.not_le.2 h)

theorem Playout.endPeriod_packet {p : Playout} {h : Seq} {k : RingSlot} (head : p.head = some h)
    (slot : p.slotFor h = some k) (period : p.period = .packet) : p.endPeriod = { p with
      ring := p.ring.set (h.toNat % p.ring.length) none
      head := some (h + 1)
      played := 0
      period := .none
      counters := p.counters.countPlayed k.path } := by
  unfold Playout.endPeriod
  simp only [head, slot, period, Option.isSome_some, if_true]
  rfl

theorem Playout.endPeriod_missing {p : Playout} {h : Seq} (head : p.head = some h) (slot : p.slotFor h = none) :
    p.endPeriod = { p with head := some (h + 1), played := 0, period := .none } := by
  unfold Playout.endPeriod
  simp only [head, slot, Option.isSome_none, Bool.false_eq_true, if_false]
  cases p.period <;> rfl

theorem Playout.passFrame_ge {p : Playout} {fpp : Nat} (le : fpp ≤ p.played + 1) :
    p.passFrame fpp = ({ p with played := p.played + 1 } : Playout).endPeriod := by
  unfold Playout.passFrame
  exact if_pos le

theorem Playout.endPeriod_keeps (p : Playout) : p.endPeriod.out = p.out ∧ p.endPeriod.lastByte = p.lastByte ∧
    p.endPeriod.residence = p.residence ∧ p.endPeriod.counters.parityFrames = p.counters.parityFrames ∧
    p.endPeriod.counters.originFaultPlayed = p.counters.originFaultPlayed ∧
    p.endPeriod.counters.missing = p.counters.missing := by
  unfold Playout.endPeriod
  split
  · exact ⟨rfl, rfl, rfl, rfl, rfl, rfl⟩
  · next h _ =>
    have ring : ∀ q : Playout, q = (if (p.slotFor h).isSome = true then p.setSlot h none else p) →
        q.out = p.out ∧ q.lastByte = p.lastByte ∧ q.residence = p.residence := fun q e => by
      rw [e]; split <;> exact ⟨rfl, rfl, rfl⟩
    have counted : ∀ path, (p.counters.countPlayed path).parityFrames = p.counters.parityFrames ∧
        (p.counters.countPlayed path).originFaultPlayed = p.counters.originFaultPlayed ∧
        (p.counters.countPlayed path).missing = p.counters.missing :=
      fun path => by cases path <;> exact ⟨rfl, rfl, rfl⟩
    obtain ⟨out, last, residence⟩ := ring _ rfl
    refine ⟨out, last, residence, ?_⟩
    split
    · exact counted _
    · exact ⟨rfl, rfl, rfl⟩

/-- What a frame that passes leaves, whether or not its period ends. -/
theorem Playout.passFrame_keeps (p : Playout) (fpp : Nat) : (p.passFrame fpp).out = p.out ∧
    (p.passFrame fpp).lastByte = p.lastByte ∧ (p.passFrame fpp).residence = p.residence ∧
    (p.passFrame fpp).counters.parityFrames = p.counters.parityFrames ∧
    (p.passFrame fpp).counters.originFaultPlayed = p.counters.originFaultPlayed ∧
    (p.passFrame fpp).counters.missing = p.counters.missing := by
  rcases Nat.lt_or_ge (p.played + 1) fpp with lt | le
  · rw [Playout.passFrame_lt lt]; exact ⟨rfl, rfl, rfl, rfl, rfl, rfl⟩
  · rw [Playout.passFrame_ge le]
    exact ({ p with played := p.played + 1 } : Playout).endPeriod_keeps

/-! ## The frame of a period (R98 to R100, R106) -/

/-- The residence once the packet's first frame has been given (R98). -/
def Playout.measured (p : Playout) (now : Time) (k : RingSlot) : Option (Nat × Nat) :=
  if p.played = 0 then widen p.residence (now - k.arrival).toNat else p.residence

theorem State.measured_eq (s : State) (b : BundleId) (k : RingSlot) :
    (if (s.bun b).playout.played = 0 then s.modPlayout b fun p =>
      { p with residence := widen p.residence (s.timeCount - k.arrival).toNat } else s) =
      s.modPlayout b fun p => { p with residence := p.measured s.timeCount k } := by
  split
  · next first => exact State.modPlayout_congr (by simp only [Playout.measured, if_pos first])
  · next later => exact (State.modPlayout_self (by simp only [Playout.measured, if_neg later])).symm

theorem State.giveFrame_packet {s : State} {b : BundleId} (r : Record) {h : Seq} {k : RingSlot}
    (period : (s.bun b).playout.period = .packet) (head : (s.bun b).playout.head = some h)
    (slot : (s.bun b).playout.slotFor h = some k) : s.giveFrame b r =
      if k.frameSound r.slots.count (s.bun b).playout.played then
        (s.modPlayout b fun p => { p with residence := p.measured s.timeCount k }).givePayload b
          (frameBytes k.payload r.slots.count (s.bun b).playout.played)
      else (s.modPlayout b fun p => { p with residence := p.measured s.timeCount k }).giveParityFrame b r k.seq := by
  have held : (s.bun b).playout.head.bind (s.bun b).playout.slotFor = some k := by rw [head]; exact slot
  unfold State.giveFrame
  simp only [period, held]
  rw [← State.measured_eq]

theorem State.giveFrame_substitutes {s : State} {b : BundleId} (r : Record)
    (period : (s.bun b).playout.period ≠ .packet) : s.giveFrame b r = s.substitute b r := by
  unfold State.giveFrame
  simp only
  split
  · next e _ => exact absurd e period
  · rfl

end Sys2Proof.Machine
end

section
/-! A PLAYING bundle's frame by the head of its ring (R97 to R102, R106), and O35. -/

namespace Sys2Proof.Machine

open Safety

/-! ## A packet at the head (R98, R106) -/

/-- A period that begins or goes on with packet `k` at the head: counted at its beginning alone. -/
theorem Playout.begun_packet {p : Playout} {h : Seq} {k : RingSlot} (head : p.head = some h)
    (slot : p.slotFor h = some k) (kind : p.period ≠ .missing) : p.begun .packet = { p with
      period := .packet
      counters := { p.counters with originFaultPlayed :=
        if p.period = .none ∧ k.originFault = true then bump p.counters.originFaultPlayed
        else p.counters.originFaultPlayed } } := by
  have held : p.head.bind p.slotFor = some k := by rw [head]; exact slot
  unfold Playout.begun
  cases e : p.period with
  | none =>
    simp only [Playout.beginPeriod, held, Option.map_some, Option.getD_some, if_true, true_and]
    cases k.originFault <;> rfl
  | packet =>
    cases p
    cases e
    rfl
  | missing => exact absurd e kind

/-- The playout that gives a frame of packet `k`, before the frame has passed. -/
def Playout.packetFrame (p : Playout) (r : Record) (k : RingSlot) (now : Time) : Playout :=
  let sound := k.frameSound r.slots.count p.played
  { p with
    period := .packet
    residence := p.measured now k
    out := if sound then frameBytes k.payload r.slots.count p.played else substituted p r
    lastByte := if sound then (frameBytes k.payload r.slots.count p.played).map some else p.lastByte
    counters := { p.counters with
      originFaultPlayed := if p.period = .none ∧ k.originFault = true then bump p.counters.originFaultPlayed
        else p.counters.originFaultPlayed
      parityFrames := if sound then p.counters.parityFrames else bump p.counters.parityFrames } }

theorem State.giveParityFrame_spec (s : State) (b : BundleId) (r : Record) (seq : Seq) :
    (s.giveParityFrame b r seq).bun b = { s.bun b with playout := { (s.bun b).playout with
      out := substituted (s.bun b).playout r
      counters := { (s.bun b).playout.counters with
        parityFrames := bump (s.bun b).playout.counters.parityFrames } } } ∧
    (s.giveParityFrame b r seq).faults = s.faults.add ⟨.storeParity, some b, s.eventTime, seq.toNat⟩ := by
  have faulted : ((s.substitute b r).recordFault .storeParity (some b) seq.toNat).bun b = { s.bun b with
      playout := { (s.bun b).playout with out := substituted (s.bun b).playout r } } := by
    change (s.substitute b r).bun b = _
    unfold State.substitute State.give
    rw [State.bun_modPlayout_self, Playout.substitution_eq]
  unfold State.giveParityFrame State.modPlay
  refine ⟨?_, rfl⟩
  simp only
  rw [State.bun_modPlayout_self, faulted]

theorem State.playFrame_packet {s : State} {b : BundleId} {r : Record} {p : Playout} {h : Seq} {k : RingSlot}
    (hp : (s.bun b).playout = p) (head : p.head = some h) (slot : p.slotFor h = some k) (kind : p.period ≠ .missing) :
    (s.playFrame b r).bun b = { s.bun b with playout := (p.packetFrame r k s.timeCount).passFrame r.fpp } ∧
    (k.frameSound r.slots.count p.played = true →
      (s.playFrame b r).faults = s.faults ∧ (s.playFrame b r).ctrls = s.ctrls) ∧
    (k.frameSound r.slots.count p.played = false →
      (s.playFrame b r).faults = s.faults.add ⟨.storeParity, some b, s.eventTime, h.toNat⟩) := by
  have begins : p.period = .packet ∧ Period.packet ≠ .none ∨ p.period = .none ∧ p.nextPeriod = some .packet := by
    have full : p.isEmpty = false := by
      obtain ⟨-, get⟩ := Playout.slotFor_eq_some slot
      rw [Playout.isEmpty, List.all_eq_false]
      exact ⟨some k, List.mem_of_getElem? get, by simp⟩
    cases e : p.period with
    | none => exact .inr ⟨rfl, by simp [Playout.nextPeriod, full, head, slot]⟩
    | packet => exact .inl ⟨rfl, nofun⟩
    | missing => exact absurd e kind
  rw [State.playFrame_begun hp begins]
  have seq := (Playout.slotFor_eq_some slot).1
  have begun := Playout.begun_packet head slot kind
  have start : (s.modPlayout b fun p => p.begun .packet).bun b = { s.bun b with playout := p.begun .packet } := by
    rw [State.bun_modPlayout_self, hp]
  have time : (s.modPlayout b fun p => p.begun .packet).timeCount = s.timeCount := rfl
  have fault : (s.modPlayout b fun p => p.begun .packet).faults = s.faults ∧
      (s.modPlayout b fun p => p.begun .packet).ctrls = s.ctrls ∧
      (s.modPlayout b fun p => p.begun .packet).eventTime = s.eventTime := ⟨rfl, rfl, rfl⟩
  generalize (s.modPlayout b fun p => p.begun .packet) = u at start time fault
  obtain ⟨faults, ctrls, eventTime⟩ := fault
  have playout : (u.bun b).playout = p.begun .packet := by rw [start]
  rw [begun] at playout start
  rw [State.giveFrame_packet (h := h) (k := k) r (by rw [playout]) (by rw [playout]; exact head)
    (by rw [playout]; exact slot), time, playout]
  cases sound : k.frameSound r.slots.count p.played with
  | true =>
    simp only [if_true]
    refine ⟨?_, fun _ => ⟨faults, ctrls⟩, nofun⟩
    unfold State.givePayload
    simp only [State.modPlayout_modPlayout]
    rw [State.bun_modPlayout_self, start]
    simp only [Playout.packetFrame, sound, if_true]
    rfl
  | false =>
    simp only [Bool.false_eq_true, if_false]
    obtain ⟨bun, fault⟩ := (u.modPlayout b fun p =>
      { p with residence := p.measured s.timeCount k }).giveParityFrame_spec b r k.seq
    refine ⟨?_, nofun, fun _ => ?_⟩
    · rw [State.bun_modPlayout_self, bun, State.bun_modPlayout_self, start]
      simp only [Playout.packetFrame, sound]
      rfl
    · rw [← seq, ← faults, ← eventTime]
      exact fault

/-! ## No packet at the head (R99, R100) -/

theorem Playout.begun_missing {p : Playout} (kind : p.period = .missing ∨ p.period = .none) :
    p.begun .missing = { p with
    period := .missing
    counters := if p.period = .none then { p.counters with missing := bump p.counters.missing } else p.counters } := by
  unfold Playout.begun
  rcases kind with e | e
  · cases p
    cases e
    rfl
  · rw [if_pos e, if_pos e]
    rfl

/-- The playout that gives a frame of substitution for a packet not held, before the frame has passed. -/
def Playout.missingFrame (p : Playout) (r : Record) : Playout :=
  { p with
    period := .missing
    out := substituted p r
    counters := if p.period = .none then { p.counters with missing := bump p.counters.missing } else p.counters }

theorem State.playFrame_missing {s : State} {b : BundleId} {r : Record} {p : Playout} {h : Seq}
    (hp : (s.bun b).playout = p) (head : p.head = some h) (slot : p.slotFor h = none)
    (kind : p.period = .missing ∨ p.period = .none ∧ ∃ y ∈ p.ring, y ≠ none) :
    s.playFrame b r = s.modPlayout b fun p => (p.missingFrame r).passFrame r.fpp := by
  have begins : p.period = .missing ∧ Period.missing ≠ .none ∨ p.period = .none ∧ p.nextPeriod = some .missing := by
    rcases kind with e | ⟨e, y, mem, some'⟩
    · exact .inl ⟨e, nofun⟩
    · have full : p.isEmpty = false := by
        rw [Playout.isEmpty, List.all_eq_false]
        exact ⟨y, mem, by simpa using some'⟩
      exact .inr ⟨e, by simp [Playout.nextPeriod, full, head, slot]⟩
  have begun := Playout.begun_missing (kind.imp id And.left)
  have start : ((s.modPlayout b fun p => p.begun .missing).bun b).playout = p.begun .missing := by
    rw [State.bun_modPlayout_self, hp]
  rw [State.playFrame_begun hp begins, State.giveFrame_substitutes r (by rw [start, begun]; exact nofun)]
  unfold State.substitute State.give
  rw [start, State.modPlayout_modPlayout, State.modPlayout_modPlayout]
  refine State.modPlayout_congr ?_
  rw [hp, Playout.substitution_eq, begun]
  rfl

/-! ## An underrun (R101) -/

/-- A target computation outside PLAYING and WAIT_ESTIMATE leaves the store alone (R93, R124). -/
theorem State.computeTarget_playout {s : State} {b : BundleId} (state : (s.bun b).state ≠ .playing)
    (phase : (s.bun b).playout.phase ≠ .waitEstimate) : ((s.computeTarget b).bun b).playout = (s.bun b).playout := by
  have flags : ∀ c, ((s.setEqualiseFlags b c).bun b).playout = (s.bun b).playout := fun c => by
    unfold State.setEqualiseFlags
    simp only [State.bun_postIf, State.bun_modDelay_self]
  have wait : ∀ c found, (s.setEqualiseFlags b c).endEstimateWait b found = s.setEqualiseFlags b c := fun c found =>
    if_neg (by simp [flags, phase])
  unfold State.computeTarget
  simp only
  cases (s.bun b).active with
  | none => rfl
  | some r =>
    simp only [wait]
    cases e : (s.bun b).state with
    | playing => exact absurd e state
    | free => exact flags _
    | _ =>
      unfold State.setTarget
      rw [State.bun_modDelay_self]
      exact flags _

/-- A bundle falls back to FILLING: its state posted, its store as it was (R35, R39). -/
theorem State.fallBack_filling {s : State} {b : BundleId} (phase : (s.bun b).playout.phase ≠ .waitEstimate)
    (cause : StateCause) : ((s.fallBack b .filling cause).bun b).state = .filling ∧
    ((s.fallBack b .filling cause).bun b).playout = (s.bun b).playout ∧
    Reported (s.fallBack b .filling cause) (bundleStateEvent s b (s.bun b).state .filling cause) := by
  have changed := s.bun_changeState b .filling cause
  have posted := (Posts.changeState s b .filling cause).reported (List.mem_singleton_self _)
  unfold State.fallBack
  simp only
  generalize s.changeState b .filling cause = v at changed posted
  split
  · have dropped : (v.dropProposal b).bun b = { v.bun b with delay := { (v.bun b).delay with proposed := none } } := by
      unfold State.dropProposal
      rw [State.bun_modDelay_self]
    have calm := (Calm.dropProposal v b).trans (.computeTarget _ b)
    have waiting : ((v.dropProposal b).bun b).state ≠ .playing := by rw [dropped, changed]; exact nofun
    refine ⟨?_, ?_, reported_mono posted calm.quiet.hush.queues⟩
    · rw [calm.states b, changed]
    · rw [State.computeTarget_playout waiting (by rw [dropped, changed]; exact phase), dropped, changed]
  · exact ⟨by rw [changed], by rw [changed], posted⟩

/-- The store of a bundle that has underrun (R101). -/
def Playout.underrun (p : Playout) (r : Record) : Playout :=
  { p with
    counters := { p.counters with underruns := bump p.counters.underruns }
    adjust := none
    phase := .waitPacket
    startCount := 0
    out := fillBytes r }

/-- A bundle that underruns, counted and posted, before its change of state. -/
def State.ranDry (s : State) (b : BundleId) : State :=
  (((s.modPlay b fun c => { c with underruns := bump c.underruns }).post .playoutUnderrun (.bundle b)
    ((s.bun b).playout.head.getD 0).toNat).postAbandoned b).modPlayout b fun p =>
      { p with adjust := none, phase := .waitPacket, startCount := 0 }

theorem State.underrun_eq (s : State) (b : BundleId) (r : Record) :
    s.underrun b r = ((s.ranDry b).fallBack b .filling .underrun).give b (fillBytes r) := rfl

theorem State.bun_ranDry (s : State) (b : BundleId) : (s.ranDry b).bun b = { s.bun b with
    playout := { (s.bun b).playout with
      counters := { (s.bun b).playout.counters with underruns := bump (s.bun b).playout.counters.underruns }
      adjust := none
      phase := .waitPacket
      startCount := 0 } } := by
  unfold State.ranDry State.postAbandoned State.modPlay
  simp only [State.bun_modPlayout_self, State.bun_postIf, State.bun_post]

theorem Local.ranDry (s : State) (b : BundleId) : Local b s (s.ranDry b) :=
  (((Local.modPlay s b _).trans (.post ..)).trans (.postIf ..)).trans (.modPlayout _ b _ rfl)

theorem State.ranDry_reports (s : State) (b : BundleId) :
    Reported (s.ranDry b) (eventNow s .playoutUnderrun (.bundle b) ((s.bun b).playout.head.getD 0).toNat) := by
  obtain ⟨u, hu⟩ : ∃ u, u = s.modPlay b fun c => { c with underruns := bump c.underruns } := ⟨_, rfl⟩
  have now : u.now = s.now := by rw [hu]; rfl
  have told := reported_post u .playoutUnderrun (.bundle b) ((s.bun b).playout.head.getD 0).toNat
  rw [eventNow_of_now now] at told
  unfold State.ranDry
  rw [← hu]
  exact reported_mono told (Calm.postAbandoned _ b).quiet.hush.queues

theorem State.underrun_spec (s : State) (b : BundleId) (r : Record) :
    Local b s (s.underrun b r) ∧ ((s.underrun b r).bun b).playout = (s.bun b).playout.underrun r ∧
    ((s.underrun b r).bun b).state = .filling ∧
    Reported (s.underrun b r) (eventNow s .playoutUnderrun (.bundle b) ((s.bun b).playout.head.getD 0).toNat) ∧
    Reported (s.underrun b r) (bundleStateEvent s b (s.bun b).state .filling .underrun) := by
  have bun := s.bun_ranDry b
  have told := s.ranDry_reports b
  have before := Local.ranDry s b
  have now : (s.ranDry b).now = s.now := by rw [before.rest]
  rw [State.underrun_eq]
  generalize s.ranDry b = u at bun told before now
  obtain ⟨state, playout, stated⟩ := State.fallBack_filling (s := u) (b := b) (by rw [bun]; exact nofun) .underrun
  have fell := Local.fallBack u b .filling .underrun
  have grows := (Retold.fallBack u b .filling .underrun).quiet.hush.queues
  have event : bundleStateEvent u b (u.bun b).state .filling .underrun =
      bundleStateEvent s b (s.bun b).state .filling .underrun := by
    simp only [bundleStateEvent, eventNow_of_now now, bun]
  rw [event] at stated
  generalize u.fallBack b .filling .underrun = v at state playout stated fell grows
  refine ⟨(before.trans fell).trans (.modPlayout _ b _ rfl), ?_, ?_, reported_mono told grows, stated⟩
  · unfold State.give
    rw [State.bun_modPlayout_self, playout, bun]
    rfl
  · unfold State.give
    rw [State.bun_modPlayout_self]
    exact state

/-- A PLAYING bundle with nothing in its ring underruns (R97 step 1). -/
theorem State.playFrame_empty {s : State} {b : BundleId} (r : Record) (period : (s.bun b).playout.period = .none)
    (empty : ∀ y ∈ (s.bun b).playout.ring, y = none) : s.playFrame b r = s.underrun b r := by
  have next : (s.bun b).playout.nextPeriod = none := by
    have e : (s.bun b).playout.isEmpty = true := by
      rw [Playout.isEmpty, List.all_eq_true]
      exact fun y mem => by rw [empty y mem]; rfl
    simp [Playout.nextPeriod, e]
  unfold State.playFrame
  simp only [next]
  exact if_pos period

end Sys2Proof.Machine
end

section
/-! O35: each clause of a bundle's frame start, and the obligation. -/

namespace Sys2Proof.Machine

open Safety

/-! ## A frame start by the state and by what was made ahead (R92 to R104) -/

/-- A FILLING or DOWN bundle that is not due to start (R92, R94, R96). -/
theorem State.playBundle_fills {s : State} {b : BundleId} {r : Record} (active : (s.bun b).active = some r)
    (none : (s.bun b).playout.atStart = .none) (waits : (s.bun b).state = .down ∨ (s.bun b).state = .filling ∧
      ((s.bun b).playout.phase ≠ .countdown ∨ (s.bun b).playout.startCount < (s.bun b).delay.target - r.fpp)) :
    s.playBundle b = s.modPlayout b fun p => { p with
      out := List.replicate r.slots.count r.fillByte
      startCount := if p.phase = .waitPacket then p.startCount else min (p.startCount + 1) 65535 } := by
  have running : (s.bun b).state.running = true := by rcases waits with e | ⟨e, -⟩ <;> rw [e] <;> rfl
  have waiting : (s.bun b).state ≠ .playing := by rcases waits with e | ⟨e, -⟩ <;> rw [e] <;> exact nofun
  have idle : ¬ (s.bun b).startDue r = true := fun due => by
    obtain ⟨filling, countdown, le⟩ := (Bundle.startDue_iff ..).1 due
    rcases waits with e | ⟨-, e | lt⟩
    · rw [e] at filling; cases filling
    · exact e countdown
    · omega
  rw [State.playBundle_running active running, State.beginStart_waits waiting idle,
    State.finishStart_fills r waiting none,
    State.fillFrame_eq]
  unfold State.setAtStart
  rw [State.modPlayout_modPlayout]
  exact State.modPlayout_congr (by rw [← none]; rfl)

/-- A PLAYING bundle whose start or step was made ahead plays its frame (log entry 4). -/
theorem State.playBundle_ahead {s : State} {b : BundleId} {r : Record} (active : (s.bun b).active = some r)
    (playing : (s.bun b).state = .playing) (ahead : (s.bun b).playout.atStart = .started ∨
      (s.bun b).playout.atStart = .skipped ∨ (s.bun b).playout.atStart = .ended) :
    s.playBundle b = (s.playFrame b r).setAtStart b .none := by
  have some' : (s.bun b).playout.atStart ≠ .none ∧ (s.bun b).playout.atStart ≠ .inserted ∧
      (s.bun b).playout.atStart ≠ .underran := by rcases ahead with e | e | e <;> rw [e] <;> exact ⟨nofun, nofun, nofun⟩
  rw [State.playBundle_running active (by rw [playing]; rfl), State.beginStart_ahead r some'.1,
    State.finishStart_plays r playing some'.2.1 some'.2.2]

/-- A PLAYING bundle makes its step or pace count, then gives its frame (R104). -/
theorem State.playBundle_playing {s : State} {b : BundleId} {r : Record} (active : (s.bun b).active = some r)
    (playing : (s.bun b).state = .playing) (none : (s.bun b).playout.atStart = .none) :
    s.playBundle b = ((s.adjustTick b r).finishStart b r).setAtStart b .none := by
  rw [State.playBundle_running active (by rw [playing]; rfl), State.beginStart_playing r none playing]

/-- A frame start at which the playout starts (R94, R95). -/
theorem State.playBundle_starts {s : State} {b : BundleId} {r : Record} (active : (s.bun b).active = some r)
    (none : (s.bun b).playout.atStart = .none) (filling : (s.bun b).state = .filling)
    (countdown : (s.bun b).playout.phase = .countdown)
    (due : (s.bun b).delay.target - r.fpp ≤ (s.bun b).playout.startCount) :
    s.playBundle b = ((s.startPlayout b r).playFrame b r).setAtStart b .none := by
  obtain ⟨playing, started⟩ := s.bun_startPlayout b r
  rw [State.playBundle_running active (by rw [filling]; rfl),
    State.beginStart_starts none ((Bundle.startDue_iff ..).2 ⟨filling, countdown, due⟩),
    State.finishStart_plays r playing (by rw [started]; exact nofun) (by rw [started]; exact nofun)]

/-- An inserted frame, and the frame of a bundle that underran ahead, give no packet's bytes (R100, R104). -/
theorem State.playBundle_gives {s : State} {b : BundleId} {r : Record} (active : (s.bun b).active = some r)
    {out : List Byte} (given : (s.bun b).state = .playing ∧ (s.bun b).playout.atStart = .inserted ∧
        out = substituted (s.bun b).playout r ∨ (s.bun b).state = .filling ∧ (s.bun b).playout.atStart = .underran ∧
        out = List.replicate r.slots.count r.fillByte) :
    s.playBundle b = s.modPlayout b fun p => { p with out := out, atStart := .none } := by
  have give : ∀ bs, (s.give b bs).setAtStart b .none = s.modPlayout b fun p => { p with out := bs, atStart := .none } :=
    fun bs => by
      unfold State.give State.setAtStart
      rw [State.modPlayout_modPlayout]
  have running : (s.bun b).state.running = true := by rcases given with ⟨e, -⟩ | ⟨e, -⟩ <;> rw [e] <;> rfl
  have ahead : (s.bun b).playout.atStart ≠ .none := by
    rcases given with ⟨-, e, -⟩ | ⟨-, e, -⟩ <;> rw [e] <;> exact nofun
  rw [State.playBundle_running active running, State.beginStart_ahead r ahead, ← give]
  unfold State.finishStart
  rcases given with ⟨state, atStart, rfl⟩ | ⟨state, atStart, rfl⟩
  · simp only [state, atStart]
    unfold State.substitute
    rw [Playout.substitution_eq]
  · simp only [state, atStart]
    rfl

/-! ## The store after a frame (R97 to R102) -/

/-- The store after a frame of a packet (R97, R98, R106). -/
theorem packetFrame_passed {p : Playout} {r : Record} {h : Seq} {k : RingSlot} (now : Time) (head : p.head = some h)
    (slot : p.slotFor h = some k) {q : Playout} (hq : q = (p.packetFrame r k now).passFrame r.fpp) :
    (k.frameSound r.slots.count p.played = true →
      q.out = (k.payload.drop (p.played * r.slots.count)).take r.slots.count ∧ q.lastByte = q.out.map some ∧
      q.counters.parityFrames = p.counters.parityFrames) ∧
    (k.frameSound r.slots.count p.played = false →
      q.out = substituted p r ∧ q.lastByte = p.lastByte ∧
      q.counters.parityFrames = bump p.counters.parityFrames) ∧
    q.residence = (if p.played = 0 then widen p.residence (now - k.arrival).toNat else p.residence) ∧
    q.counters.originFaultPlayed = (if p.period = .none ∧ k.originFault = true
      then bump p.counters.originFaultPlayed else p.counters.originFaultPlayed) ∧
    q.counters.missing = p.counters.missing ∧
    (p.played + 1 < r.fpp → q.played = p.played + 1 ∧ q.period = .packet ∧ q.head = some h ∧ q.ring = p.ring ∧
      q.counters.played = p.counters.played) ∧
    (r.fpp ≤ p.played + 1 → q.played = 0 ∧ q.period = .none ∧ q.head = some (h + 1) ∧
      q.ring = p.ring.set (h.toNat % p.ring.length) none ∧
      q.counters.played = bump p.counters.played ∧
      q.counters.playedPath1 = (if k.path = .p1 then bump p.counters.playedPath1 else p.counters.playedPath1) ∧
      q.counters.playedPath2 = (if k.path = .p2 then bump p.counters.playedPath2 else p.counters.playedPath2)) := by
  obtain ⟨out, last, residence, parity, origin, missing⟩ := (p.packetFrame r k now).passFrame_keeps r.fpp
  rw [← hq] at out last residence parity origin missing
  refine ⟨fun sound => ?_, fun unsound => ?_, residence, origin, missing, fun lt => ?_, fun le => ?_⟩
  · have bytes := out.trans (if_pos sound)
    exact ⟨bytes, by rw [bytes]; exact last.trans (if_pos sound), parity.trans (if_pos sound)⟩
  · have not : ¬ k.frameSound r.slots.count p.played = true := by simp [unsound]
    exact ⟨out.trans (if_neg not), last.trans (if_neg not), parity.trans (if_neg not)⟩
  · have e := hq.trans (Playout.passFrame_lt (p := p.packetFrame r k now) lt)
    rw [e]
    exact ⟨rfl, rfl, head, rfl, rfl⟩
  · have e := (hq.trans (Playout.passFrame_ge (p := p.packetFrame r k now) le)).trans
      (Playout.endPeriod_packet head slot rfl)
    rw [e]
    refine ⟨rfl, rfl, rfl, rfl, ?_⟩
    cases k.path <;> exact ⟨rfl, rfl, rfl⟩

/-- The store after a frame of a packet not held (R97, R99, R100). -/
theorem missingFrame_passed {p : Playout} {r : Record} {h : Seq} (head : p.head = some h) (slot : p.slotFor h = none)
    {q : Playout} (hq : q = (p.missingFrame r).passFrame r.fpp) :
    q.out = substituted p r ∧ q.lastByte = p.lastByte ∧ q.ring = p.ring ∧ q.residence = p.residence ∧
    q.counters = (if p.period = .none then { p.counters with missing := bump p.counters.missing } else p.counters) ∧
    (p.played + 1 < r.fpp → q.played = p.played + 1 ∧ q.period = .missing ∧ q.head = some h) ∧
    (r.fpp ≤ p.played + 1 → q.played = 0 ∧ q.period = .none ∧ q.head = some (h + 1)) := by
  rcases Nat.lt_or_ge (p.played + 1) r.fpp with lt | le
  · have e := hq.trans (Playout.passFrame_lt (p := p.missingFrame r) lt)
    rw [e]
    exact ⟨rfl, rfl, rfl, rfl, rfl, fun _ => ⟨rfl, rfl, head⟩, fun le => absurd lt (Nat.not_lt.2 le)⟩
  · have e := (hq.trans (Playout.passFrame_ge (p := p.missingFrame r) le)).trans (Playout.endPeriod_missing head slot)
    rw [e]
    exact ⟨rfl, rfl, rfl, rfl, rfl, fun lt => absurd lt (Nat.not_lt.2 le), fun _ => ⟨rfl, rfl, rfl⟩⟩

/-! ## The obligation -/

/-- Settles O35. -/
theorem transmitSlotsCarryPlayoutOrIdle : Obligations.TransmitSlotsCarryPlayoutOrIdle := by
  refine ⟨fun s p upsets enabled exclusive sound => ?_, fun s t b r x p hx hp active ht => ?_,
    fun s t b r x p q hx hp ht hq => ?_⟩
  · have run : exec (.transmitFrameStart p upsets) s = .next (transmitFrameStart p upsets s) := rfl
    obtain ⟨w, ones, word, sent⟩ := frameSent_spec enabled upsets
    rw [run]
    generalize s.openFrame p upsets = u at sent
    generalize transmitFrameStart p upsets s = t at sent
    have bun : ∀ b, t.bun b = w.bun b := fun b => by rw [sent.rest]; rfl
    exact ⟨t, u, rfl, rfl, sent.opened.active, sent.opened.armed, fun b => (bun b).trans (sent.bundles b),
      fun some' n lt zero => frameSent_slots sent exclusive sound some' lt zero⟩
  · subst hx hp ht
    refine ⟨State.playBundle_idle, fun none waits => ?_, fun none filling countdown due =>
      State.playBundle_starts active none filling countdown due, fun playing none adjust => ?_,
      fun a playing none adjust early => ?_, fun a u playing none adjust due step => ?_,
      fun playing ahead => State.playBundle_ahead active playing ahead, fun playing inserted => ?_,
      fun filling underran => ?_⟩
    · exact modPlayout_alone (State.playBundle_fills active none waits)
    · rw [State.playBundle_playing active playing none, State.adjustTick_none r adjust,
        State.finishStart_plays r playing (by rw [none]; exact nofun) (by rw [none]; exact nofun)]
    · rw [State.playBundle_playing active playing none, State.adjustTick_paces adjust early]
      rw [State.finishStart_plays r (by rw [State.bun_modPlayout_self]; exact playing)
        (by rw [State.bun_modPlayout_self]; simp [none]) (by rw [State.bun_modPlayout_self]; simp [none])]
    · rw [State.playBundle_playing active playing none, State.adjustTick_steps adjust due, step]
    · exact modPlayout_alone (State.playBundle_gives active (.inl ⟨playing, inserted, rfl⟩))
    · exact modPlayout_alone (State.playBundle_gives active (.inr ⟨filling, underran, rfl⟩))
  · subst hx hp ht hq
    have plays := Plays.playFrame s b r
    refine ⟨plays.others, plays.rest, fun period empty => ?_, fun h k head slot kind => ?_,
      fun h head slot kind => ?_⟩
    · obtain ⟨within, playout, state, underran, stated⟩ := s.underrun_spec b r
      rw [State.playFrame_empty r period empty, playout]
      exact ⟨rfl, rfl, rfl, rfl, rfl, rfl, rfl, rfl, state, by rw [within.rest], underran, stated⟩
    · obtain ⟨bun, kept, faulted⟩ := State.playFrame_packet (r := r) rfl head slot kind
      obtain ⟨given, parity, residence, origin, missing, more, ends⟩ :=
        packetFrame_passed (r := r) s.timeCount head slot (congrArg Bundle.playout bun)
      refine ⟨by rw [bun], fun sound => ?_, fun unsound => ?_, residence, origin, missing, more, ends⟩
      · obtain ⟨out, last, frames⟩ := given sound
        exact ⟨out, last, (kept sound).1, (kept sound).2, frames⟩
      · obtain ⟨out, last, frames⟩ := parity unsound
        exact ⟨out, last, frames, faulted unsound⟩
    · obtain ⟨alone, -, bun⟩ := modPlayout_alone (State.playFrame_missing (r := r) rfl head slot kind)
      obtain ⟨out, last, ring, residence, counters, more, ends⟩ :=
        missingFrame_passed (r := r) head slot (congrArg Bundle.playout bun)
      exact ⟨alone, by rw [bun], out, last, ring, residence, counters, more, ends⟩

end Sys2Proof.Machine
end

section
/-!
Target computations and evaluations of the selector: the part of a bundle that they leave (R103, R124 to R127,
R140 to R147).
-/

namespace Sys2Proof.Machine

open Safety

/-! ## What a target computation and an evaluation leave of a bundle -/

/-- Two playout states that differ in their filling phase, their estimate wait and their depth adjustment alone. -/
def SameStore (p q : Playout) : Prop :=
  q = { p with phase := q.phase, estimateWait := q.estimateWait, adjust := q.adjust }

theorem SameStore.refl (p : Playout) : SameStore p p := rfl

theorem SameStore.trans {p q r : Playout} (h : SameStore p q) (k : SameStore q r) : SameStore p r := by
  unfold SameStore at *; rw [k, h]

theorem SameStore.ring {p q : Playout} (h : SameStore p q) : q.ring = p.ring := by rw [h]

theorem SameStore.head {p q : Playout} (h : SameStore p q) : q.head = p.head := by rw [h]

/-- A bundle after target computations and evaluations: its state, what its ring holds, its delay records and its
path records are as they were; outside PLAYING and WAIT_ESTIMATE so are its store and its proposal. -/
structure Tuned (x y : Bundle) : Prop where
  state : y.state = x.state
  store : SameStore x.playout y.playout
  echo : y.delay.echo = x.delay.echo
  record : y.delay.record = x.delay.record
  path : y.supervisor.path = x.supervisor.path
  startWait : y.supervisor.startWait = x.supervisor.startWait
  announcement : y.supervisor.selector.announcement = x.supervisor.selector.announcement
  idle : x.state ≠ .playing → x.playout.phase ≠ .waitEstimate →
    y.playout = x.playout ∧ y.delay.proposed = x.delay.proposed

theorem Tuned.refl (x : Bundle) : Tuned x x := ⟨rfl, rfl, rfl, rfl, rfl, rfl, rfl, fun _ _ => ⟨rfl, rfl⟩⟩

theorem Tuned.trans {x y z : Bundle} (h : Tuned x y) (k : Tuned y z) : Tuned x z where
  state := k.state.trans h.state
  store := h.store.trans k.store
  echo := k.echo.trans h.echo
  record := k.record.trans h.record
  path := k.path.trans h.path
  startWait := k.startWait.trans h.startWait
  announcement := k.announcement.trans h.announcement
  idle state phase := by
    obtain ⟨playout, proposed⟩ := h.idle state phase
    obtain ⟨playout', proposed'⟩ := k.idle (by rwa [h.state]) (by rwa [playout])
    exact ⟨playout'.trans playout, proposed'.trans proposed⟩

/-- A step within bundle `b` that tunes it: events are posted, and a steering interval is abandoned in PLAYING
alone. -/
structure Tunes (b : BundleId) (s t : State) : Prop where
  within : Local b s t
  bundle : Tuned (s.bun b) (t.bun b)
  posts : ∃ es, Posts s t es
  tribs : (s.bun b).state ≠ .playing → t.tribs = s.tribs

theorem Tunes.refl (b : BundleId) (s : State) : Tunes b s s := ⟨.refl b s, .refl _, ⟨[], .refl s⟩, fun _ => rfl⟩

theorem Tunes.trans {b : BundleId} {s t u : State} (h : Tunes b s t) (k : Tunes b t u) : Tunes b s u where
  within := h.within.trans k.within
  bundle := h.bundle.trans k.bundle
  posts := by
    obtain ⟨es, posts⟩ := h.posts
    obtain ⟨fs, more⟩ := k.posts
    exact ⟨_, Posts.trans posts more⟩
  tribs state := (k.tribs (by rwa [h.bundle.state])).trans (h.tribs state)

theorem Tunes.ite {b : BundleId} {s t u : State} {c : Prop} [Decidable c] (h : Tunes b s t) (k : Tunes b s u) :
    Tunes b s (if c then t else u) := by split <;> assumption

theorem Tunes.now {b : BundleId} {s t : State} (h : Tunes b s t) : t.now = s.now := by rw [h.within.rest]

/-! ## Its single changes -/

theorem Tunes.modBun (s : State) (b : BundleId) (f : Bundle → Bundle) (table : SameTable (s.bun b) (f (s.bun b)))
    (h : Tuned (s.bun b) (f (s.bun b))) : Tunes b s (s.modBun b f) :=
  ⟨.modBun s b f table, by rwa [State.bun_modBun_self], ⟨[], .of_ctrls rfl⟩, fun _ => rfl⟩

theorem Tunes.modDelay (s : State) (b : BundleId) (f : Delay → Delay)
    (echo : (f (s.bun b).delay).echo = (s.bun b).delay.echo := by rfl)
    (record : (f (s.bun b).delay).record = (s.bun b).delay.record := by rfl)
    (proposed : (s.bun b).state ≠ .playing → (f (s.bun b).delay).proposed = (s.bun b).delay.proposed := by
      exact fun _ => rfl) :
    Tunes b s (s.modDelay b f) :=
  .modBun s b (fun x => { x with delay := f x.delay }) ⟨rfl, rfl, rfl, rfl, rfl, rfl, rfl, rfl, rfl⟩
    ⟨rfl, .refl _, echo, record, rfl, rfl, rfl, fun state _ => ⟨rfl, proposed state⟩⟩

theorem Tunes.modSelector (s : State) (b : BundleId) (f : Selector → Selector)
    (h : (f (s.bun b).supervisor.selector).announcement = (s.bun b).supervisor.selector.announcement := by rfl) :
    Tunes b s (s.modSelector b f) :=
  .modBun s b (fun x => { x with supervisor := { x.supervisor with selector := f x.supervisor.selector } })
    ⟨rfl, rfl, rfl, rfl, rfl, rfl, rfl, rfl, rfl⟩ ⟨rfl, .refl _, rfl, rfl, rfl, rfl, h, fun _ _ => ⟨rfl, rfl⟩⟩

theorem Tunes.modPlayout (s : State) (b : BundleId) (f : Playout → Playout)
    (store : SameStore (s.bun b).playout (f (s.bun b).playout))
    (busy : (s.bun b).state = .playing ∨ (s.bun b).playout.phase = .waitEstimate) :
    Tunes b s (s.modPlayout b f) :=
  .modBun s b _ ⟨rfl, rfl, rfl, rfl, rfl, rfl, rfl, rfl, congrArg List.length store.ring⟩
    ⟨rfl, store, rfl, rfl, rfl, rfl, rfl, fun state phase => absurd busy (not_or.2 ⟨state, phase⟩)⟩

theorem Tunes.post (s : State) (b : BundleId) (k : EventKind) (j : Subject) (d : Nat) :
    Tunes b s (s.post k j d) := ⟨.post .., .refl _, ⟨_, .post s k j d⟩, fun _ => rfl⟩

theorem Tunes.postIf (s : State) (b : BundleId) (c : Bool) (k : EventKind) (j : Subject) (d : Nat) :
    Tunes b s (s.postIf c k j d) := .ite (.post ..) (.refl ..)

theorem Tunes.abandonSteering {s : State} {b : BundleId} (h : (s.bun b).state = .playing) :
    Tunes b s (s.abandonSteering b) :=
  ⟨.abandonSteering .., .refl _, ⟨[], .of_ctrls rfl⟩, fun ne => absurd h ne⟩

/-! ## The delay unit (chapter 6) -/

theorem Tunes.startAdjust {s : State} {b : BundleId} (h : (s.bun b).state = .playing) (target : Nat) :
    Tunes b s (s.startAdjust b target) := by
  have set : ∀ a, Tunes b s (s.modPlayout b fun p => { p with adjust := a }) := fun a =>
    .modPlayout s b _ rfl (.inl h)
  unfold State.startAdjust
  simp only
  split
  · exact ((set _).trans (.abandonSteering ((set _).bundle.state.trans h))).trans (.post ..)
  · exact (set _).trans (.post ..)

theorem Tunes.adoptPlaying {s : State} {b : BundleId} (h : (s.bun b).state = .playing) (target : Nat) :
    Tunes b s (s.adoptPlaying b target) := by
  have set : Tunes b s (s.setTarget b target) := .modDelay s b _
  exact set.trans (.startAdjust (set.bundle.state.trans h) target)

theorem Tunes.propose {s : State} {b : BundleId} (h : (s.bun b).state = .playing) (proposed : Option Nat)
    (shown : Nat) : Tunes b s (s.propose b proposed shown) :=
  (Tunes.modDelay s b _ (proposed := fun ne => absurd h ne)).trans (.post ..)

theorem Tunes.settlePlaying {s : State} {b : BundleId} (h : (s.bun b).state = .playing) (r : Record)
    (target : Nat) : Tunes b s (s.settlePlaying b r target) := by
  unfold State.settlePlaying
  simp only
  split
  · split
    · exact .adoptPlaying h target
    · exact .ite (.refl ..) (.propose h ..)
  · split
    · exact .propose h ..
    · exact .refl ..

theorem Tunes.setEqualiseFlags (s : State) (b : BundleId) (c : Computation) :
    Tunes b s (s.setEqualiseFlags b c) :=
  ((Tunes.modDelay s b _).trans (.postIf ..)).trans (.postIf ..)

theorem Tunes.endEstimateWait (s : State) (b : BundleId) (found : Bool) :
    Tunes b s (s.endEstimateWait b found) := by
  unfold State.endEstimateWait
  split
  · next h => exact .modPlayout s b _ rfl (.inr (by simp only [Bool.and_eq_true, beq_iff_eq] at h; exact h.2))
  · exact .refl ..

/-- A target computation tunes its bundle (R124 to R127). -/
theorem Tunes.computeTarget (s : State) (b : BundleId) : Tunes b s (s.computeTarget b) := by
  unfold State.computeTarget
  simp only
  split
  · exact .refl ..
  · next r _ =>
    have waited := (Tunes.setEqualiseFlags s b ((s.bun b).computation r)).trans
      (.endEstimateWait _ b ((s.bun b).computation r).found)
    refine waited.trans ?_
    split
    · next playing => exact .settlePlaying (waited.bundle.state.trans playing) ..
    · exact .modDelay ..
    · exact .modDelay ..
    · exact .modDelay ..
    · exact .refl ..

theorem Tunes.dropProposal {s : State} {b : BundleId} (h : (s.bun b).state = .playing) :
    Tunes b s (s.dropProposal b) := .modDelay s b _ (proposed := fun ne => absurd h ne)

/-! ## The selector (R140 to R147) -/

theorem Tunes.pathSwitch (s : State) (b : BundleId) (r : Record) (p : Path) (cause : SwitchCause) :
    Tunes b s (s.pathSwitch b r p cause) :=
  (((Tunes.modSelector s b _).trans (.post ..)).trans (.modDelay ..)).trans (.computeTarget ..)

theorem Tunes.examine (s : State) (b : BundleId) (r : Record) (e : Expired) : Tunes b s (s.examine b r e) := by
  unfold State.examine
  split
  · exact .modSelector ..
  · exact .modSelector ..
  · exact .modSelector ..
  · exact .pathSwitch ..

theorem Tunes.setMismatch (s : State) (b : BundleId) (flag : Bool) : Tunes b s (s.setMismatch b flag) :=
  .ite (.refl ..) ((Tunes.modSelector ..).trans (.post ..))

theorem Tunes.updateMismatch (s : State) (b : BundleId) (r : Record) : Tunes b s (s.updateMismatch b r) :=
  (Tunes.modSelector s b _).trans (.setMismatch ..)

theorem Tunes.evaluateWith (s : State) (b : BundleId) (r : Record) (e : Expired) :
    Tunes b s (s.evaluateWith b r e) := by
  have examined := Tunes.examine s b r e
  exact (examined.trans (.ite (.refl ..) (.examine ..))).trans (.updateMismatch ..)

/-- An evaluation of the selector tunes its bundle (R140). -/
theorem Tunes.evaluateSelector (s : State) (b : BundleId) (e : Expired) :
    Tunes b s (s.evaluateSelector b e) := by
  unfold State.evaluateSelector
  simp only
  split
  · exact .refl ..
  · exact .ite (.evaluateWith ..) (.refl ..)

theorem Tunes.hearAnnouncement (s : State) (b : BundleId) : Tunes b s (s.hearAnnouncement b) := by
  unfold State.hearAnnouncement
  simp only
  split
  · exact .refl ..
  · exact .ite (.updateMismatch ..) (.refl ..)

end Sys2Proof.Machine
end

section
/-!
The bundle table and the rings under the operations that take no record: the record in force, the ring sizes and
the ring's placement stay (R19, R27, R85). O5 and O7.
-/

namespace Sys2Proof.Machine

theorem Playout.getElem?_setSlot (p : Playout) (q : Seq) (x : Option RingSlot) (i : Nat) :
    (p.setSlot q x).ring[i]? =
      if q.toNat % p.ring.length = i ∧ i < p.ring.length then some x else p.ring[i]? := by
  unfold Playout.setSlot
  simp only [List.getElem?_set]
  split
  · next e =>
    subst e
    split
    · next lt => rw [if_pos ⟨rfl, lt⟩]
    · next ge => rw [if_neg (by simp [ge]), List.getElem?_eq_none (by omega)]
  · next ne => rw [if_neg fun k => ne k.1]

theorem Playout.length_endPeriod (p : Playout) : p.endPeriod.ring.length = p.ring.length := by
  unfold Playout.endPeriod
  split
  · rfl
  · simp only; split <;> simp

theorem Playout.length_passFrame (p : Playout) (fpp : Nat) : (p.passFrame fpp).ring.length = p.ring.length := by
  unfold Playout.passFrame
  simp only
  split
  · exact Playout.length_endPeriod _
  · rfl

end Sys2Proof.Machine

namespace Sys2Proof.Safety

open Machine

/-! ## A sound ring (R85) -/

/-- Soundness of a ring is a matter of its slots and its head alone. -/
theorem RingSound.of_ring {p q : Playout} (h : RingSound p) (ring : q.ring = p.ring) (head : q.head = p.head) :
    RingSound q := fun i x e => by
  unfold SlotPlaced
  rw [ring] at e
  rw [ring, head]
  exact h i x e

theorem RingSound.of_sameStore {p q : Playout} (k : RingSound p) (h : SameStore p q) : RingSound q :=
  k.of_ring h.ring h.head

theorem RingSound.of_empty {p : Playout} (h : ∀ x ∈ p.ring, x = none) : RingSound p := fun i x e => by
  cases h _ (List.mem_of_getElem? e)

theorem RingSound.emptied (p : Playout) : RingSound p.emptied :=
  .of_empty fun _ h => (List.mem_replicate.1 h).2

theorem RingSound.fresh (size : Nat) : RingSound (.fresh size) := .of_empty fun _ h => (List.mem_replicate.1 h).2

/-- A ring with no head holds nothing. -/
theorem RingSound.none_of_head {p : Playout} (h : RingSound p) (head : p.head = none) {i : Nat} {x : RingSlot} :
    p.ring[i]? ≠ some (some x) := fun e => by
  obtain ⟨-, y, some', -⟩ := h i x e
  rw [head] at some'; cases some'

/-- The sequence of a held packet finds it. -/
theorem RingSound.slotFor {p : Playout} (h : RingSound p) {i : Nat} {x : RingSlot} (e : p.ring[i]? = some (some x)) :
    p.slotFor x.seq = some x := by
  obtain ⟨place, -⟩ := h i x e
  unfold Playout.slotFor
  rw [place, e]
  simp

/-- The head passed over, its slot emptied: every other packet lies ahead of the next head (R91, R97). -/
theorem RingSound.pass {p q : Playout} {h : Seq} (sound : RingSound p) (head : p.head = some h)
    (ring : q.ring = if (p.slotFor h).isSome then (p.setSlot h none).ring else p.ring)
    (next : q.head = some (h + 1)) : RingSound q := fun i x e => by
  have length : q.ring.length = p.ring.length := by rw [ring]; split <;> simp
  have old : p.ring[i]? = some (some x) ∧ x.seq ≠ h := by
    rw [ring] at e
    split at e
    · rw [Playout.getElem?_setSlot] at e
      split at e
      · cases e
      · next out =>
        refine ⟨e, fun same => out ?_⟩
        obtain ⟨place, -⟩ := sound i x e
        obtain ⟨lt, -⟩ := List.getElem?_eq_some_iff.1 e
        exact ⟨same ▸ place, lt⟩
    · next free =>
      refine ⟨e, fun same => free ?_⟩
      rw [← same, sound.slotFor e]; rfl
  obtain ⟨place, y, some', near⟩ := sound i x old.1
  obtain rfl : h = y := Option.some.inj (head.symm.trans some')
  refine ⟨by rw [length]; exact place, h + 1, next, ?_⟩
  rw [length]
  have ne := old.2
  revert near ne
  generalize p.ring.length = n
  intro near ne
  have step : (x.seq - (h + 1)).toNat < (x.seq - h).toNat := by bv_omega
  omega

theorem RingSound.advance {p : Playout} {h : Seq} (sound : RingSound p) (head : p.head = some h) :
    RingSound (p.advance h).1 := sound.pass head (by unfold Playout.advance; simp only; split <;> rfl) rfl

theorem RingSound.slipUntil {p : Playout} (sound : RingSound p) (stop : Playout → Bool) (fuel : Nat) :
    RingSound (p.slipUntil stop fuel).1 := by
  induction fuel generalizing p with
  | zero => exact sound
  | succ n ih =>
    unfold Playout.slipUntil
    split
    · exact sound
    · split
      · exact sound
      · next h head => exact ih (sound.advance head)

theorem RingSound.endPeriod {p : Playout} (sound : RingSound p) : RingSound p.endPeriod := by
  unfold Playout.endPeriod
  split
  · exact sound
  · next h head => exact sound.pass head (by simp only; split <;> rfl) rfl

theorem RingSound.passFrame {p : Playout} (sound : RingSound p) (fpp : Nat) : RingSound (p.passFrame fpp) := by
  have counted : RingSound { p with played := p.played + 1 } := sound.of_ring rfl rfl
  unfold Playout.passFrame
  simp only
  split
  · exact counted.endPeriod
  · exact counted

/-- A packet that is stored lies within R of the head (R85, Table 37). -/
theorem RingSound.put {p : Playout} {k : Packet} (sound : RingSound p)
    (stored : p.placement k.header.path k.header.seq = .stored) : RingSound (p.put k) := fun i x e => by
  have length : (p.put k).ring.length = p.ring.length := by simp [Playout.put]
  have near : ∀ h, p.head = some h → (k.header.seq - h).toNat < p.ring.length := fun h head => by
    unfold Playout.placement at stored
    rw [head] at stored
    simp only at stored
    split at stored
    · cases stored
    · next early =>
      split at stored
      · cases stored
      · next lt =>
        have nonneg : ¬ (k.header.seq - h).toInt < 0 := fun neg => early (.inl neg)
        rw [BitVec.toInt_eq_toNat_cond] at nonneg lt
        split at lt <;> omega
  have head : (p.put k).head = some (p.head.getD k.header.seq) := rfl
  have e' : (p.setSlot k.header.seq (some k.slot)).ring[i]? = some (some x) := e
  unfold SlotPlaced
  rw [length, head]
  rw [Playout.getElem?_setSlot] at e'
  split at e'
  · next own =>
    obtain rfl : k.slot = x := Option.some.inj (Option.some.inj e')
    refine ⟨own.1, _, rfl, ?_⟩
    cases e : p.head with
    | none =>
      change (k.header.seq - k.header.seq).toNat < _
      rw [BitVec.sub_self]
      exact Nat.zero_lt_of_lt own.2
    | some h => exact near h e
  · obtain ⟨place, h, head, lt⟩ := sound i x e'
    exact ⟨place, h, by rw [head]; rfl, lt⟩

end Sys2Proof.Safety

namespace Sys2Proof.Machine

open Safety

/-! ## What the operations keep of the table and the rings -/

/-- A bundle has an active record exactly when it is not FREE (R19). -/
def Bundle.Listed (x : Bundle) : Prop := x.active.isSome = true ↔ x.state ≠ .free

theorem Bundle.Listed.of_some {x : Bundle} (h : x.active.isSome = true) (k : x.state ≠ .free) : x.Listed :=
  ⟨fun _ => k, fun _ => h⟩

/-- A bundle that takes no record: it has one as before, its ring and its armed ring are as long, and its table
entry and its ring stay sound. -/
structure Seat (x y : Bundle) : Prop where
  active : y.active.isSome = x.active.isSome
  listed : x.Listed → y.Listed
  ringSize : y.ringSize = x.ringSize
  armed : y.armed = x.armed
  length : y.playout.ring.length = x.playout.ring.length
  ring : RingSound x.playout → RingSound y.playout

theorem Seat.refl (x : Bundle) : Seat x x := ⟨rfl, id, rfl, rfl, rfl, id⟩

theorem Seat.trans {x y z : Bundle} (h : Seat x y) (k : Seat y z) : Seat x z :=
  ⟨k.active.trans h.active, k.listed ∘ h.listed, k.ringSize.trans h.ringSize, k.armed.trans h.armed,
    k.length.trans h.length, k.ring ∘ h.ring⟩

theorem Seat.of_table {x y : Bundle} (h : SameTable x y) (listed : x.Listed → y.Listed)
    (ring : RingSound x.playout → RingSound y.playout) : Seat x y :=
  ⟨congrArg Option.isSome h.active, listed, h.ringSize, h.armed, h.ringLength, ring⟩

/-- A bundle whose table entry, state and store are the same. -/
theorem Seat.of_same {x y : Bundle} (active : y.active = x.active) (state : y.state = x.state)
    (ringSize : y.ringSize = x.ringSize) (armed : y.armed = x.armed) (playout : y.playout = x.playout) : Seat x y :=
  ⟨congrArg Option.isSome active, fun h => by unfold Bundle.Listed; rwa [active, state], ringSize, armed,
    by rw [playout], by rw [playout]; exact id⟩

/-- No bundle takes a record. -/
structure Seated (s t : State) : Prop where
  seat : ∀ b, Seat (s.bun b) (t.bun b)

theorem Seated.refl (s : State) : Seated s s := ⟨fun _ => .refl _⟩

theorem Seated.trans {s t u : State} (h : Seated s t) (k : Seated t u) : Seated s u :=
  ⟨fun b => (h.seat b).trans (k.seat b)⟩

theorem Seated.ite {s t u : State} {c : Prop} [Decidable c] (h : Seated s t) (k : Seated s u) :
    Seated s (if c then t else u) := by split <;> assumption

theorem Seated.foldl {α : Type} {f : State → α → State} (h : ∀ s x, Seated s (f s x)) (xs : List α) (s : State) :
    Seated s (xs.foldl f s) := by
  induction xs generalizing s with
  | nil => exact .refl s
  | cons x xs ih => exact (h s x).trans (ih (f s x))

theorem Seated.of_bundles {s t : State} (h : t.bundles = s.bundles) : Seated s t := ⟨fun b => by
  have e : t.bun b = s.bun b := by simp only [State.bun, h]
  rw [e]; exact .refl _⟩

theorem Seated.within {s t : State} {b : BundleId} (others : ∀ c, c ≠ b → t.bun c = s.bun c)
    (own : Seat (s.bun b) (t.bun b)) : Seated s t := ⟨fun c => by
  by_cases e : c = b
  · subst e; exact own
  · rw [others c e]; exact .refl _⟩

theorem Seated.modBun (s : State) (b : BundleId) (f : Bundle → Bundle) (h : Seat (s.bun b) (f (s.bun b))) :
    Seated s (s.modBun b f) := .within (fun _ => State.bun_modBun_ne _ _) (by rwa [State.bun_modBun_self])

theorem Seated.modPlayout (s : State) (b : BundleId) (f : Playout → Playout)
    (length : (f (s.bun b).playout).ring.length = (s.bun b).playout.ring.length)
    (ring : RingSound (s.bun b).playout → RingSound (f (s.bun b).playout)) : Seated s (s.modPlayout b f) :=
  .modBun s b _ ⟨rfl, id, rfl, rfl, length, ring⟩

/-- A change of a store that leaves its slots and its head. -/
theorem Seated.sameRing (s : State) (b : BundleId) (f : Playout → Playout)
    (ring : (f (s.bun b).playout).ring = (s.bun b).playout.ring := by rfl)
    (head : (f (s.bun b).playout).head = (s.bun b).playout.head := by rfl) : Seated s (s.modPlayout b f) :=
  .modPlayout s b f (congrArg List.length ring) fun h => h.of_ring ring head

theorem Seated.modPlay (s : State) (b : BundleId) (f : PlayCounters → PlayCounters) : Seated s (s.modPlay b f) :=
  .sameRing s b _

theorem Seated.modDelay (s : State) (b : BundleId) (f : Delay → Delay) : Seated s (s.modDelay b f) :=
  .modBun s b _ (.of_same rfl rfl rfl rfl rfl)

theorem Seated.modSupervisor (s : State) (b : BundleId) (f : Supervisor → Supervisor) :
    Seated s (s.modSupervisor b f) := .modBun s b _ (.of_same rfl rfl rfl rfl rfl)

theorem Seated.modSelector (s : State) (b : BundleId) (f : Selector → Selector) : Seated s (s.modSelector b f) :=
  .modSupervisor s b _

theorem Seated.modAssembly (s : State) (b : BundleId) (f : Assembly → Assembly) : Seated s (s.modAssembly b f) :=
  .modBun s b _ (.of_same rfl rfl rfl rfl rfl)

theorem Seated.post (s : State) (k : EventKind) (j : Subject) (d : Nat) : Seated s (s.post k j d) :=
  .of_bundles rfl

theorem Seated.postIf (s : State) (c : Bool) (k : EventKind) (j : Subject) (d : Nat) : Seated s (s.postIf c k j d) :=
  .ite (.post ..) (.refl s)

theorem Seated.decide (s : State) (cp : CtrlPort) (k : Nat) (x : Status) (bs : List Byte) :
    Seated s (s.decide cp k x bs) := .of_bundles rfl

theorem Seated.refuse (s : State) (cp : CtrlPort) (k : Nat) (x : Status) : Seated s (s.refuse cp k x) :=
  .decide ..

theorem Seated.handOver {s : State} (cp : CtrlPort) (i : Instr) {work : State → State} (h : Seated s (work s)) :
    Seated s (s.handOver cp i work) := .ite (.of_bundles rfl) h

/-- What tunes a bundle leaves its table entry and its ring. -/
theorem Tunes.seated {b : BundleId} {s t : State} (h : Tunes b s t) : Seated s t :=
  .within h.within.others (.of_table h.within.table
    (fun k => by unfold Bundle.Listed; rwa [h.within.table.active, h.bundle.state]) fun k => k.of_sameStore h.bundle.store)

/-! ## Changes of state (R35, R39): never into FREE, and never of a FREE bundle -/

theorem Seated.changeState {s : State} {b : BundleId} {new : BState} (enters : new ≠ .free)
    (h : (s.bun b).Listed → (s.bun b).active.isSome = true) (cause : StateCause) :
    Seated s (s.changeState b new cause) := by
  have local_ := Local.changeState s b new cause
  refine .within local_.others ?_
  rw [State.bun_changeState]
  exact ⟨rfl, fun k => .of_some (h k) enters, rfl, rfl, rfl, id⟩

theorem Seated.fallBack {s : State} {b : BundleId} {new : BState} (enters : new ≠ .free)
    (h : (s.bun b).Listed → (s.bun b).active.isSome = true) (cause : StateCause) :
    Seated s (s.fallBack b new cause) := by
  have changed := Seated.changeState enters h cause
  unfold State.fallBack
  simp only
  exact .ite ((changed.trans (.modDelay ..)).trans (Tunes.computeTarget ..).seated) changed

theorem Bundle.Listed.active_of {x : Bundle} (h : x.Listed) (k : x.state ≠ .free) : x.active.isSome = true := h.2 k

theorem Seated.emptyRing (s : State) (b : BundleId) : Seated s (s.emptyRing b) :=
  .within (Local.emptyRing s b).others (by
    rw [State.bun_emptyRing]
    exact ⟨rfl, id, rfl, rfl, by simp [Playout.emptied], fun _ => .emptied _⟩)

theorem Seated.reportDown (s : State) (b : BundleId) : Seated s (s.reportDown b) := by
  unfold State.reportDown
  simp only
  split
  · next h =>
    refine (Seated.emptyRing s b).trans (.fallBack (new := .down) nofun (fun k => k.active_of fun free => ?_) _)
    rw [State.bun_emptyRing] at free
    simp only at free
    rw [free] at h; cases h
  · exact .refl s

theorem Seated.supervise (s : State) (b : BundleId) (r : Record) (new : Supervisor) :
    Seated s (s.supervise b r new) := by
  have set : Seated s (s.modBun b fun x => { x with supervisor := new }) :=
    .modBun s b _ (.of_same rfl rfl rfl rfl rfl)
  have down : ∀ c : Bool, Seated s (if c then
      (s.modBun b fun x => { x with supervisor := new }).reportDown b
      else s.modBun b fun x => { x with supervisor := new }) := fun c => .ite (set.trans (.reportDown ..)) set
  have heard : ∀ (c d : Bool), Seated s (if d then (if c then
      (s.modBun b fun x => { x with supervisor := new }).reportDown b
      else s.modBun b fun x => { x with supervisor := new }).hearAnnouncement b else if c then
      (s.modBun b fun x => { x with supervisor := new }).reportDown b
      else s.modBun b fun x => { x with supervisor := new }) := fun c d =>
    .ite ((down c).trans (Tunes.hearAnnouncement ..).seated) (down c)
  unfold State.supervise
  exact .ite ((heard ..).trans (Tunes.evaluateSelector ..).seated) (heard ..)

theorem Seated.acceptOnPath (s : State) (b : BundleId) (r : Record) (p : Path) (fault : Bool)
    (playing : PlayingPath) : Seated s (s.acceptOnPath b r p fault playing) := by
  have woken : Seated s (if (s.bun b).state = .down then s.changeState b .filling .pathRecovered else s) := by
    split
    · next down => exact .changeState (new := .filling) nofun (fun k => k.active_of (by rw [down]; exact nofun)) _
    · exact .refl s
  exact woken.trans ((Seated.postIf ..).trans (.supervise ..))

/-! ## The delay unit and the playout store -/

theorem Seated.takeSample (s : State) (b : BundleId) (r : Record) (p : Path) (rtt : Nat) :
    Seated s (s.takeSample b r p rtt) := by
  unfold State.takeSample
  simp only
  split
  · refine .trans ?_ (Tunes.computeTarget ..).seated
    exact .ite (((Seated.modDelay ..).trans (.post ..)).trans (.modDelay ..)) (.modDelay ..)
  · exact .modDelay ..

theorem Seated.measure (s : State) (b : BundleId) (r : Record) (k : Packet) : Seated s (s.measure b r k) :=
  (Seated.modDelay s b _).trans (.ite (.takeSample ..) (.modDelay ..))

theorem Seated.endPacketWait (s : State) (b : BundleId) (r : Record) : Seated s (s.endPacketWait b r) :=
  .ite (.sameRing ..) (.sameRing ..)

theorem Seated.overflowTest (s : State) (b : BundleId) (r : Record) (q : Seq) :
    Seated s (s.overflowTest b r q) := by
  unfold State.overflowTest
  simp only
  split
  · exact .refl s
  · exact (Seated.modPlayout s b _ (Playout.length_slipUntil ..) fun sound =>
      RingSound.of_ring (sound.slipUntil _ _) rfl rfl).trans (.post ..)

theorem Seated.store {s : State} {b : BundleId} {k : Packet}
    (h : (s.bun b).playout.placement k.header.path k.header.seq = .stored) (r : Record) :
    Seated s (s.store b r k) := by
  have put : Seated s (s.modPlayout b fun p => p.put k) :=
    .modPlayout s b _ (by simp [Playout.put]) fun sound => sound.put h
  unfold State.store
  simp only
  exact (put.trans (.ite (.endPacketWait ..) (.refl _))).trans (.overflowTest ..)

theorem Seated.early (s : State) (b : BundleId) (q : Seq) : Seated s (s.early b q) := by
  have counted : Seated s (s.modPlay b fun c => { c with early := bump c.early }) := .modPlay ..
  unfold State.early
  simp only
  refine .ite (counted.trans ?_) (counted.trans (.sameRing ..))
  unfold State.resync
  simp only
  have emptied : ∀ u : State, Seated u (((u.emptyRing b).modPlay b fun c => { c with
      resyncs := bump c.resyncs }).post .playoutResync (.bundle b)
        (((u.bun b).playout.head.getD 0).toNat * 65536 + q.toNat)) := fun u =>
    ((Seated.emptyRing u b).trans (.modPlay ..)).trans (.post ..)
  split
  · next playing =>
    exact (emptied _).trans (.fallBack (new := .filling) nofun (fun k => k.active_of (by rw [playing]; exact nofun)) _)
  · exact emptied _

theorem Seated.place (s : State) (b : BundleId) (r : Record) (k : Packet) : Seated s (s.place b r k) := by
  unfold State.place
  simp only
  split
  · exact .modPlay ..
  · split
    · exact .modPlay ..
    · exact .modPlay ..
    · exact .modPlay ..
    · exact .early ..
    · next stored => exact .store stored r

theorem Seated.accept (s : State) (b : BundleId) (k : Packet) : Seated s (s.accept b k) := by
  unfold State.accept
  split
  · exact .refl s
  · exact ((Seated.measure ..).trans (.acceptOnPath ..)).trans (.place ..)

end Sys2Proof.Machine
end

section
/-! The commands that take no record, by what they keep of the bundle table and the rings. O5 and O7. -/

namespace Sys2Proof.Machine

open Safety

/-! ## Playing a frame (R97 to R106) -/

theorem Seated.activeStays {s t : State} (h : Seated s t) {b : BundleId} (k : (s.bun b).active.isSome = true) :
    (t.bun b).active.isSome = true := (h.seat b).active.trans k

theorem Seated.recordFault (s : State) (k : FaultKind) (j : Option BundleId) (d : Nat) :
    Seated s (s.recordFault k j d) := .of_bundles rfl

theorem Seated.give (s : State) (b : BundleId) (bs : List Byte) : Seated s (s.give b bs) := .sameRing s b _

theorem Seated.setAtStart (s : State) (b : BundleId) (x : AtStart) : Seated s (s.setAtStart b x) := .sameRing s b _

theorem Seated.setPace (s : State) (b : BundleId) (pace : Nat) (step : Option Direction) :
    Seated s (s.setPace b pace step) := .sameRing s b _

theorem Seated.postAbandoned (s : State) (b : BundleId) : Seated s (s.postAbandoned b) := .postIf ..

theorem Seated.sampleFill (s : State) (b : BundleId) (r : Record) : Seated s (s.sampleFill b r) := .sameRing s b _

theorem Seated.beginPeriod (s : State) (b : BundleId) (kind : Period) :
    Seated s (s.modPlayout b fun p => p.beginPeriod kind) := .sameRing s b _

theorem Seated.passFrame (s : State) (b : BundleId) (fpp : Nat) :
    Seated s (s.modPlayout b fun p => p.passFrame fpp) :=
  .modPlayout s b _ (Playout.length_passFrame ..) fun sound => sound.passFrame fpp

theorem Seated.giveFrame (s : State) (b : BundleId) (r : Record) : Seated s (s.giveFrame b r) := by
  have parity : ∀ u q, Seated u (State.giveParityFrame u b r q) := fun u q => by
    unfold State.giveParityFrame
    exact ((Seated.give u b _).trans (.recordFault ..)).trans (.modPlay ..)
  have payload : ∀ (u : State) bs, Seated u (u.givePayload b bs) := fun u bs => .sameRing u b _
  unfold State.giveFrame
  simp only
  split
  · exact (Seated.ite (.sameRing s b _) (.refl s)).trans (.ite (payload ..) (parity ..))
  · exact .give s b _

theorem Seated.underrun {s : State} {b : BundleId} (h : (s.bun b).active.isSome = true) (r : Record) :
    Seated s (s.underrun b r) := by
  have dry : Seated s (s.ranDry b) :=
    (((Seated.modPlay s b _).trans (.post ..)).trans (.postAbandoned ..)).trans (.sameRing _ b _)
  exact (dry.trans (.fallBack (new := .filling) nofun (fun _ => dry.activeStays h) _)).trans (.give ..)

theorem Seated.playFrame {s : State} {b : BundleId} (h : (s.bun b).active.isSome = true) (r : Record) :
    Seated s (s.playFrame b r) := by
  unfold State.playFrame
  simp only
  split
  · split
    · exact .underrun h r
    · exact ((Seated.beginPeriod ..).trans (.giveFrame ..)).trans (.passFrame ..)
  · exact (Seated.giveFrame ..).trans (.passFrame ..)

theorem Seated.skipStep {s : State} {b : BundleId} (h : (s.bun b).active.isSome = true) (r : Record) :
    Seated s (s.skipStep b r) := by
  have passed : ∀ u : State, Seated u ((((u.modPlayout b fun p => p.passFrame r.fpp).modPlay b fun c =>
      { c with skipped := bump c.skipped }).setPace b 0 (some .skip)).setAtStart b .skipped) := fun u =>
    (((Seated.passFrame u b _).trans (.modPlay ..)).trans (.setPace ..)).trans (.setAtStart ..)
  unfold State.skipStep
  simp only
  split
  · exact (Seated.underrun h r).trans (.setAtStart ..)
  · next u begun =>
    refine .trans ?_ (passed u)
    split at begun
    · obtain ⟨kind, -, rfl⟩ := Option.map_eq_some_iff.1 begun
      exact .beginPeriod ..
    · cases begun; exact .refl s

theorem Seated.adjustStep {s : State} {b : BundleId} (h : (s.bun b).active.isSome = true) (r : Record)
    (a : Adjust) : Seated s (s.adjustStep b r a) :=
  .ite ((Seated.post ..).trans (.sameRing _ b _))
    (.ite (((Seated.modPlay s b _).trans (.setPace ..)).trans (.setAtStart ..)) (.skipStep h r))

theorem Seated.startTrim (s : State) (b : BundleId) (r : Record) : Seated s (s.startTrim b r) := by
  unfold State.startTrim
  simp only
  split
  · exact (Seated.modPlayout s b _ (Playout.length_slipUntil ..) fun sound =>
      RingSound.of_ring (sound.slipUntil _ _) rfl rfl).trans (.post ..)
  · exact .refl s

theorem Seated.startPlayout {s : State} {b : BundleId} (h : (s.bun b).active.isSome = true) (r : Record) :
    Seated s (s.startPlayout b r) := by
  have trimmed : Seated s ((s.startTrim b r).modPlayout b fun p => { p with phase := .waitPacket, startCount := 0 }) :=
    (Seated.startTrim ..).trans (.sameRing _ b _)
  exact (trimmed.trans (.changeState (new := .playing) nofun (fun _ => trimmed.activeStays h) _)).trans (.setAtStart ..)

/-- A bundle's frame start keeps its record and its ring's placement (R92 to R104). -/
theorem Seated.playBundle (s : State) (b : BundleId) : Seated s (s.playBundle b) := by
  have ticks : ∀ r, (s.bun b).active.isSome = true → Seated s (s.adjustTick b r) := fun r h => by
    unfold State.adjustTick
    simp only
    split
    · exact .refl s
    · exact .ite (.adjustStep h ..) (.setPace ..)
  have begins : ∀ r, (s.bun b).active.isSome = true → Seated s (s.beginStart b r) := fun r h =>
    .ite (.refl s) (.ite (.startPlayout h r) (.ite (ticks r h) (.refl s)))
  have finishes : ∀ (u : State) r, (u.bun b).active.isSome = true → Seated u (u.finishStart b r) := fun u r h => by
    unfold State.finishStart
    simp only
    split
    · exact .give ..
    · exact .give ..
    · exact .playFrame h r
    · exact (Seated.give u b _).trans (.ite (.refl _) (.sameRing _ b _))
  unfold State.playBundle
  simp only
  split
  · exact .refl s
  · next r active =>
    have h : (s.bun b).active.isSome = true := by rw [active]; rfl
    exact .ite (((begins r h).trans (finishes _ r ((begins r h).activeStays h))).trans (.setAtStart ..)) (.refl s)

theorem Seated.playoutStart (b : BundleId) (s : State) : Seated s (playoutStart b s) := by
  unfold Machine.playoutStart
  simp only
  split
  · exact .refl s
  · next r active =>
    have sampled := Seated.sampleFill s b r
    exact .ite (sampled.trans (.startPlayout (sampled.activeStays (by rw [active]; rfl)) r)) (.refl s)

theorem Seated.adjustStepCommand (b : BundleId) (s : State) : Seated s (Machine.adjustStep b s) := by
  unfold Machine.adjustStep
  simp only
  split
  · next r a active _ =>
    have sampled := Seated.sampleFill s b r
    exact .ite (sampled.trans (.adjustStep (sampled.activeStays (by rw [active]; rfl)) r a)) (.refl s)
  · exact .refl s

/-! ## The assembler, and START and STOP (R36, R37) -/

theorem Queueing.seated {s t : State} {touched : BundleId → Prop} (h : Queueing s t touched) : Seated s t :=
  ⟨fun b => by rw [h.blocks b]; exact .of_same rfl rfl rfl rfl rfl⟩

theorem Seated.receiveFrame (p : TribId) (bytes : Vector Byte 32) (others : List TribId) (s : State) :
    Seated s (receiveFrame p bytes others s) := .foldl (fun s b => (Queueing.collect p bytes others s b).seated) ..

theorem Seated.interFrameGapEnd (n : NetPort) (s : State) : Seated s (interFrameGapEnd n s) := by
  unfold Machine.interFrameGapEnd
  split
  · exact ((Queueing.modNet s n _).andQueue (.arbitrate ..)).seated
  · exact .refl s

theorem Seated.withdraw (s : State) (b : BundleId) : Seated s (s.withdraw b) := by
  have gone : Seated s { s with nets := s.nets.map (Net.withdraw (b := b)) } := .of_bundles rfl
  unfold State.withdraw
  exact gone.trans (.modAssembly ..)

theorem Seated.restartAssembly (s : State) (b : BundleId) : Seated s (s.restartAssembly b) :=
  (Seated.withdraw ..).trans (.modAssembly ..)

theorem Seated.stopBlocks (s : State) (b : BundleId) : Seated s (s.stopBlocks b) := by
  have stopped : ∀ u : State, Seated u (u.stopAssembly b) := fun u => (Seated.withdraw ..).trans (.modAssembly ..)
  have paths : ∀ u : State, Seated u (u.stopPaths b) := fun u =>
    (Seated.modSupervisor ..).trans (Tunes.setMismatch ..).seated
  exact (((Seated.emptyRing ..).trans (stopped _)).trans (.modDelay ..)).trans (paths _)

theorem Seated.startBundle {s : State} {b : BundleId} (h : (s.bun b).active.isSome = true) (r : Record) :
    Seated s (s.startBundle b r) := by
  have fresh : ∀ u : State, Seated u (u.modPlayout b fun p => .fresh p.ring.length) := fun u =>
    .modPlayout u b _ (by simp [Playout.fresh]) fun _ => .fresh _
  have readied := ((((Seated.restartAssembly s b).trans (fresh _)).trans
    (.modDelay _ b fun d => d.clear true)).trans (.modSupervisor _ b fun _ => .started r (s.afterMs r.lossTime)))
  exact (readied.trans (.changeState (new := .filling) nofun (fun _ => readied.activeStays h) _)).trans
    (Tunes.computeTarget ..).seated

theorem Seated.start (cp : CtrlPort) (b : Nat) (s : State) : Seated s (start cp b s) := by
  unfold Machine.start
  refine .ite (.refuse ..) ?_
  split
  · exact .refuse ..
  · split
    · exact .refuse ..
    · next active => exact .ite ((Seated.startBundle (by rw [active]; rfl) _).trans (.decide ..)) (.refuse ..)

theorem Seated.stop (cp : CtrlPort) (b : Nat) (s : State) : Seated s (stop cp b s) := by
  have stopped : ∀ b, (s.bun b).state ≠ .free → Seated s ((((s.stopBlocks b).changeState b .stopped .stop).computeTarget
      b).decide cp kindStop .ok []) := fun b h => by
    have blocks := Seated.stopBlocks s b
    have state : ((s.stopBlocks b).bun b).state = (s.bun b).state := (Calm.stopBlocks s b).states b
    exact ((blocks.trans (.changeState (new := .stopped) nofun
      (fun k => k.active_of (by rwa [state])) _)).trans (Tunes.computeTarget ..).seated).trans (.decide ..)
  unfold Machine.stop
  refine .ite (.refuse ..) ?_
  split
  · exact .refuse ..
  · split
    · exact .refuse ..
    · exact .decide ..
    · next e => exact stopped _ (by rw [e]; exact nofun)
    · next e => exact stopped _ (by rw [e]; exact nofun)
    · next e => exact stopped _ (by rw [e]; exact nofun)

/-! ## The record patrol (R40) -/

theorem Seated.readRecord (s : State) (read : BundleId × Record) : Seated s (s.readRecord read) := by
  refine .modBun s read.1 _ ?_
  split
  · next h =>
    have some' : (s.bun read.1).active.isSome = true := (Bool.and_eq_true_iff.1 h).1
    exact ⟨some'.symm, fun k => .of_some rfl (k.1 some'), rfl, rfl, rfl, id⟩
  · exact .refl _

theorem Seated.faultRecord {s : State} {b : BundleId} (h : (s.bun b).active.isSome = true) :
    Seated s (s.faultRecord b) := by
  have flagged : Seated s (s.modBun b fun x => { x with recordFault := true }) :=
    .modBun s b _ (.of_same rfl rfl rfl rfl rfl)
  have stopped := (flagged.trans (.ite (c := (s.bun b).state.running = true) (.stopBlocks _ b) (.refl _))).trans
    (.recordFault _ .recordCheck (some b) 0)
  have changed := stopped.trans (.changeState (new := .stopped) nofun (fun _ => stopped.activeStays h) .recordFault)
  exact .ite (changed.trans (Tunes.computeTarget ..).seated) changed

theorem Seated.patrol (s : State) (b : BundleId) : Seated s (s.patrol b) := by
  unfold State.patrol
  split
  · next mismatched =>
    refine .faultRecord ?_
    unfold Bundle.mismatched at mismatched
    split at mismatched
    · cases mismatched
    · next active => rw [active]; rfl
  · exact .refl s

theorem Seated.recordPatrol (reads : List (BundleId × Record)) (s : State) : Seated s (recordPatrol reads s) :=
  (Seated.foldl .readRecord ..).trans (.foldl .patrol ..)

/-! ## Received frames (R64 to R78) -/

theorem Seated.classify (s : State) (k : Packet) : Seated s (s.classify k) := by
  have captured : ∀ (u : State) slot x, Seated u (u.capture slot x) := fun u slot x => by
    unfold State.capture
    split
    · exact .refl u
    · split <;> exact .of_bundles rfl
  have delivered : ∀ (u : State) verdict, Seated u (u.deliver k verdict) := fun u verdict => by
    unfold State.deliver
    split
    · exact .refl u
    · next b _ =>
      have counted : Seated u (u.countDelivery b verdict.1) := .modBun u b _ (.of_same rfl rfl rfl rfl rfl)
      exact .ite (counted.trans (.accept ..)) counted
  unfold State.classify
  simp only
  split
  · exact .of_bundles rfl
  · next pos _ =>
    split
    · exact .refl s
    · have hit : Seated s (s.countHit k.port pos) := .of_bundles rfl
      have counted : ∀ (u : State) d, Seated u (u.modRx k.port fun c => c.count d) := fun u d => .of_bundles rfl
      exact ((hit.trans (captured ..)).trans (counted ..)).trans (delivered ..)

theorem Seated.frameTaken (n : NetPort) (rxError : Bool) (bs : List Byte) (s : State) :
    Seated s (frameTaken n rxError bs s) := by
  unfold Machine.frameTaken
  split
  · split
    · exact .of_bundles rfl
    · exact .of_bundles rfl
    · exact .of_bundles rfl
    · exact .of_bundles rfl
    · exact .classify ..
  · exact .of_bundles rfl

/-! ## The timers of a bundle, and requests about one -/

theorem Seated.estimateWaitExpiry (b : BundleId) (s : State) : Seated s (estimateWaitExpiry b s) :=
  .ite (.sameRing s b _) (.refl s)

theorem Seated.alertTimerExpiry (b : BundleId) (s : State) : Seated s (alertTimerExpiry b s) :=
  .ite (.modDelay ..) (.refl s)

theorem Seated.lossTimerExpiry (b : BundleId) (p : Path) (s : State) : Seated s (lossTimerExpiry b p s) := by
  unfold Machine.lossTimerExpiry
  simp only
  split
  · exact .refl s
  · exact .ite ((Seated.postIf ..).trans (.supervise ..)) (.refl s)

theorem Seated.startWaitExpiry (b : BundleId) (s : State) : Seated s (startWaitExpiry b s) := by
  unfold Machine.startWaitExpiry
  simp only
  split
  · exact .refl s
  · exact .ite (.ite ((Seated.modSupervisor s b _).trans (.reportDown ..)) (.modSupervisor s b _)) (.refl s)

theorem Seated.holdOffExpiry (b : BundleId) (s : State) : Seated s (holdOffExpiry b s) :=
  .ite ((Tunes.modSelector s b _).trans (.evaluateSelector ..)).seated (.refl s)

theorem Seated.waitToRestoreExpiry (b : BundleId) (s : State) : Seated s (waitToRestoreExpiry b s) :=
  .ite ((Tunes.modSelector s b _).trans (.evaluateSelector ..)).seated (.refl s)

theorem Seated.mismatchTimerExpiry (b : BundleId) (s : State) : Seated s (mismatchTimerExpiry b s) :=
  .ite ((Tunes.modSelector s b _).trans (.setMismatch ..)).seated (.refl s)

theorem Seated.clearDelayExtremes (cp : CtrlPort) (b p : Nat) (s : State) :
    Seated s (clearDelayExtremes cp b p s) := by
  unfold Machine.clearDelayExtremes
  split
  · exact (Seated.modDelay ..).trans (.decide ..)
  · exact .refuse ..

theorem Seated.adoptPlaying (s : State) (b : BundleId) (target : Nat) : Seated s (s.adoptPlaying b target) := by
  have adjusts : ∀ u : State, Seated u (u.startAdjust b target) := fun u => by
    unfold State.startAdjust
    simp only
    split
    · exact (Seated.sameRing u b fun p => { p with adjust := some ⟨target, 0, none⟩ }).trans (.of_bundles rfl)
    · next a _ =>
      exact (Seated.sameRing u b fun p => { p with adjust := some { a with target := target } }).trans (.of_bundles rfl)
  exact (Seated.modDelay ..).trans (adjusts _)

theorem Seated.applyEqualisation (cp : CtrlPort) (b : Nat) (s : State) :
    Seated s (applyEqualisation cp b s) := by
  unfold Machine.applyEqualisation
  refine .ite (.refuse ..) ?_
  split
  · exact .refuse ..
  · split
    · exact .refuse ..
    · exact ((Seated.modDelay ..).trans (.adoptPlaying ..)).trans (.decide ..)

theorem Seated.pathCommand (cp : CtrlPort) (b req q : Nat) (s : State) : Seated s (pathCommand cp b req q s) := by
  unfold Machine.pathCommand
  refine .ite (.refuse ..) ?_
  split
  · next b request _ _ =>
    have taken : Seated s (s.commandPath b request) :=
      ((Tunes.modSelector s b fun x => { x with request := request }).trans (.evaluateSelector ..)).seated
    exact .ite (.refuse ..) (.ite (.refuse ..) (taken.trans (.decide ..)))
  · exact .refuse ..

/-! ## Commands that leave every bundle -/

theorem Seated.evaluateTiming (s : State) : Seated s s.evaluateTiming := .of_bundles (by rw [s.evaluateTiming_frame])

theorem Seated.setValidity (s : State) (c : Candidate) (v : Bool) : Seated s (s.setValidity c v) :=
  .of_bundles (by rw [s.setValidity_frame])

theorem Seated.measurementWindowEnd (station : Option Int) (lines : Vector Int 8) (s : State) :
    Seated s (measurementWindowEnd station lines s) := by
  have tested : ∀ (u : State) m, Seated u (u.testStation m) := fun u m => by
    unfold State.testStation
    split
    · exact .refl u
    · exact .setValidity ..
  have measured : Seated s (s.endWindow station lines) := by
    have stored : ∀ y : Timing, Seated s { s with timing := y } := fun y => .of_bundles rfl
    unfold State.endWindow
    exact ((stored _).trans (tested ..)).trans (.of_bundles rfl)
  exact .ite measured (.refl s)

theorem Seated.saveReadBack (bs : List Byte) (s : State) : Seated s (saveReadBack bs s) := by
  unfold Machine.saveReadBack
  split
  · exact .refl s
  · exact .ite (.of_bundles rfl) (.of_bundles rfl)

theorem Seated.saveTimeout (s : State) : Seated s (saveTimeout s) := by
  unfold Machine.saveTimeout
  split
  · exact .refl s
  · exact .ite (.of_bundles rfl) (.refl s)

theorem Seated.timingConfig (cp : CtrlPort) (raw : Vector RawPriority 9) (s : State) :
    Seated s (timingConfig cp raw s) := by
  unfold Machine.timingConfig
  have configured : Seated s { s with timing := s.timing.configure raw } := .of_bundles rfl
  exact .ite (.refuse ..) (.ite (.refuse ..) ((configured.trans (.evaluateTiming _)).trans (.decide ..)))

theorem Seated.timingCommand (cp : CtrlPort) (mode c : Nat) (s : State) :
    Seated s (timingCommand cp mode c s) := by
  unfold Machine.timingCommand
  refine .ite (.refuse ..) (.ite (.refuse ..) ?_)
  split
  · exact .refuse ..
  · next m _ =>
    have commanded : Seated s { s with timing := { s.timing with mode := m } } := .of_bundles rfl
    exact (commanded.trans (.evaluateTiming _)).trans (.decide ..)

theorem Seated.editList (s : State) (cp : CtrlPort) (kind port : Nat)
    (edit : List ListEntry → Except Status (List ListEntry)) : Seated s (s.editList cp kind port edit) := by
  unfold State.editList
  refine .ite (.refuse ..) ?_
  split
  · exact .refuse ..
  · refine .ite (.refuse ..) ?_
    split
    · exact .refuse ..
    · exact .of_bundles rfl

theorem Seated.captureArm (cp : CtrlPort) (slot : Nat) (s : State) : Seated s (captureArm cp slot s) := by
  unfold Machine.captureArm
  split
  · exact .refuse ..
  · exact .of_bundles rfl

theorem Seated.writeSettings (cp : CtrlPort) (raw : RawSettings) (s : State) :
    Seated s (writeSettings cp raw s) := by
  unfold Machine.writeSettings
  refine .ite (.refuse ..) (.ite (.refuse ..) ?_)
  split
  · exact .refuse ..
  · exact .of_bundles rfl

theorem Seated.requestWrite (cp : CtrlPort) (bs : List Byte) (s : State) : Seated s (requestWrite cp bs s) := by
  unfold Machine.requestWrite
  simp only
  split <;> exact .of_bundles rfl

theorem Seated.responsePrepared (cp : CtrlPort) (s : State) : Seated s (responsePrepared cp s) := by
  unfold Machine.responsePrepared
  simp only
  split
  · exact .ite (.of_bundles rfl) (.refl s)
  · exact .refl s

theorem Seated.reading_exec {c : Instr} {s t : State} {cp : CtrlPort} {kind : Nat} {found : Bool}
    (reads : reading c = some (cp, kind, found)) (h : exec c s = .next t) : Seated s t := by
  obtain ⟨work, exec, decides⟩ := exec_reading reads
  obtain ⟨content, e, -⟩ := decides s
  rw [exec] at h
  have seated : Seated s (work s) := e ▸ .decide ..
  exact Host.Outcome.next.inj h ▸ .handOver cp c seated

/-- The quiet commands take no record. -/
theorem Seated.quiet_exec {c : Instr} {s t : State} (quiet : c.quiet = true) (h : exec c s = .next t) :
    Seated s t := by
  cases c with
  | openEdit | closeEdit | writePending | activate | free | tribConfig | readEvents | warmReset | fullReset
  | imageLoad | lossOfSignal | receiveClockTimeout | recoveryBlockBegins | recoveryBlockComplete
  | aisBlockComplete | alignmentFound | alignmentWord | nonAlignmentWord | transmitFrameStart
  | activationTakesEffect | linkIndicationLost | linkQualificationExpiry | recordPatrol | idleTimerExpiry =>
    cases quiet
  | requestWrite cp bs => cases h; exact .requestWrite ..
  | responseRead cp piece => cases h; exact .of_bundles rfl
  | transferIgnored cp dir n => cases h; exact .ite (.refl s) (.of_bundles rfl)
  | responsePrepared cp => cases h; exact .responsePrepared ..
  | readIdentity cp => exact .reading_exec rfl h
  | readSettings cp => exact .reading_exec rfl h
  | readBundle cp b copy => exact .reading_exec rfl h
  | readPlayout cp b => exact .reading_exec rfl h
  | readDelay cp b p => exact .reading_exec rfl h
  | readPath cp b => exact .reading_exec rfl h
  | listRead cp n => exact .reading_exec rfl h
  | captureRead cp c => exact .reading_exec rfl h
  | tribStatus cp p => exact .reading_exec rfl h
  | portStatus cp n => exact .reading_exec rfl h
  | timingStatus cp => exact .reading_exec rfl h
  | readFaults cp => exact .reading_exec rfl h
  | writeSettings cp raw => cases h; exact .handOver cp _ (.writeSettings ..)
  | clearDelayExtremes cp b p => cases h; exact .handOver cp _ (.clearDelayExtremes ..)
  | applyEqualisation cp b => cases h; exact .handOver cp _ (.applyEqualisation ..)
  | pathCommand cp b req q => cases h; exact .handOver cp _ (.pathCommand ..)
  | listInsert cp n i x => cases h; exact .handOver cp _ (.editList ..)
  | listRemove cp n i => cases h; exact .handOver cp _ (.editList ..)
  | listReplace cp n i x => cases h; exact .handOver cp _ (.editList ..)
  | captureArm cp c => cases h; exact .handOver cp _ (.captureArm ..)
  | timingConfig cp x => cases h; exact .handOver cp _ (.timingConfig ..)
  | timingCommand cp m c => cases h; exact .handOver cp _ (.timingCommand ..)
  | clearFaults cp => cases h; exact .handOver cp _ (.of_bundles rfl)
  | saveImage cp =>
    cases h
    exact .handOver cp _ (.ite (.refuse ..) (.ite (.refuse ..) (.of_bundles rfl)))
  | start cp b => cases h; exact .handOver cp _ (.start ..)
  | stop cp b => cases h; exact .handOver cp _ (.stop ..)
  | memoryReadyTimeout => cases h; exact .ite (.of_bundles rfl) (.refl s)
  | saveReadBack bs => cases h; exact .saveReadBack ..
  | saveTimeout => cases h; exact .saveTimeout s
  | receiveFrame r bs => exact Host.Outcome.next.inj h ▸ .receiveFrame ..
  | playoutStart b => cases h; exact .playoutStart ..
  | adjustStep b => cases h; exact .adjustStepCommand ..
  | steeringIntervalEnd p => cases h; exact .of_bundles rfl
  | linkIndicationAppears n => cases h; exact .ite (.refl s) (.of_bundles rfl)
  | frameTaken n fcs err bs => cases h; exact .frameTaken ..
  | frameSent n =>
    cases h
    unfold Machine.frameSent
    split
    · exact .of_bundles rfl
    · exact .refl s
  | interFrameGapEnd n => cases h; exact .interFrameGapEnd ..
  | estimateWaitExpiry b => cases h; exact .estimateWaitExpiry ..
  | alertTimerExpiry b => cases h; exact .alertTimerExpiry ..
  | lossTimerExpiry b p => cases h; exact .lossTimerExpiry ..
  | startWaitExpiry b => cases h; exact .startWaitExpiry ..
  | holdOffExpiry b => cases h; exact .holdOffExpiry ..
  | waitToRestoreExpiry b => cases h; exact .waitToRestoreExpiry ..
  | mismatchTimerExpiry b => cases h; exact .mismatchTimerExpiry ..
  | stationActivityLoss => 
    cases h
    have lost : Seated s { s with timing := { s.timing with stationGap := true } } := .of_bundles rfl
    exact lost.trans (.setValidity ..)
  | measurementWindowEnd station lines => cases h; exact .measurementWindowEnd ..
  | qualifyTimerExpiry c =>
    cases h
    exact .ite (.of_bundles (by rw [State.setCandidate_frame])) (.refl s)

end Sys2Proof.Machine
end

section
/-!
What the classes of change leave of a bundle (R29 to R33), the transmit side that gives up its packets (R49, R53), and
O43.
-/

namespace Sys2Proof.Machine

open Safety

/-! ## The mismatch flag (R146) -/

/-- The flag set or cleared: a change is posted and a setting counted (R146). -/
theorem State.setMismatch_spec (s : State) (b : BundleId) (flag : Bool) :
    let x := (s.bun b).supervisor.selector
    (s.setMismatch b flag).bun b = { s.bun b with supervisor := { (s.bun b).supervisor with selector := { x with
      mismatch := flag
      mismatches := if flag = true ∧ x.mismatch = false then bump x.mismatches else x.mismatches } } } ∧
    Posts s (s.setMismatch b flag) (if flag = x.mismatch then [] else
      [eventNow s .pathMismatch (.bundle b)
        (flag.toNat * 2147483648 + x.active.code * 256 + announcementCode x.announcement)]) := by
  intro x
  unfold State.setMismatch
  simp only
  change (if x.mismatch = flag then s else _).bun b = _ ∧ Posts s (if x.mismatch = flag then s else _) _
  split
  · next same =>
    refine ⟨?_, by rw [if_pos same.symm]; exact .refl s⟩
    rw [if_neg (by rintro ⟨rfl, off⟩; rw [same] at off; cases off), ← same]
  · next ne =>
    rw [if_neg (Ne.symm ne)]
    refine ⟨?_, Posts.trans (.of_ctrls rfl) (Posts.post (s.modSelector b _) .pathMismatch (.bundle b) _)⟩
    unfold State.modSelector
    rw [State.bun_post, State.bun_modSupervisor_self]
    cases flag with
    | false => simp [x]
    | true =>
      have off : x.mismatch = false := by simpa using ne
      simp [x, off]

/-! ## The transmit side gives up what it holds (R49, R53) -/

theorem State.net_withdraw (s : State) (b : BundleId) (n : NetPort) :
    (s.withdraw b).net n = (s.net n).withdraw b := by cases n <;> rfl

/-- A queue from which a bundle's entries have been withdrawn holds none of them. -/
theorem nothingQueued_of_withdraw {s t : State} {b : BundleId} (h : t.nets = (s.withdraw b).nets) :
    NothingQueued t b := fun n e mem => by
  have net : t.net n = (s.net n).withdraw b := by rw [← State.net_withdraw]; simp only [State.net, h]
  rw [net] at mem
  simp only [Net.withdraw, Net.without, List.mem_append, List.mem_filter, Bool.not_eq_true', beq_eq_false_iff_ne] at mem
  exact mem.elim (·.elim (·.2) (·.2)) (·.2)

theorem State.bun_restartAssembly (s : State) (b : BundleId) :
    (s.restartAssembly b).bun b = { s.bun b with assembly := .start } := by
  unfold State.restartAssembly State.withdraw
  simp only [State.bun_modAssembly_self]
  rfl

theorem State.nets_restartAssembly (s : State) (b : BundleId) : (s.restartAssembly b).nets = (s.withdraw b).nets := rfl

theorem Local.nets {b : BundleId} {s t : State} (h : Local b s t) : t.nets = s.nets := by rw [h.rest]

theorem Local.startPaths (s : State) (b : BundleId) (r : Record) : Local b s (s.startPaths b r) := .modSupervisor ..

/-! ## The table entry of a record that takes effect (R29) -/

/-- A bundle that has just taken record `r` with a ring of `size` slots, its blocks as they were. -/
def Bundle.recorded (x : Bundle) (r : Record) (size : Nat) : Bundle :=
  { x with
    active := some r, pending := r, check := Config.checkWord r, recordFault := false, ringSize := size, armed := none }

theorem State.bun_recorded_self (s : State) (b : BundleId) (r : Record) (size : Nat) :
    (s.recorded b r size).bun b = (s.bun b).recorded r size := by rw [State.bun_recorded, if_pos rfl]; rfl

/-- Class NEW: every block at its start, the state of R30. -/
def Bundle.begun (x : Bundle) (r : Record) (size : Nat) (paths : Supervisor) : Bundle :=
  { x.recorded r size with
    state := startState r, playout := .fresh size, assembly := .start, delay := .zero, supervisor := paths }

/-- Class RESTART: every block at its start, in FILLING (R31). -/
def Bundle.restarted (x : Bundle) (r : Record) (size : Nat) (timer : Timer) : Bundle :=
  { x.recorded r size with
    state := .filling
    playout := .fresh size
    assembly := .start
    delay := x.delay.clear true
    supervisor := .started r timer }

/-- Class REBUILT: a new ring and cleared records, the state as it was (R32). -/
def Bundle.rebuilt (x : Bundle) (r : Record) (size : Nat) : Bundle :=
  { x.recorded r size with
    playout := x.playout.allocate size false, delay := x.delay.clear true, supervisor := .restart r }

theorem Bundle.begun_cleared (x : Bundle) (r : Record) (size : Nat) (paths : Supervisor) :
    (x.begun r size paths).Cleared := ⟨by change startState r ≠ _; unfold startState; split <;> exact nofun, rfl, rfl⟩

theorem Bundle.restarted_cleared (x : Bundle) (r : Record) (size : Nat) (timer : Timer) :
    (x.restarted r size timer).Cleared := ⟨nofun, rfl, rfl⟩

theorem Bundle.rebuilt_cleared {x : Bundle} (h : x.state.running = false) (r : Record) (size : Nat) :
    (x.rebuilt r size).Cleared :=
  ⟨fun playing => absurd (show x.state.running = true by rw [show x.state = _ from playing]; rfl) (by simp [h]),
    rfl, rfl⟩

/-! ## The classes (Table 12) -/

/-- The effect of a class of change once the record stands in its entry (R30 to R33). -/
def State.effectOf (s : State) (b : BundleId) (r : Record) (size : Nat) : ChangeClass → State
  | .new => (s.recorded b r size).effectNew b r size
  | .restart => (s.recorded b r size).effectRestart b r size
  | .rebuilt => (s.recorded b r size).effectRebuilt b r size
  | .inPlace => (s.recorded b r size).effectInPlace b ((s.bun b).active.getD r) r

theorem State.takeEffect_of_class {s : State} {b : BundleId} {r : Record} {cls : ChangeClass}
    (h : (s.bun b).changeClass r = cls) (size : Nat) :
    s.takeEffect b r size = (s.effectOf b r size cls).post .bundleActivated (.bundle b) cls.code := by
  subst h
  unfold State.takeEffect
  simp only
  generalize (s.bun b).changeClass r = cls
  cases cls <;> rfl

theorem bun_takeEffect_new {s : State} {b : BundleId} (h : (s.bun b).active = none) (r : Record) (size : Nat) :
    (s.takeEffect b r size).bun b = ((s.bun b).begun r size
      (if r.autoStart then .started r (s.afterMs r.lossTime) else .restart r)).retargeted := by
  have readied : (s.readied b r size).bun b = { (s.bun b).begun r size
      (if r.autoStart then .started r (s.afterMs r.lossTime) else .restart r) with state := (s.bun b).state } := by
    unfold State.readied State.startPaths State.modSupervisor
    simp only
    split
    · rw [State.bun_modBun_self, State.bun_modBun_self, State.bun_recorded_self]; rfl
    · rw [State.bun_modBun_self, State.bun_recorded_self]; rfl
  have changed := (s.readied b r size).bun_changeState b (startState r) .activated
  rw [readied] at changed
  rw [State.takeEffect_new h, State.bun_post,
    (State.computeTarget_cleared (by rw [changed]; exact Bundle.begun_cleared ..)).2.1, if_pos rfl, changed]
  rfl

theorem State.bun_restartBlocks (s : State) (b : BundleId) (r : Record) (size : Nat) :
    (s.restartBlocks b r size).bun b = { s.bun b with
      playout := .fresh size
      assembly := .start
      delay := (s.bun b).delay.clear true
      supervisor := .started r (s.afterMs r.lossTime) } := by
  have stocked : ((s.postAbandoned b).modPlayout b fun p => p.allocate size true).bun b =
      { s.bun b with playout := .fresh size } := by
    unfold State.postAbandoned
    rw [State.bun_modPlayout_self, State.bun_postIf]
    rfl
  unfold State.restartBlocks
  have now : ∀ u : State, (u.setMismatch b false).now = u.now := fun u => by rw [(Local.setMismatch u b false).rest]
  have timer : ∀ u : State, (u.setMismatch b false).afterMs r.lossTime = u.afterMs r.lossTime := fun u => by
    simp only [State.afterMs, State.afterTicks, now]
  have same : ((((s.postAbandoned b).modPlayout b fun p => p.allocate size true).restartAssembly b).modDelay b
      fun d => d.clear true).afterMs r.lossTime = s.afterMs r.lossTime := by
    unfold State.postAbandoned State.postIf
    split <;> rfl
  unfold State.startPaths
  rw [State.bun_modSupervisor_self, timer, same, (State.setMismatch_spec ..).1, State.bun_modDelay_self,
    State.bun_restartAssembly, stocked]

/-- A bundle restarted, its target not yet computed: its change of state comes where it is not FILLING already
(R31). -/
def State.restarted (s : State) (b : BundleId) (r : Record) (size : Nat) : State :=
  let u := (s.recorded b r size).restartBlocks b r size
  if (u.bun b).state = .filling then u else u.changeState b .filling .restart

theorem bun_restarted (s : State) (b : BundleId) (r : Record) (size : Nat) :
    (s.restarted b r size).bun b = (s.bun b).restarted r size (s.afterMs r.lossTime) := by
  have blocks := (s.recorded b r size).bun_restartBlocks b r size
  rw [State.bun_recorded_self] at blocks
  unfold State.restarted
  simp only
  split
  · next filling =>
    rw [blocks] at filling ⊢
    change (s.bun b).state = .filling at filling
    unfold Bundle.restarted Bundle.recorded
    rw [← filling]
    rfl
  · rw [State.bun_changeState, blocks]; rfl

theorem takeEffect_restart {s : State} {b : BundleId} {r : Record} (h : (s.bun b).changeClass r = .restart)
    (size : Nat) : s.takeEffect b r size =
      ((s.restarted b r size).computeTarget b).post .bundleActivated (.bundle b) 1 := by
  rw [State.takeEffect_of_class h]; rfl

theorem bun_takeEffect_restart {s : State} {b : BundleId} {r : Record} (h : (s.bun b).changeClass r = .restart)
    (size : Nat) :
    (s.takeEffect b r size).bun b = ((s.bun b).restarted r size (s.afterMs r.lossTime)).retargeted := by
  rw [takeEffect_restart h, State.bun_post,
    (State.computeTarget_cleared (by rw [bun_restarted]; exact Bundle.restarted_cleared ..)).2.1, if_pos rfl,
    bun_restarted]

theorem bun_takeEffect_rebuilt {s : State} {b : BundleId} {r : Record} (h : (s.bun b).changeClass r = .rebuilt)
    (idle : (s.bun b).state.running = false) (size : Nat) :
    (s.takeEffect b r size).bun b = ((s.bun b).rebuilt r size).retargeted := by
  have blocks : ((((s.recorded b r size).modPlayout b fun p => p.allocate size false).modDelay b fun d =>
      d.clear true).modSupervisor b fun _ => .restart r).bun b = (s.bun b).rebuilt r size := by
    rw [State.bun_modSupervisor_self, State.bun_modDelay_self, State.bun_modPlayout_self, State.bun_recorded_self]
    rfl
  rw [State.takeEffect_of_class h, State.bun_post]
  unfold State.effectOf State.effectRebuilt
  simp only
  rw [(State.computeTarget_cleared (by rw [blocks]; exact Bundle.rebuilt_cleared idle ..)).2.1, if_pos rfl, blocks]

/-- Class IN_PLACE: at most a proposal dropped, then target computations and an evaluation (R33). -/
theorem takeEffect_inPlace {s : State} {b : BundleId} {r : Record} (h : (s.bun b).changeClass r = .inPlace)
    (size : Nat) : ∃ u : State, Local b (s.recorded b r size) u ∧
      (∃ d, u.bun b = { (s.bun b).recorded r size with delay := { (s.bun b).delay with proposed := d } }) ∧
      Tunes b u (s.takeEffect b r size) := by
  have waits : ∀ v : State, Tunes b v (v.endFixedWait b r) := fun v =>
    .ite (.endEstimateWait ..) (.refl ..)
  have rest : ∀ v : State, Tunes b v (((v.endFixedWait b r).evaluateSelector b .none).post .bundleActivated
      (.bundle b) 3) := fun v => ((waits v).trans (.evaluateSelector ..)).trans (.post ..)
  rw [State.takeEffect_of_class h]
  unfold State.effectOf State.effectInPlace
  simp only
  split
  · exact ⟨s.recorded b r size, .refl .., ⟨(s.bun b).delay.proposed, by rw [State.bun_recorded_self]; rfl⟩, rest _⟩
  · refine ⟨(s.recorded b r size).dropProposal b, .modDelay .., ⟨none, ?_⟩, (Tunes.computeTarget ..).trans (rest _)⟩
    unfold State.dropProposal
    rw [State.bun_modDelay_self, State.bun_recorded_self]
    rfl

end Sys2Proof.Machine
end

section
/-! Activations by their class of change (R29 to R33, Table 12): O43. -/

namespace Sys2Proof.Machine

open Safety

/-! ## Hard fields (Table 10, Table 12) -/

/-- Two slot sets are the same set exactly when both are ALL or neither, and they hold the same slots. -/
theorem SlotSet.sorted_eq_iff {x y : SlotSet} : x.sorted = y.sorted ↔
    (x = .all ↔ y = .all) ∧ ∀ n, n < 32 → (n ∈ x.toList ↔ n ∈ y.toList) := by
  cases x with
  | all => cases y with
    | all => simp
    | list ys => simp [SlotSet.sorted]
  | list xs => cases y with
    | all => simp [SlotSet.sorted]
    | list ys =>
      simp only [SlotSet.sorted, SlotSet.list.injEq, SlotSet.toList, reduceCtorEq, true_and]
      constructor
      · intro h n lt
        have mem : n ∈ (List.range 32).filter (fun n => xs.contains n) ↔
            n ∈ (List.range 32).filter (fun n => ys.contains n) := by rw [h]
        simpa [lt] using mem
      · intro h
        refine List.filter_congr fun n mem => ?_
        rw [Bool.eq_iff_iff]
        simpa using h n (List.mem_range.1 mem)

/-- The model's comparison of records is the one of Table 12. -/
theorem sameHard_iff {x y : Record} : sameHard x y = true ↔ HardSame x y := by
  unfold sameHard
  simp only [Bool.and_eq_true, beq_iff_eq]
  constructor
  · rintro ⟨⟨⟨⟨⟨⟨⟨port, slots⟩, fpp⟩, tx⟩, rx⟩, mode⟩, map⟩, depth⟩
    obtain ⟨all, members⟩ := SlotSet.sorted_eq_iff.1 slots
    exact ⟨port, all, members, fpp, ⟨tx, rx⟩, ⟨mode, map⟩, depth⟩
  · rintro ⟨port, all, members, fpp, ⟨tx, rx⟩, ⟨mode, map⟩, depth⟩
    exact ⟨⟨⟨⟨⟨⟨⟨port, SlotSet.sorted_eq_iff.2 ⟨all, members⟩⟩, fpp⟩, tx⟩, rx⟩, mode⟩, map⟩, depth⟩

theorem Bundle.changeClass_new {x : Bundle} (h : x.active = none) (r : Record) : x.changeClass r = .new := by
  unfold Bundle.changeClass; rw [h]

theorem Bundle.changeClass_hard {x : Bundle} {old r : Record} (h : x.active = some old) (hard : ¬ HardSame old r) :
    x.changeClass r = if x.state.running then .restart else .rebuilt := by
  unfold Bundle.changeClass
  rw [h]
  exact if_neg fun same => hard (sameHard_iff.1 same)

theorem Bundle.changeClass_inPlace {x : Bundle} {old r : Record} (h : x.active = some old) (same : HardSame old r) :
    x.changeClass r = .inPlace := by
  unfold Bundle.changeClass
  rw [h]
  exact if_pos (sameHard_iff.2 same)

/-! ## Blocks at their start values (R119, R150) -/

theorem delayCleared_clear (d : Delay) (zero : Bool) : DelayCleared (d.clear zero) := by
  refine ⟨fun p => by cases p <;> rfl, fun p => ?_, rfl, rfl⟩
  cases zero <;> cases p <;> rfl

theorem delayCleared_zero : DelayCleared .zero :=
  ⟨fun p => by cases p <;> rfl, fun p => by cases p <;> rfl, rfl, rfl⟩

/-- A target computation of a cleared bundle leaves its delay records cleared. -/
theorem delayCleared_retargeted {x : Bundle} (h : DelayCleared x.delay) : DelayCleared x.retargeted.delay := by
  obtain ⟨echo, record, proposed, alert⟩ := x.retargeted_delay
  exact ⟨fun p => by rw [echo]; exact h.echo p, fun p => by rw [record]; exact h.tracking p,
    proposed.trans h.proposed, alert.trans h.alert⟩

theorem Bundle.retargeted_frame (x : Bundle) : x.retargeted = { x with delay := x.retargeted.delay } := by
  unfold Bundle.retargeted
  split <;> rfl

theorem pathsFresh_restart (r : Record) : PathsFresh (.restart r) r :=
  ⟨fun p => by cases p <;> exact ⟨rfl, rfl⟩, rfl, rfl, rfl, rfl, rfl, rfl, rfl⟩

theorem pathsFresh_started (r : Record) (timer : Timer) : PathsFresh (.started r timer) r :=
  ⟨fun p => by cases p <;> exact ⟨rfl, rfl⟩, rfl, rfl, rfl, rfl, rfl, rfl, rfl⟩

theorem State.afterMs_eq (s : State) (ms : Nat) : s.afterMs ms = some (s.now + ms * 125000) := rfl

theorem pathsTimed_started (s : State) (r : Record) : PathsTimed s (.started r (s.afterMs r.lossTime)) r :=
  ⟨rfl, fun p => by cases p <;> rfl⟩

theorem ringEmpty_fresh (size : Nat) : RingEmpty (.fresh size) size := ⟨rfl, rfl, rfl, rfl⟩

theorem ringEmpty_allocate (p : Playout) (size : Nat) (zero : Bool) : RingEmpty (p.allocate size zero) size := by
  cases zero <;> exact ⟨rfl, rfl, rfl, rfl⟩

/-! ## The table entry, whatever the class -/

theorem takeEffect_entry (s : State) (b : BundleId) (r : Record) (size : Nat) :
    let y := (s.takeEffect b r size).bun b
    y = { (s.bun b).recorded r size with
      state := y.state, assembly := y.assembly, playout := y.playout, delay := y.delay, supervisor := y.supervisor } := by
  intro y
  cases active : (s.bun b).active with
  | none =>
    have own : y = _ := bun_takeEffect_new active r size
    rw [Bundle.retargeted_frame] at own
    rw [own]; rfl
  | some old =>
    by_cases same : HardSame old r
    · obtain ⟨u, -, ⟨d, own⟩, tunes⟩ := takeEffect_inPlace (Bundle.changeClass_inPlace active same) size
      obtain ⟨active', pending, armed, check, fault, ring, -, delivery, -⟩ := tunes.within.table
      rw [own] at active' pending armed check fault ring delivery
      change y.active = _ at active'
      change y.pending = _ at pending
      change y.armed = _ at armed
      change y.check = _ at check
      change y.recordFault = _ at fault
      change y.ringSize = _ at ring
      change y.delivery = _ at delivery
      clear_value y
      cases y
      simp_all
    · have cls := Bundle.changeClass_hard active same
      cases running : (s.bun b).state.running with
      | true =>
        have own : y = _ := bun_takeEffect_restart (by rw [cls, running]; rfl) size
        rw [Bundle.retargeted_frame] at own
        rw [own]; rfl
      | false =>
        have own : y = _ := bun_takeEffect_rebuilt (by rw [cls, running]; rfl) running size
        rw [Bundle.retargeted_frame] at own
        rw [own]; rfl

/-- An activation releases the claim of its bundle and no other (R29 step 4). -/
theorem holder_takeEffect (s : State) (b : BundleId) (r : Record) (size : Nat) (c : Machine.Section) :
    (s.takeEffect b r size).holder c = if c = .bundle b then none else s.holder c := by
  have claims := (Retold.takeEffect s b r size).quiet.claims
  have own : (s.takeEffect b r size).holder c = (s.setHolder (.bundle b) none).holder c := by
    unfold State.holder; rw [claims]; rfl
  rw [own]
  split
  · next e => rw [e, State.holder_setHolder_self]
  · next e => rw [State.holder_setHolder_ne _ _ e]

/-- An activation is posted with its class (R29 step 6). -/
theorem reported_bundleActivated (s : State) (b : BundleId) (r : Record) (size : Nat) :
    Reported (s.takeEffect b r size)
      (eventNow s .bundleActivated (.bundle b) ((s.bun b).changeClass r).code) := by
  have now := (Retold.takeEffect s b r size).quiet.hush.now
  rw [State.takeEffect_of_class rfl] at now ⊢
  rw [← eventNow_of_now (s := s) (t := s.effectOf b r size ((s.bun b).changeClass r)) now]
  exact reported_post _ _ _ _

/-! ## What each class leaves (R30 to R33) -/

/-- A bundle's first record: every block at its start, STOPPED or FILLING (R30). -/
theorem takeEffect_new_spec {s : State} {b : BundleId} (h : (s.bun b).active = none) (r : Record) (size : Nat) :
    let y := (s.takeEffect b r size).bun b
    y.state = (if r.autoStart then .filling else .stopped) ∧ RingEmpty y.playout size ∧ y.assembly = .start ∧
      DelayCleared y.delay ∧ PathsFresh y.supervisor r ∧ (r.autoStart = true → PathsTimed s y.supervisor r) ∧
      Reported (s.takeEffect b r size) (bundleStateEvent s b (s.bun b).state y.state .activated) := by
  intro y
  have own : y = _ := bun_takeEffect_new h r size
  have posts := (NewlyActive.takeEffect h r size).posts.reported List.mem_cons_self
  rw [Bundle.retargeted_frame] at own
  have cleared := delayCleared_retargeted (x := (s.bun b).begun r size
    (if r.autoStart then .started r (s.afterMs r.lossTime) else .restart r)) delayCleared_zero
  refine ⟨by rw [own]; rfl, by rw [own]; exact ringEmpty_fresh size, by rw [own]; rfl, by rw [own]; exact cleared, ?_,
    fun auto => ?_, posts⟩
  · rw [own]
    change PathsFresh (if r.autoStart then _ else _) r
    split
    · exact pathsFresh_started ..
    · exact pathsFresh_restart r
  · rw [own]
    change PathsTimed s (if r.autoStart then _ else _) r
    rw [if_pos auto]
    exact pathsTimed_started s r

/-- A hard change of a running bundle: everything afresh, in FILLING (R31). -/
theorem takeEffect_restart_spec {s : State} {b : BundleId} {r : Record} (h : (s.bun b).changeClass r = .restart)
    (size : Nat) :
    let y := (s.takeEffect b r size).bun b
    y.state = .filling ∧ RingEmpty y.playout size ∧ y.assembly = .start ∧ NothingQueued (s.takeEffect b r size) b ∧
      DelayCleared y.delay ∧ PathsFresh y.supervisor r ∧ PathsTimed s y.supervisor r ∧
      ((s.bun b).state ≠ .filling →
        Reported (s.takeEffect b r size) (bundleStateEvent s b (s.bun b).state .filling .restart)) := by
  intro y
  have own : y = _ := bun_takeEffect_restart h size
  rw [Bundle.retargeted_frame] at own
  have cleared := delayCleared_retargeted (x := (s.bun b).restarted r size (s.afterMs r.lossTime))
    (delayCleared_clear ..)
  have withdrawn : ∃ u : State, (s.takeEffect b r size).nets = (u.withdraw b).nets := by
    have started : ∀ v : State, Local b (v.restartAssembly b)
        ((((v.restartAssembly b).modDelay b fun d => d.clear true).setMismatch b false).startPaths b r) := fun v =>
      ((Local.modDelay ..).trans (.setMismatch ..)).trans (.startPaths ..)
    refine ⟨((s.recorded b r size).postAbandoned b).modPlayout b fun p => p.allocate size true, ?_⟩
    have restarted := (started (((s.recorded b r size).postAbandoned b).modPlayout b fun p => p.allocate size true)).trans
      (.ite (c := (((s.recorded b r size).restartBlocks b r size).bun b).state = .filling) (.refl ..)
        (.changeState _ b .filling .restart))
    rw [takeEffect_restart h]
    exact ((restarted.trans (.computeTarget ..)).trans (.post ..)).nets
  refine ⟨by rw [own]; rfl, by rw [own]; exact ringEmpty_fresh size, by rw [own]; rfl, ?_, by rw [own]; exact cleared,
    by rw [own]; exact pathsFresh_started .., by rw [own]; exact pathsTimed_started .., fun state => ?_⟩
  · obtain ⟨u, nets⟩ := withdrawn
    exact nothingQueued_of_withdraw nets
  · have calm := (Calm.restartBlocks (s.recorded b r size) b r size)
    have before : (((s.recorded b r size).restartBlocks b r size).bun b).state = (s.bun b).state :=
      (calm.states b).trans (s.state_recorded b b r size)
    have posted := (Posts.changeState ((s.recorded b r size).restartBlocks b r size) b .filling .restart).reported
      (List.mem_singleton_self _)
    rw [before, bundleStateEvent, eventNow_of_now (s := s) calm.quiet.hush.now] at posted
    have after : s.restarted b r size = ((s.recorded b r size).restartBlocks b r size).changeState b .filling .restart :=
      if_neg (by rw [before]; exact state)
    rw [takeEffect_restart h, after]
    exact reported_mono posted ((Calm.computeTarget ..).trans (.post ..)).quiet.hush.queues

/-- A hard change of a STOPPED bundle: a new ring and cleared records (R32). -/
theorem takeEffect_rebuilt_spec {s : State} {b : BundleId} {r : Record} (h : (s.bun b).changeClass r = .rebuilt)
    (idle : (s.bun b).state.running = false) (size : Nat) :
    let y := (s.takeEffect b r size).bun b
    y.state = (s.bun b).state ∧ RingEmpty y.playout size ∧ DelayCleared y.delay ∧ PathsFresh y.supervisor r ∧
      y.supervisor.startWait = none ∧ (s.takeEffect b r size).nets = s.nets := by
  intro y
  have own : y = _ := bun_takeEffect_rebuilt h idle size
  rw [Bundle.retargeted_frame] at own
  have cleared := delayCleared_retargeted (x := (s.bun b).rebuilt r size) (delayCleared_clear ..)
  refine ⟨by rw [own]; rfl, by rw [own]; exact ringEmpty_allocate .., by rw [own]; exact cleared,
    by rw [own]; exact pathsFresh_restart r, by rw [own]; rfl, ?_⟩
  rw [State.takeEffect_of_class h]
  exact ((Local.computeTarget ((((s.recorded b r size).modPlayout b fun p => p.allocate size false).modDelay b fun d =>
    d.clear true).modSupervisor b fun _ => .restart r) b).trans (.post ..)).nets

/-- No hard field changed: the ring, the assembly, the delay records and the path records stay (R33). -/
theorem takeEffect_inPlace_spec {s : State} {b : BundleId} {r : Record} (h : (s.bun b).changeClass r = .inPlace)
    (size : Nat) :
    let y := (s.takeEffect b r size).bun b
    y.state = (s.bun b).state ∧ y.playout.ring = (s.bun b).playout.ring ∧ y.playout.head = (s.bun b).playout.head ∧
      y.assembly = (s.bun b).assembly ∧ y.delay.record = (s.bun b).delay.record ∧
      y.delay.echo = (s.bun b).delay.echo ∧ y.supervisor.path = (s.bun b).supervisor.path ∧
      (s.takeEffect b r size).nets = s.nets := by
  intro y
  obtain ⟨u, before, ⟨d, own⟩, tunes⟩ := takeEffect_inPlace h size
  have tuned := tunes.bundle
  have assembly := tunes.within.table.assembly
  rw [own] at tuned assembly
  exact ⟨tuned.state, tuned.store.ring, tuned.store.head, assembly, tuned.record, tuned.echo, tuned.path,
    tunes.within.nets.trans before.nets⟩

/-- Settles O43, class by class. -/
theorem activationsTakeEffectByTheirClass : Obligations.ActivationsTakeEffectByTheirClass := by
  intro s b
  refine ⟨fun idle => ?_, fun R r x cls hx armed pending hcls => ?_⟩
  · change Host.Outcome.next (activationTakesEffect b s) = _
    unfold Machine.activationTakesEffect
    rw [idle]
  · have run : exec (.activationTakesEffect b) s = .next (s.takeEffect b r R) := by
      change Host.Outcome.next (activationTakesEffect b s) = _
      unfold Machine.activationTakesEffect
      rw [hx, armed, pending]
    have effect := Effect.takeEffect s b r R
    have entry := takeEffect_entry s b r R
    have posted := reported_bundleActivated s b r R
    simp only at entry
    subst hx hcls
    have charge : ((s.takeEffect b r R).bun b).poolCharge = R := by rw [entry]; exact Nat.max_zero R
    refine ⟨_, run, effect.rest, effect.others, effect.tribs, holder_takeEffect s b r R, by rw [entry]; rfl,
      by rw [entry]; rfl, by rw [entry]; rfl, by rw [entry]; rfl, by rw [entry]; rfl, charge,
      by rw [entry]; rfl, posted, fun none => ?_, fun old some' hard running => ?_, fun old some' hard idle => ?_,
      fun old some' same => ?_⟩
    · exact ⟨Bundle.changeClass_new none r, takeEffect_new_spec none r R⟩
    · have cls : (s.bun b).changeClass r = .restart := by rw [Bundle.changeClass_hard some' hard, running]; rfl
      exact ⟨cls, takeEffect_restart_spec cls R⟩
    · have cls : (s.bun b).changeClass r = .rebuilt := by rw [Bundle.changeClass_hard some' hard, idle]; rfl
      exact ⟨cls, takeEffect_rebuilt_spec cls idle R⟩
    · have cls := Bundle.changeClass_inPlace some' same
      exact ⟨cls, takeEffect_inPlace_spec cls R⟩

end Sys2Proof.Machine
end

section
/-! The bundle table and the rings through every command (R19, R26, R27, R85): O5 and O7. -/

namespace Sys2Proof.Machine

open Safety

/-! ## The pool (R27) -/

theorem poolSum_le_poolSumWith {s t : State} {b : BundleId} {size : Nat} (others : OtherBundles s t b)
    (own : (t.bun b).poolCharge ≤ max (s.bun b).ringSize size) : t.poolSum ≤ s.poolSumWith b size := by
  refine List.sum_le_sum fun c _ => ?_
  split
  · next e => subst e; exact own
  · next e => rw [others c e]

/-- A ring sized by R26 has 16, 32, 64, 128 or 256 slots. -/
theorem sizeRing_size (r : Record) : (sizeRing r).2 = 16 ∨ (sizeRing r).2 = 32 ∨ (sizeRing r).2 = 64 ∨
    (sizeRing r).2 = 128 ∨ (sizeRing r).2 = 256 := by
  unfold sizeRing ringSizeFor
  simp only
  split
  · simp
  · split
    · simp
    · split
      · simp
      · split
        · simp
        · split <;> simp

theorem ringSize_sizeRing (r : Record) : RingSize (sizeRing r).2 := by
  rcases sizeRing_size r with e | e | e | e | e <;> rw [e] <;> exact .inr (by decide)

/-- A record that passes validation has a ring sized by R26 that fits the pool (R27). -/
theorem validate_sized {s : State} {b : BundleId} {r q : Record} {size : Nat} (h : s.validate b r = .ok (q, size)) :
    RingSize size ∧ s.poolSumWith b size ≤ 4096 := by
  unfold State.validate at h
  simp only at h
  split at h
  · cases h
  · split at h
    · cases h
    · split at h
      · cases h
      · next fits =>
        obtain rfl : (sizeRing (payloadClamp r)).2 = size := congrArg Prod.snd (Except.ok.inj h)
        exact ⟨ringSize_sizeRing _, Nat.not_lt.1 fits⟩

/-! ## What a step keeps of the table and of the rings -/

/-- Of a bundle's rings, what R26 and R85 say. -/
structure RingLaw (x : Bundle) : Prop where
  ring : RingSound x.playout
  size : RingSize x.playout.ring.length
  armed : ∀ n, x.armed = some n → RingSize n

theorem ringsSound_iff {s : State} : RingsSound s ↔ ∀ b, RingLaw (s.bun b) :=
  ⟨fun h b => ⟨h.ring b, h.size b, h.armed b⟩, fun h => ⟨fun b => (h b).ring, fun b => (h b).size, fun b => (h b).armed⟩⟩

/-- A bundle whose table entry stays sound, its pool charge no greater and its rings lawful. -/
structure Ordered (x y : Bundle) : Prop where
  listed : x.Listed → y.Listed
  charge : y.poolCharge ≤ x.poolCharge
  rings : RingLaw x → RingLaw y

theorem Ordered.refl (x : Bundle) : Ordered x x := ⟨id, Nat.le_refl _, id⟩

theorem Seat.ordered {x y : Bundle} (h : Seat x y) : Ordered x y where
  listed := h.listed
  charge := by unfold Bundle.poolCharge; rw [h.ringSize, h.armed]
  rings k := ⟨h.ring k.ring, by rw [h.length]; exact k.size, by rw [h.armed]; exact k.armed⟩

/-- A step that keeps both invariants of the bundles. -/
structure KeepsRings (s t : State) : Prop where
  table : TableSound s → TableSound t
  rings : RingsSound s → RingsSound t

theorem KeepsRings.refl (s : State) : KeepsRings s s := ⟨id, id⟩

theorem KeepsRings.trans {s t u : State} (h : KeepsRings s t) (k : KeepsRings t u) : KeepsRings s u :=
  ⟨k.table ∘ h.table, k.rings ∘ h.rings⟩

theorem KeepsRings.ite {s t u : State} {c : Prop} [Decidable c] (h : KeepsRings s t) (k : KeepsRings s u) :
    KeepsRings s (if c then t else u) := by split <;> assumption

theorem KeepsRings.foldl {α : Type} {f : State → α → State} (h : ∀ s x, KeepsRings s (f s x)) (xs : List α)
    (s : State) : KeepsRings s (xs.foldl f s) := by
  induction xs generalizing s with
  | nil => exact .refl s
  | cons x xs ih => exact (h s x).trans (ih (f s x))

theorem KeepsRings.of_ordered {s t : State} (h : ∀ b, Ordered (s.bun b) (t.bun b)) : KeepsRings s t where
  table k := ⟨fun b => (h b).listed (k.active b), (List.sum_le_sum fun b _ => (h b).charge).trans k.pool⟩
  rings k := ringsSound_iff.2 fun b => (h b).rings (ringsSound_iff.1 k b)

theorem Seated.keepsRings {s t : State} (h : Seated s t) : KeepsRings s t := .of_ordered fun b => (h.seat b).ordered

theorem KeepsRings.of_bundles {s t : State} (h : t.bundles = s.bundles) : KeepsRings s t :=
  (Seated.of_bundles h).keepsRings

theorem KeepsRings.modTrib (s : State) (p : TribId) (f : Trib → Trib) : KeepsRings s (s.modTrib p f) := .of_bundles rfl

theorem KeepsRings.handOver {s : State} (cp : CtrlPort) (i : Instr) {work : State → State}
    (h : KeepsRings s (work s)) : KeepsRings s (s.handOver cp i work) :=
  .ite (.of_bundles rfl) h

/-- One bundle takes a ring of `size` slots that fits the pool. -/
theorem KeepsRings.of_sized {s t : State} {b : BundleId} {size : Nat} (others : OtherBundles s t b)
    (fits : TableSound s → s.poolSumWith b size ≤ 4096)
    (charge : (t.bun b).poolCharge ≤ max (s.bun b).ringSize size)
    (listed : (s.bun b).Listed → (t.bun b).Listed) (rings : RingLaw (s.bun b) → RingLaw (t.bun b)) :
    KeepsRings s t where
  table k := by
    refine ⟨fun c => ?_, (poolSum_le_poolSumWith others charge).trans (fits k)⟩
    by_cases e : c = b
    · subst e; exact listed (k.active c)
    · rw [others c e]; exact k.active c
  rings k := ringsSound_iff.2 fun c => by
    by_cases e : c = b
    · subst e; exact rings (ringsSound_iff.1 k c)
    · rw [others c e]; exact ringsSound_iff.1 k c

/-! ## Activations (R28 to R33) -/

theorem KeepsRings.activate (cp : CtrlPort) (b : Nat) (s : State) : KeepsRings s (activate cp b s) := by
  have refused : ∀ status, KeepsRings s (s.refuse cp kindActivate status) := fun _ => (Seated.refuse ..).keepsRings
  unfold Machine.activate
  refine .ite (refused _) ?_
  split
  · exact refused _
  · next b _ =>
    refine .ite (refused _) (.ite (refused _) ?_)
    split
    · exact refused _
    · next q size valid =>
      obtain ⟨lawful, fits⟩ := validate_sized valid
      have armed : KeepsRings s (s.modBun b fun x => { x with pending := q, armed := some size }) := by
        refine .of_sized (fun _ => State.bun_modBun_ne _ _) (fun _ => fits) ?_ (fun k => ?_) fun k => ?_ <;>
          rw [State.bun_modBun_self]
        · exact Nat.le_refl _
        · exact k
        · exact ⟨k.ring, k.size, fun n e => Option.some.inj e ▸ lawful⟩
      simp only
      exact armed.trans (Seated.decide ..).keepsRings

/-- A record that takes effect leaves its bundle listed: it is in FREE no longer, and nothing sends it there. -/
theorem listed_takeEffect (s : State) (b : BundleId) (r : Record) (size : Nat) (h : (s.bun b).Listed) :
    ((s.takeEffect b r size).bun b).Listed := by
  have entry := takeEffect_entry s b r size
  simp only at entry
  refine .of_some (by rw [entry]; rfl) ?_
  cases active : (s.bun b).active with
  | none =>
    rw [(takeEffect_new_spec active r size).1]
    split <;> exact nofun
  | some old =>
    have state : (s.bun b).state ≠ .free := h.1 (by rw [active]; rfl)
    by_cases same : HardSame old r
    · rw [(takeEffect_inPlace_spec (Bundle.changeClass_inPlace active same) size).1]; exact state
    · have cls := Bundle.changeClass_hard active same
      cases running : (s.bun b).state.running with
      | true => rw [(takeEffect_restart_spec (by rw [cls, running]; rfl) size).1]; exact nofun
      | false => rw [(takeEffect_rebuilt_spec (by rw [cls, running]; rfl) running size).1]; exact state

theorem RingEmpty.sound {p : Playout} {size : Nat} (h : RingEmpty p size) : RingSound p ∧ p.ring.length = size :=
  ⟨.of_empty fun _ m => by rw [h.1] at m; exact (List.mem_replicate.1 m).2, by rw [h.1, List.length_replicate]⟩

/-- It has a ring of the new size, empty, or the ring it had (R30 to R33). -/
theorem ring_takeEffect (s : State) (b : BundleId) (r : Record) (size : Nat) :
    RingEmpty ((s.takeEffect b r size).bun b).playout size ∨
      (((s.takeEffect b r size).bun b).playout.ring = (s.bun b).playout.ring ∧
        ((s.takeEffect b r size).bun b).playout.head = (s.bun b).playout.head) := by
  cases active : (s.bun b).active with
  | none => exact .inl (takeEffect_new_spec active r size).2.1
  | some old =>
    by_cases same : HardSame old r
    · obtain ⟨-, ring, head, -⟩ := takeEffect_inPlace_spec (Bundle.changeClass_inPlace active same) size
      exact .inr ⟨ring, head⟩
    · have cls := Bundle.changeClass_hard active same
      cases running : (s.bun b).state.running with
      | true => exact .inl (takeEffect_restart_spec (by rw [cls, running]; rfl) size).2.1
      | false => exact .inl (takeEffect_rebuilt_spec (by rw [cls, running]; rfl) running size).2.1

theorem ringLaw_takeEffect {s : State} {b : BundleId} {r : Record} {size : Nat} (lawful : RingSize size)
    (h : RingLaw (s.bun b)) : RingLaw ((s.takeEffect b r size).bun b) := by
  have idle : ((s.takeEffect b r size).bun b).armed = none := by
    have entry := takeEffect_entry s b r size
    simp only at entry
    rw [entry]; rfl
  have unarmed : ∀ n, ((s.takeEffect b r size).bun b).armed = some n → RingSize n := by rw [idle]; exact nofun
  rcases ring_takeEffect s b r size with empty | ⟨ring, head⟩
  · obtain ⟨sound, length⟩ := RingEmpty.sound empty
    exact ⟨sound, by rw [length]; exact lawful, unarmed⟩
  · exact ⟨h.ring.of_ring ring head, by rw [ring]; exact h.size, unarmed⟩

theorem charge_takeEffect (s : State) (b : BundleId) (r : Record) (size : Nat) :
    ((s.takeEffect b r size).bun b).poolCharge = size := by
  have entry := takeEffect_entry s b r size
  simp only at entry
  rw [entry]
  exact Nat.max_zero size

theorem KeepsRings.activationTakesEffect (b : BundleId) (s : State) :
    KeepsRings s (activationTakesEffect b s) := by
  unfold Machine.activationTakesEffect
  split
  · exact .refl s
  · next size armed =>
    refine .of_ordered fun c => ?_
    by_cases e : c = b
    · subst e
      refine ⟨listed_takeEffect _ _ _ _, ?_, fun k => ringLaw_takeEffect (k.armed _ armed) k⟩
      rw [charge_takeEffect, Bundle.poolCharge, armed]
      exact Nat.le_max_right ..
    · rw [(Effect.takeEffect s b _ size).others c e]; exact .refl _

theorem KeepsRings.loadRecord (s : State) (b : BundleId) (raw : RawRecord) :
    KeepsRings s (s.loadRecord b raw).1 := by
  have h := s.loadRecord_cases b raw
  generalize s.loadRecord b raw = y at h
  cases h with
  | refused status => exact .of_bundles rfl
  | loaded r clamped q size free stored valid =>
    obtain ⟨lawful, fits⟩ := validate_sized valid
    exact .of_sized (Effect.takeEffect ..).others (fun _ => fits)
      (by rw [charge_takeEffect]; exact Nat.le_max_right ..) (listed_takeEffect _ _ _ _) (ringLaw_takeEffect lawful)

/-! ## Claims, WRITE_PENDING and FREE (R20, R22, R38) -/

/-- A change of pending records alone. -/
theorem Seat.pending {x y : Bundle} (h : y = { x with pending := y.pending }) : Seat x y := by
  rw [h]; exact .of_same rfl rfl rfl rfl rfl

theorem Bundle.returnPending_frame (x : Bundle) : x.returnPending = { x with pending := x.returnPending.pending } := by
  unfold Bundle.returnPending; split <;> rfl

theorem Seated.release (s : State) (sec : Machine.Section) : Seated s (s.release sec) := ⟨fun b => by
  rw [State.bun_release]
  split
  · exact .pending (Bundle.returnPending_frame _)
  · exact .refl _⟩

theorem Seated.openEdit (cp : CtrlPort) (raw : RawSection) (s : State) : Seated s (openEdit cp raw s) := by
  unfold Machine.openEdit
  refine .ite (.refuse ..) ?_
  split
  · exact .refuse ..
  · exact .ite (.refuse ..) (.of_bundles rfl)

theorem Seated.closeEdit (cp : CtrlPort) (raw : RawSection) (s : State) : Seated s (closeEdit cp raw s) := by
  unfold Machine.closeEdit
  refine .ite (.refuse ..) ?_
  split
  · exact .refuse ..
  · exact .ite (.refuse ..) (.ite (.refuse ..) ((Seated.release ..).trans (.decide ..)))

theorem Seated.idleTimerExpiry (cp : CtrlPort) (s : State) : Seated s (idleTimerExpiry cp s) := by
  have stopped : Seated s (s.modCtrl cp fun c => { c with idleTimer := none }) := .of_bundles rfl
  exact .ite ((stopped.trans (.foldl .release ..)).trans (.postIf ..)) (.refl s)

theorem Seated.writePending (cp : CtrlPort) (b : Nat) (raw : RawRecord) (s : State) :
    Seated s (writePending cp b raw s) := by
  unfold Machine.writePending
  refine .ite (.refuse ..) ?_
  split
  · exact .refuse ..
  · refine .ite (.refuse ..) (.ite (.refuse ..) ?_)
    split
    · exact .refuse ..
    · next b _ _ r clamped _ =>
      have set : Seated s (s.modBun b fun x => { x with pending := r }) := .modBun s b _ (.pending rfl)
      exact set.trans (.decide ..)

theorem Ordered.freed (x : Bundle) (d : Delivery) : Ordered x (.freed d) where
  listed _ := by simp [Bundle.Listed, Bundle.freed]
  charge := Nat.zero_le _
  rings _ := ⟨.fresh 0, .inl rfl, nofun⟩

theorem KeepsRings.free (cp : CtrlPort) (b : Nat) (s : State) : KeepsRings s (free cp b s) := by
  have refused : ∀ status, KeepsRings s (s.refuse cp kindFree status) := fun _ => (Seated.refuse ..).keepsRings
  have freed : ∀ b, KeepsRings s (s.freeBundle b) := fun b => .of_ordered fun c => by
    rw [State.bun_freeBundle]
    split
    · next e => subst e; exact .freed ..
    · exact .refl _
  unfold Machine.free
  refine .ite (refused _) ?_
  split
  · exact refused _
  · exact .ite (refused _) (.ite (refused _) (.ite (refused _) ((freed _).trans (Seated.decide ..).keepsRings)))

/-! ## The resets and the image load (R43, R176, R177) -/

theorem Ordered.warm (x : Bundle) (timer : Record → Timer) : Ordered x (x.warm timer).retargeted := by
  cases active : x.active with
  | none =>
    have gone : x.warm timer = .freed .zero := by unfold Bundle.warm; rw [active]
    rw [gone, Bundle.retargeted_of_none rfl]
    exact .freed ..
  | some r =>
    rw [Bundle.retargeted_frame, Bundle.warm_of_some active]
    refine ⟨fun h => .of_some (by change x.active.isSome = true; rw [active]; rfl) ?_, ?_, fun h => ⟨.fresh _, ?_, nofun⟩⟩
    · have state := h.1 (by rw [active]; rfl)
      change (if x.state.running then _ else _) ≠ _
      split
      · exact nofun
      · exact state
    · exact max_le (Nat.le_max_left ..) (Nat.zero_le _)
    · change RingSize (List.replicate x.playout.ring.length none).length
      rw [List.length_replicate]
      exact h.size

theorem KeepsRings.warmReset (cp : CtrlPort) (s : State) : KeepsRings s (warmReset cp s) := by
  by_cases loading : s.load = .loading
  · rw [show Machine.warmReset cp s = s.refuse cp kindWarmReset .loading from
      if_pos (by simp [State.loading, loading])]
    exact (Seated.refuse ..).keepsRings
  · exact .of_ordered fun b => by rw [(warmReset_spec loading cp).2]; exact .warm ..

theorem KeepsRings.fullReset (s : State) : KeepsRings s (fullReset s) :=
  ⟨fun _ => ⟨reset_tableSound.active, reset_tableSound.pool⟩,
    fun _ => ⟨reset_ringsSound.ring, reset_ringsSound.size, reset_ringsSound.armed⟩⟩

theorem OnLines.keepsRings {s t : State} (h : OnLines s t) : KeepsRings s t := (Seated.of_bundles h.bundles).keepsRings

theorem Seated.applyTrib (s : State) (p : TribId) (cfg : TribConfig) : Seated s (s.applyTrib p cfg) :=
  .of_bundles (s.applyTrib_frame p cfg).1

theorem Seated.loadTrib (s : State) (x : Nat × RawTribConfig) : Seated s (s.loadTrib x) := by
  unfold State.loadTrib
  split
  · exact .ite (.refl s) (.applyTrib ..)
  · exact .refl s

theorem KeepsRings.records (xs : List (Nat × RawRecord)) (p : Progress) :
    KeepsRings p.state (xs.foldl Progress.record p).state := by
  induction xs generalizing p with
  | nil => exact .refl _
  | cons x xs ih =>
    refine KeepsRings.trans ?_ (ih _)
    rw [Progress.record_state]
    split
    · exact .refl _
    · exact .loadRecord ..

theorem KeepsRings.apply (p : Progress) (x : ImageSection) : KeepsRings p.state (p.apply x).state := by
  cases x with
  | settings x => exact .of_bundles rfl
  | tribs xs => exact (Seated.foldl .loadTrib ..).keepsRings
  | timing x mode c =>
    have configured : Seated p.state { p.state with timing := { p.state.timing.configure x with
      mode := (timingModeOf mode c).getD (p.state.timing.configure x).mode } } := .of_bundles rfl
    exact (configured.trans (.evaluateTiming _)).keepsRings
  | lists east west =>
    have loaded : KeepsRings p.state (p.state.loadLists east west) := .of_bundles rfl
    exact loaded
  | bundles xs => exact .records _ p
  | skipped => exact .refl _

theorem KeepsRings.sections (xs : List ImageSection) (p : Progress) :
    KeepsRings p.state (xs.foldl Progress.apply p).state := by
  induction xs generalizing p with
  | nil => exact .refl _
  | cons x xs ih => exact (KeepsRings.apply p x).trans (ih _)

theorem KeepsRings.applyImage (s : State) (xs : List ImageSection) : KeepsRings s (s.applyImage xs) := by
  have clocks : ∀ u : State, KeepsRings u (allTribs.foldl State.settleClock u) :=
    fun u => .foldl (fun s p => (OnLines.settleClock s p).keepsRings) allTribs u
  have ended : ∀ (u : State) (n m : Nat),
      KeepsRings u ({ u with load := .loaded n m }.post .imageLoaded .none (n * 65536 + m)) :=
    fun _ _ _ => .of_bundles rfl
  unfold State.applyImage
  exact ((KeepsRings.sections _ ⟨s, 0, 0⟩).trans (clocks _)).trans (ended ..)

theorem KeepsRings.imageLoad (bs : List Byte) (s : State) : KeepsRings s (imageLoad bs s) := by
  refine .ite ?_ (.refl s)
  split
  · exact .of_bundles rfl
  · exact .of_bundles rfl
  · exact .applyImage ..

/-! ## The lines, the links and the frame start -/

theorem Seated.tribConfig (cp : CtrlPort) (port : Nat) (raw : RawTribConfig) (s : State) :
    Seated s (tribConfig cp port raw s) := by
  unfold Machine.tribConfig
  refine .ite (.refuse ..) ?_
  split
  · exact .refuse ..
  · refine .ite (.refuse ..) ?_
    split
    · exact .refuse ..
    · exact .ite (.refuse ..) ((Seated.applyTrib ..).trans (.decide ..))

/-- A bundle keeps all but its assembly state where a link falls (R54). -/
theorem Seated.loseLink (s : State) (n : NetPort) (back : Bool) : Seated s (s.loseLink n back) := by
  have cut : ∀ u : State, Seated u (u.cutOff n) := fun u => ⟨fun b => by
    have own : (u.cutOff n).bun b = (u.bun b).losePort n := Vector.getElem_map ..
    rw [own]
    exact .of_same rfl rfl rfl rfl rfl⟩
  have down : Seated s (s.modNet n fun x =>
      { x with up := false, indication := back, qualification := if back then s.qualifyTimer else none }) :=
    .of_bundles rfl
  exact .ite ((down.trans (cut _)).trans (.post ..)) down

theorem Seated.linkIndicationLost (n : NetPort) (cut back : Bool) (s : State) :
    Seated s (linkIndicationLost n cut back s) := by
  have counted : Seated s (s.modRx n fun c => { c with whileDown := bump c.whileDown }) := .of_bundles rfl
  refine .ite ?_ (.refl s)
  split
  · exact counted.trans (.loseLink ..)
  · exact .loseLink ..

/-- A corruption moves no packet (R106). -/
theorem Seated.applyUpset (s : State) (u : Upset) : Seated s (s.applyUpset u) := by
  refine .modPlayout s u.bundle _ ?_ fun sound => ?_
  · split <;> simp
  · split
    · exact sound
    · next x held =>
      intro i y e
      obtain ⟨seq, place⟩ := Playout.slotFor_eq_some held
      have old : ∃ z, (s.bun u.bundle).playout.ring[i]? = some (some z) ∧ y.seq = z.seq := by
        rw [Playout.getElem?_setSlot] at e
        split at e
        · next own =>
          obtain rfl : x.upset u.pos u.mask = y := Option.some.inj (Option.some.inj e)
          exact ⟨x, by rw [← own.1]; exact place, rfl⟩
        · exact ⟨y, e, rfl⟩
      obtain ⟨z, ez, same⟩ := old
      have placed := sound i z ez
      unfold SlotPlaced at placed ⊢
      rw [same, Playout.length_setSlot]
      exact placed

theorem Seated.playPort (s : State) (p : TribId) : Seated s (s.playPort p) := by
  have samples : ∀ (u : State) b, Seated u (u.sampleOn p b) := fun u b => by
    unfold State.sampleOn
    simp only
    split
    · exact .refl u
    · exact .ite (.sampleFill ..) (.refl u)
  have steers : ∀ u : State, Seated u (u.steerSample p) := fun u => by
    unfold State.steerSample
    split
    · exact .ite (.of_bundles rfl) (.refl u)
    · exact .refl u
  have plays : ∀ (u : State) b, Seated u (u.playOn p b) := fun u b => .ite (.playBundle ..) (.refl u)
  exact ((Seated.foldl samples ..).trans (steers _)).trans (.foldl plays ..)

theorem KeepsRings.transmitFrameStart (p : TribId) (upsets : List Upset) (s : State) :
    KeepsRings s (transmitFrameStart p upsets s) := by
  have opens : KeepsRings s (s.openFrame p upsets) := by
    have upset : Seated s (upsets.foldl State.applyUpset s) := .foldl .applyUpset ..
    have ended : Seated (upsets.foldl State.applyUpset s)
        (steeringIntervalEnd p (upsets.foldl State.applyUpset s)) := .of_bundles rfl
    rw [State.openFrame_eq]
    exact ((upset.trans ended).keepsRings.trans
      (.foldl (fun u b => .ite (.activationTakesEffect b u) (.refl u)) ..)).trans (.modTrib ..)
  unfold Machine.transmitFrameStart
  exact .ite (.refl s) ((opens.trans (Seated.playPort ..).keepsRings).trans (.modTrib ..))

/-! ## Every command -/

theorem KeepsRings.exec {c : Instr} {s t : State} (h : exec c s = .next t) : KeepsRings s t := by
  by_cases quiet : c.quiet = true
  · exact (Seated.quiet_exec quiet h).keepsRings
  · cases c with
    | openEdit cp x => cases h; exact .handOver cp _ (Seated.openEdit ..).keepsRings
    | closeEdit cp x => cases h; exact .handOver cp _ (Seated.closeEdit ..).keepsRings
    | writePending cp b x => cases h; exact .handOver cp _ (Seated.writePending ..).keepsRings
    | activate cp b => cases h; exact .handOver cp _ (.activate ..)
    | free cp b => cases h; exact .handOver cp _ (.free ..)
    | idleTimerExpiry cp => cases h; exact (Seated.idleTimerExpiry ..).keepsRings
    | activationTakesEffect b => cases h; exact .activationTakesEffect ..
    | tribConfig cp p x => cases h; exact .handOver cp _ (Seated.tribConfig ..).keepsRings
    | readEvents cp => cases h; exact .handOver cp _ (.of_bundles rfl)
    | warmReset cp => cases h; exact .handOver cp _ (.warmReset ..)
    | fullReset => cases h; exact .fullReset s
    | imageLoad bs => cases h; exact .imageLoad ..
    | lossOfSignal p => cases h; exact (OnLines.inputLost ..).keepsRings
    | receiveClockTimeout p => cases h; exact (OnLines.inputLost ..).keepsRings
    | recoveryBlockBegins p => cases h; exact (OnLines.recoveryBlockBegins ..).keepsRings
    | recoveryBlockComplete p block => cases h; exact (OnLines.recoveryBlockComplete ..).keepsRings
    | aisBlockComplete p block => cases h; exact (OnLines.aisBlockComplete ..).keepsRings
    | alignmentFound p window => cases h; exact (OnLines.alignmentFound ..).keepsRings
    | alignmentWord p bits => cases h; exact (OnLines.alignmentWord ..).keepsRings
    | nonAlignmentWord p bit3 => cases h; exact (OnLines.nonAlignmentWord ..).keepsRings
    | transmitFrameStart p upsets => exact Host.Outcome.next.inj h ▸ .transmitFrameStart ..
    | linkIndicationLost n cut back => cases h; exact (Seated.linkIndicationLost ..).keepsRings
    | linkQualificationExpiry n => cases h; exact .ite (.of_bundles rfl) (.refl s)
    | recordPatrol reads => exact Host.Outcome.next.inj h ▸ (Seated.recordPatrol reads s).keepsRings
    | _ => exact absurd rfl quiet

/-- Every step, a tick or a command, keeps both. -/
theorem KeepsRings.step {s t : State} (h : step s = .next t) : KeepsRings s t := by
  rcases step_cases h with ⟨-, rfl⟩ | ⟨c, rest, -, h⟩
  · exact .of_bundles rfl
  · have taken : KeepsRings s { s with pending := rest } := .of_bundles rfl
    exact taken.trans (.exec h)

/-- Settles O5. -/
theorem everyStepKeepsTheBundleTable : Obligations.EveryStepKeepsTheBundleTable := fun _ _ sound h =>
  (KeepsRings.step h).table sound

/-- Settles O7. -/
theorem everyStepKeepsRingPlacement : Obligations.EveryStepKeepsRingPlacement := fun _ _ sound h =>
  (KeepsRings.step h).rings sound

end Sys2Proof.Machine
end

section
/-! Claims taken, given back and expired (R22, R171, R172): O19 and O20. -/

namespace Sys2Proof.Machine

open Safety

/-! ## A request handed over -/

theorem handed_over {s t : State} {cp : CtrlPort} {i : Instr} {work : State → State} (carried : Carried s cp i)
    (h : work s = t) : (Host.Outcome.next (s.handOver cp i work) : Host.Outcome State Fault Refusal) = .next t := by
  rw [State.handOver_of_carried work carried, h]

/-- A request refused changes its outcome alone (R165). -/
theorem handed_over_refused {s : State} {cp : CtrlPort} {i : Instr} {work : State → State} {kind : Nat} {status : Status}
    (carried : Carried s cp i) (h : work s = s.refuse cp kind status) :
    ∃ content, (Host.Outcome.next (s.handOver cp i work) : Host.Outcome State Fault Refusal) =
      .next (s.decide cp kind status content) := ⟨_, handed_over carried h⟩

theorem loading_eq_false {s : State} (h : s.load ≠ .loading) : ¬ s.loading = true := by
  simpa [State.loading] using h

/-! ## Sections released -/

theorem Bundle.returnPending_of_idle {x : Bundle} (h : x.armed = none) :
    x.returnPending = { x with pending := x.active.getD Record.default } := by
  unfold Bundle.returnPending; rw [h]; rfl

/-- No section but an armed bundle's is armed. -/
theorem State.armedSection_eq_false {s : State} {sec : Machine.Section} :
    s.armedSection sec = false ↔ ∀ b, sec = .bundle b → (s.bun b).armed = none := by
  cases sec with
  | bundle b => simp [State.armedSection]
  | _ => simp [State.armedSection]

theorem State.release_frame (s : State) (sec : Machine.Section) :
    s.release sec = { s with claims := (s.release sec).claims, bundles := (s.release sec).bundles } := by
  cases sec <;> rfl

theorem State.releases_frame (secs : List Machine.Section) (s : State) : secs.foldl State.release s =
    { s with claims := (secs.foldl State.release s).claims, bundles := (secs.foldl State.release s).bundles } := by
  induction secs generalizing s with
  | nil => rfl
  | cons sec secs ih =>
    refine (ih (s.release sec)).trans ?_
    cases sec <;> rfl

theorem State.holder_releases (secs : List Machine.Section) (s : State) (other : Machine.Section) :
    (secs.foldl State.release s).holder other = if other ∈ secs then none else s.holder other := by
  induction secs generalizing s with
  | nil => simp
  | cons sec secs ih =>
    rw [List.foldl_cons, ih, State.holder_release]
    by_cases later : other ∈ secs
    · simp [later]
    · simp [later]

theorem Bundle.returnPending_twice (x : Bundle) : x.returnPending.returnPending = x.returnPending := by
  cases armed : x.armed with
  | none =>
    rw [Bundle.returnPending_of_idle armed]
    exact Bundle.returnPending_of_idle (x := { x with pending := _ }) armed
  | some n =>
    have kept : x.returnPending = x := if_pos (by rw [armed]; rfl)
    rw [kept, kept]

theorem State.bun_releases (secs : List Machine.Section) (s : State) (b : BundleId) :
    (secs.foldl State.release s).bun b = if .bundle b ∈ secs then (s.bun b).returnPending else s.bun b := by
  induction secs generalizing s with
  | nil => simp
  | cons sec secs ih =>
    rw [List.foldl_cons, ih, State.bun_release]
    by_cases now : sec = .bundle b
    · simp [now, Bundle.returnPending_twice]
    · simp [now, Ne.symm now]

/-! ## OPEN_EDIT and CLOSE_EDIT (R22, R171) -/

theorem openEdit_eq {s : State} (loaded : s.load ≠ .loading) (cp : CtrlPort) (raw : RawSection) :
    openEdit cp raw s = match raw.typed with
      | none => s.refuse cp 4 .badValue
      | some sec => if s.holder sec = some cp.other then s.refuse cp 4 .heldElsewhere
        else (s.setHolder sec (some cp)).decide cp 4 .ok [] := by
  unfold openEdit
  rw [if_neg (loading_eq_false loaded)]
  rfl

theorem closeEdit_eq {s : State} (loaded : s.load ≠ .loading) (cp : CtrlPort) (raw : RawSection) :
    closeEdit cp raw s = match raw.typed with
      | none => s.refuse cp 5 .badValue
      | some sec => if s.holder sec ≠ some cp then s.refuse cp 5 .notHeld
        else if s.armedSection sec then s.refuse cp 5 .badState
        else (s.release sec).decide cp 5 .ok [] := by
  unfold closeEdit
  rw [if_neg (loading_eq_false loaded)]
  cases raw.typed with
  | none => rfl
  | some sec => exact if_congr bne_iff_ne rfl rfl

/-- Settles O19. -/
theorem openEditGrantsAndCloseEditReleases : Obligations.OpenEditGrantsAndCloseEditReleases := by
  intro s cp raw loaded carried
  have opens : Carried s cp (.openEdit cp raw) := carried _ (by simp)
  have closes : Carried s cp (.closeEdit cp raw) := carried _ (by simp)
  have opened := openEdit_eq loaded cp raw
  have closed := closeEdit_eq loaded cp raw
  refine ⟨fun unknown => ?_, fun sec named => ?_⟩
  · rw [unknown] at opened closed
    exact ⟨handed_over_refused opens opened, handed_over_refused closes closed⟩
  · rw [named] at opened closed
    simp only at opened closed
    refine ⟨fun held => ?_, fun free => ?_, fun other => ?_, fun held b e armed => ?_, fun held idle => ?_⟩
    · exact handed_over_refused opens (opened.trans (if_pos held))
    · refine ⟨_, handed_over opens (opened.trans (if_neg free)), rfl, ?_, fun d ne => ?_, ?_⟩
      · exact State.holder_setHolder_self ..
      · exact State.holder_setHolder_ne _ _ ne
      · exact Posts.answers (t := s.setHolder sec (some cp)) (.of_ctrls rfl) cp 4 .ok []
    · exact handed_over_refused closes (closed.trans (if_pos other))
    · refine handed_over_refused closes (closed.trans ?_)
      subst e
      exact (if_neg (not_not.2 held)).trans (if_pos armed)
    · have unarmed := State.armedSection_eq_false.2 idle
      rw [if_neg (not_not.2 held), unarmed, if_neg nofun] at closed
      refine ⟨_, handed_over closes closed, ?_, ?_, fun d ne => ?_, fun b => ?_, ?_⟩
      · rw [State.release_frame]; rfl
      · exact (State.holder_release s sec sec).trans (if_pos rfl)
      · exact (State.holder_release s sec d).trans (if_neg ne)
      · rw [State.bun_decide, State.bun_release]
        exact if_ctx_congr Iff.rfl (fun e => Bundle.returnPending_of_idle (idle b e)) fun _ => rfl
      · refine Posts.answers (t := s.release sec) (.of_ctrls ?_) cp 5 .ok []
        rw [State.release_frame]

/-! ## The idle timer's expiry (R172) -/

theorem mem_allSections (sec : Machine.Section) : sec ∈ allSections := by
  cases sec with
  | bundle b => simp [allSections, allBundles]
  | trib p => simp [allSections, allTribs]
  | list n => cases n <;> simp [allSections]
  | timing => simp [allSections]
  | settings => simp [allSections]

theorem mem_expiring {s : State} {cp : CtrlPort} {sec : Machine.Section} : sec ∈ s.expiring cp ↔
    s.holder sec = some cp ∧ ∀ b, sec = .bundle b → (s.bun b).armed = none := by
  simp [State.expiring, mem_allSections, ← State.armedSection_eq_false]

/-- A port's idle timer stopped. -/
def State.stopIdle (s : State) (cp : CtrlPort) : State := s.modCtrl cp fun c => { c with idleTimer := none }

theorem idleTimerExpiry_eq {s : State} {cp : CtrlPort} (due : Due s (s.ctrl cp).idleTimer) : idleTimerExpiry cp s =
    ((s.expiring cp).foldl State.release (s.stopIdle cp)).postIf (!(s.expiring cp).isEmpty) .claimExpired (.ctrl cp)
      (s.expiring cp).length :=
  if_pos ((State.due_iff ..).2 due)

theorem State.ctrl_stopIdle (s : State) (cp dp : CtrlPort) :
    (s.stopIdle cp).ctrl dp = if dp = cp then { s.ctrl dp with idleTimer := none } else s.ctrl dp := by
  split
  · next e => subst e; exact State.ctrl_modCtrl_self ..
  · next ne => exact State.ctrl_modCtrl_ne _ _ ne

/-- Settles O20. -/
theorem idleExpiryReleasesThePortsClaims : Obligations.IdleExpiryReleasesThePortsClaims := by
  intro s cp
  refine ⟨fun idle => congrArg Host.Outcome.next (if_neg fun due => idle ((State.due_iff ..).1 due)), fun due => ?_⟩
  have released := State.releases_frame (s.expiring cp) (s.stopIdle cp)
  have holder := State.holder_releases (s.expiring cp) (s.stopIdle cp)
  have bundles := State.bun_releases (s.expiring cp) (s.stopIdle cp)
  have acts := idleTimerExpiry_eq due
  generalize (s.expiring cp).foldl State.release (s.stopIdle cp) = u at *
  have freed : ∀ c, u.holder c = if s.holder c = some cp ∧ ∀ b, c = .bundle b → (s.bun b).armed = none then none
      else s.holder c := fun c => (holder c).trans (if_congr mem_expiring rfl rfl)
  have counted : s.expiring cp = allSections.filter fun c => s.holder c == some cp && u.holder c == none := by
    refine List.filter_congr fun c _ => ?_
    rw [freed]
    rw [Bool.eq_iff_iff]
    simp only [Bool.and_eq_true, beq_iff_eq, Bool.not_eq_true', State.armedSection_eq_false]
    refine and_congr_right fun held => ⟨fun idle => if_pos ⟨held, idle⟩, fun gone => ?_⟩
    by_contra armed
    rw [if_neg fun k => armed k.2, held] at gone
    cases gone
  have claims : ∀ c, (idleTimerExpiry cp s).holder c = u.holder c := fun c => by rw [acts]; cases !_ <;> rfl
  refine ⟨_, (s.expiring cp).length, rfl, ?_, ?_, fun c => ?_, fun b => ?_, fun dp => ?_⟩
  · rw [acts, released]; cases !_ <;> rfl
  · rw [counted]
    simp only [claims]
  · rw [claims, freed]
  · rw [acts, State.bun_postIf, bundles]
    split
    · next gone =>
      have idle := mem_expiring.1 gone
      have unarmed := idle.2 b rfl
      rw [if_pos ⟨idle.1, unarmed⟩]
      exact Bundle.returnPending_of_idle unarmed
    · next stays =>
      rw [if_neg fun k => stays (mem_expiring.2 ⟨k.1, fun c e => Machine.Section.bundle.inj e ▸ k.2⟩)]
      rfl
  · have stopped : u.ctrl dp = if dp = cp then { s.ctrl dp with idleTimer := none } else s.ctrl dp := by
      rw [released]; exact State.ctrl_stopIdle ..
    have same : u.eventTime = s.eventTime := by rw [released]; rfl
    rw [acts]
    simp only [← stopped]
    split
    · next none =>
      rw [List.length_eq_zero_iff.1 none]; rfl
    · next some =>
      have posts : (!(s.expiring cp).isEmpty) = true := by simpa using some
      rw [posts]
      exact (State.ctrl_post ..).trans (by rw [same]; rfl)

end Sys2Proof.Machine
end

section
/-! A trim at PLAYOUT_START that gives up a packet a whole turn of sequence numbers ahead (R93, R94): O53 fails. -/

namespace Sys2Proof.Machine

open Safety

theorem Playout.head_ne_none_of_fill {p : Playout} {fpp : Nat} (h : 0 < p.fill fpp) : ∃ d, p.head = some d := by
  cases head : p.head with
  | none => simp [Playout.fill, head] at h
  | some d => exact ⟨d, rfl⟩

/-- A ring whose fill is 0 with nothing played holds nothing (R90). -/
theorem Playout.slotFor_of_fill_zero {p : Playout} {fpp : Nat} {h : Seq} (head : p.head = some h) (played : p.played = 0)
    (size : 1 ≤ fpp) (empty : p.fill fpp = 0) (q : Seq) : p.slotFor q = none := by
  cases held : p.slotFor q with
  | none => rfl
  | some x =>
    have mem : x ∈ p.heldSlots :=
      List.mem_filterMap.2 ⟨some x, List.mem_of_getElem? (Playout.slotFor_eq_some held).2, rfl⟩
    have newest : ∃ d, p.newest h = some d := by
      refine Option.isSome_iff_exists.1 (Option.isSome_iff_ne_none.2 fun none => ?_)
      rw [Playout.newest, List.max?_eq_none_iff, List.map_eq_nil_iff] at none
      rw [none] at mem
      cases mem
    obtain ⟨d, newest⟩ := newest
    simp only [Playout.fill, head, newest, played, Nat.sub_zero] at empty
    have : 1 ≤ (d + 1) * fpp := Nat.mul_pos (Nat.succ_pos d) size
    omega

/-- The packet of the sequence before the head's: the whole space of sequences ahead of it. -/
def lastSlot : RingSlot := ⟨65535, .p1, false, [], [], 0⟩

/-- A bundle due to start at target depth 0, in a ring as long as the space of sequences, whose one packet lies
65535 packets ahead of the head. -/
def turnAhead : Bundle :=
  { State.reset.bun 0 with
    active := some { Record.default with fpp := 1 }
    state := .filling
    playout := { Playout.fresh 0 with
      ring := List.replicate 65535 none ++ [some lastSlot]
      head := some 0
      phase := .countdown } }

theorem turnAhead_ring (i : Nat) (x : RingSlot) (h : turnAhead.playout.ring[i]? = some (some x)) :
    i = 65535 ∧ x = lastSlot := by
  change (List.replicate 65535 none ++ [some lastSlot])[i]? = some (some x) at h
  rw [List.getElem?_append, List.length_replicate] at h
  split at h
  · rw [List.getElem?_replicate] at h
    split at h <;> cases h
  · next beyond =>
    rw [List.getElem?_singleton] at h
    split at h
    · next at0 => exact ⟨by omega, (Option.some.inj (Option.some.inj h)).symm⟩
    · cases h

theorem turnAhead_length : turnAhead.playout.ring.length = 65536 := by
  change (List.replicate 65535 none ++ [some lastSlot]).length = 65536
  rw [List.length_append, List.length_replicate]
  rfl

theorem turnAhead_sound : RingSound turnAhead.playout := fun i x h => by
  obtain ⟨rfl, rfl⟩ := turnAhead_ring i x h
  refine ⟨?_, 0, rfl, ?_⟩ <;> rw [turnAhead_length] <;> decide

theorem turnAhead_held : turnAhead.playout.slotFor 65535 = some lastSlot := by
  have place : turnAhead.playout.ring[65535]? = some (some lastSlot) := by
    change (List.replicate 65535 none ++ [some lastSlot])[65535]? = _
    rw [List.getElem?_append_right (by rw [List.length_replicate]), List.length_replicate]
    rfl
  unfold Playout.slotFor
  rw [turnAhead_length, show (65535 : Seq).toNat % 65536 = 65535 from rfl, place]
  exact if_pos rfl

theorem turnAhead_fill : 1 ≤ turnAhead.playout.fill 1 := by
  refine Nat.one_le_iff_ne_zero.2 fun empty => ?_
  have gone := Playout.slotFor_of_fill_zero (h := 0) rfl rfl (Nat.le_refl 1) empty 65535
  rw [turnAhead_held] at gone
  cases gone

/-- Refutes O53: with a target depth of 0 the fill must be brought below one packet, so the packet held 65535
sequences ahead of the head goes, but the head comes to lie beyond it only after a whole turn, where no distance
from the old head says that it was passed. -/
theorem not_playoutStartsWhenTheCountIsReached : ¬ Obligations.PlayoutStartsWhenTheCountIsReached := by
  intro holds
  obtain ⟨-, starts, -⟩ := holds (State.reset.modBun 0 fun _ => turnAhead) 0 turnAhead (State.bun_modBun_self ..)
  obtain ⟨t, es, -, -, -, -, -, -, trimmed⟩ :=
    starts { Record.default with fpp := 1 } rfl rfl rfl rfl (Nat.zero_le _) (Nat.le_refl 1) turnAhead_sound
  obtain ⟨passed, below, -⟩ := trimmed turnAhead_fill
  obtain ⟨h0, h, n, first, ends, slipped, -⟩ := passed _ rfl
  obtain rfl : 0 = h0 := Option.some.inj first
  have played : (t.bun 0).playout.played = 0 := by rw [ends]
  have gone := Playout.slotFor_of_fill_zero slipped.head played (Nat.le_refl 1) (Nat.lt_one_iff.1 below) 65535
  have kept := slipped.kept 65535
  rw [gone, turnAhead_held] at kept
  split at kept
  · next before => exact absurd before (by have := (h - 0).isLt; simp; omega)
  · cases kept

end Sys2Proof.Machine
end

section
/-! WRITE_PENDING and ACTIVATE (R20 to R28): O41 and O42. -/

namespace Sys2Proof.Machine

open Safety

/-! ## Codes (Table 10) -/

/-- The codes 0 to `k - 1` are the codes of values, and no other number is. -/
def Decodes {α : Type} (ofCode : Nat → Option α) (code : α → Nat) (k : Nat) : Prop :=
  ∀ n, if n < k then ∃ x, ofCode n = some x ∧ code x = n else ofCode n = none

theorem Decodes.exists_iff {α : Type} {ofCode : Nat → Option α} {code : α → Nat} {k : Nat} (h : Decodes ofCode code k)
    {n : Nat} : (∃ x, ofCode n = some x) ↔ n < k := by
  have at_n := h n
  split at at_n
  · next lt => exact ⟨fun _ => lt, fun _ => at_n.imp fun _ => And.left⟩
  · next ge => rw [at_n]; exact ⟨nofun, fun lt => absurd lt ge⟩

theorem Decodes.code_eq {α : Type} {ofCode : Nat → Option α} {code : α → Nat} {k : Nat} (h : Decodes ofCode code k)
    {n : Nat} {x : α} (e : ofCode n = some x) : code x = n := by
  have at_n := h n
  rw [if_pos (h.exists_iff.1 ⟨x, e⟩), e] at at_n
  obtain ⟨y, same, code⟩ := at_n
  rw [Option.some.inj same, code]

theorem PathMode.decodes : Decodes PathMode.ofCode PathMode.code 3
  | 0 => ⟨_, rfl, rfl⟩
  | 1 => ⟨_, rfl, rfl⟩
  | 2 => ⟨_, rfl, rfl⟩
  | n + 3 => by rw [if_neg (by omega)]; rfl

theorem PacketClass.decodes : Decodes PacketClass.ofCode PacketClass.code 3
  | 0 => ⟨_, rfl, rfl⟩
  | 1 => ⟨_, rfl, rfl⟩
  | 2 => ⟨_, rfl, rfl⟩
  | n + 3 => by rw [if_neg (by omega)]; rfl

theorem PortMap.decodes : Decodes PortMap.ofCode PortMap.code 2
  | 0 => ⟨_, rfl, rfl⟩
  | 1 => ⟨_, rfl, rfl⟩
  | n + 2 => by rw [if_neg (by omega)]; rfl

theorem DelayMode.decodes : Decodes DelayMode.ofCode DelayMode.code 2
  | 0 => ⟨_, rfl, rfl⟩
  | 1 => ⟨_, rfl, rfl⟩
  | n + 2 => by rw [if_neg (by omega)]; rfl

theorem EqualiseApply.decodes : Decodes EqualiseApply.ofCode EqualiseApply.code 2
  | 0 => ⟨_, rfl, rfl⟩
  | 1 => ⟨_, rfl, rfl⟩
  | n + 2 => by rw [if_neg (by omega)]; rfl

theorem Substitution.decodes : Decodes Substitution.ofCode Substitution.code 2
  | 0 => ⟨_, rfl, rfl⟩
  | 1 => ⟨_, rfl, rfl⟩
  | n + 2 => by rw [if_neg (by omega)]; rfl

theorem Authority.decodes : Decodes Authority.ofCode Authority.code 2
  | 0 => ⟨_, rfl, rfl⟩
  | 1 => ⟨_, rfl, rfl⟩
  | n + 2 => by rw [if_neg (by omega)]; rfl

theorem tribOf_decodes : Decodes tribOf Fin.val 8 := fun n => by
  split
  · next lt => exact ⟨⟨n, lt⟩, dif_pos lt, rfl⟩
  · next ge => exact dif_neg ge

theorem pathOf_spec (n : Nat) : (∃ p, pathOf n = some p ∧ p.code = n) ↔ 1 ≤ n ∧ n ≤ 2 :=
  match n with
  | 0 => ⟨nofun, fun h => absurd h.1 (by decide)⟩
  | 1 => ⟨fun _ => by decide, fun _ => ⟨_, rfl, rfl⟩⟩
  | 2 => ⟨fun _ => by decide, fun _ => ⟨_, rfl, rfl⟩⟩
  | n + 3 => ⟨nofun, fun h => absurd h.2 (by omega)⟩

theorem pathOf_code_eq {n : Nat} {p : Path} (h : pathOf n = some p) : p.code = n :=
  match n, h with
  | 1, h => by cases h; rfl
  | 2, h => by cases h; rfl

/-! ## The record as stored (R20 step 5, R21) -/

/-- A record as received whose coded fields carry codes of Table 10. -/
structure CodesKnown (x : RawRecord) : Prop where
  port : x.port < 8
  pathMode : x.pathMode < 3
  portMap : x.portMap < 2
  pclass : x.pclass < 3
  delayMode : x.delayMode < 2
  eqApply : x.eqApply < 2
  substitution : x.substitution < 2
  authority : x.authority < 2
  primary : 1 ≤ x.primary ∧ x.primary ≤ 2

theorem RawRecord.coded_raw {x : RawRecord} {r : Record} (h : x.coded = some r) :
    r.raw = { x with slots := x.slots.sorted } := by
  simp only [RawRecord.coded, Option.bind_eq_bind, Option.bind_eq_some_iff, Option.pure_def, Option.some.injEq] at h
  obtain ⟨port, hport, mode, hmode, map, hmap, cls, hcls, delay, hdelay, apply, happly, subst, hsubst, auth, hauth,
    primary, hprimary, rfl⟩ := h
  simp only [Record.raw, tribOf_decodes.code_eq hport, PathMode.decodes.code_eq hmode, PortMap.decodes.code_eq hmap,
    PacketClass.decodes.code_eq hcls, DelayMode.decodes.code_eq hdelay, EqualiseApply.decodes.code_eq happly,
    Substitution.decodes.code_eq hsubst, Authority.decodes.code_eq hauth, pathOf_code_eq hprimary]

theorem RawRecord.coded_isSome_iff {x : RawRecord} : (∃ r, x.coded = some r) ↔ CodesKnown x := by
  constructor
  · rintro ⟨r, h⟩
    simp only [RawRecord.coded, Option.bind_eq_bind, Option.bind_eq_some_iff, Option.pure_def, Option.some.injEq] at h
    obtain ⟨_, port, _, mode, _, map, _, cls, _, delay, _, apply, _, subst, _, auth, _, primary, -⟩ := h
    exact ⟨tribOf_decodes.exists_iff.1 ⟨_, port⟩, PathMode.decodes.exists_iff.1 ⟨_, mode⟩,
      PortMap.decodes.exists_iff.1 ⟨_, map⟩, PacketClass.decodes.exists_iff.1 ⟨_, cls⟩,
      DelayMode.decodes.exists_iff.1 ⟨_, delay⟩, EqualiseApply.decodes.exists_iff.1 ⟨_, apply⟩,
      Substitution.decodes.exists_iff.1 ⟨_, subst⟩, Authority.decodes.exists_iff.1 ⟨_, auth⟩,
      (pathOf_spec _).1 ⟨_, primary, pathOf_code_eq primary⟩⟩
  · intro known
    obtain ⟨_, port⟩ := tribOf_decodes.exists_iff.2 known.port
    obtain ⟨_, mode⟩ := PathMode.decodes.exists_iff.2 known.pathMode
    obtain ⟨_, map⟩ := PortMap.decodes.exists_iff.2 known.portMap
    obtain ⟨_, cls⟩ := PacketClass.decodes.exists_iff.2 known.pclass
    obtain ⟨_, delay⟩ := DelayMode.decodes.exists_iff.2 known.delayMode
    obtain ⟨_, apply⟩ := EqualiseApply.decodes.exists_iff.2 known.eqApply
    obtain ⟨_, subst⟩ := Substitution.decodes.exists_iff.2 known.substitution
    obtain ⟨_, auth⟩ := Authority.decodes.exists_iff.2 known.authority
    obtain ⟨_, primary, -⟩ := (pathOf_spec _).2 known.primary
    exact ⟨_, by simp only [RawRecord.coded, port, mode, map, cls, delay, apply, subst, auth, primary]; rfl⟩

theorem SlotSet.sound_iff {x : SlotSet} : x.sound = true ↔
    x ≠ .list [] ∧ ∀ ns, x = .list ns → ns.Nodup ∧ ∀ n ∈ ns, 1 ≤ n ∧ n ≤ 31 := by
  cases x with
  | all => simp [SlotSet.sound]
  | list xs => simp [SlotSet.sound, and_assoc]

theorem tagSound_iff {x : Option Tag} : tagSound x = true ↔ ∀ g, x = some g → g.id ≠ 0 ∧ g.id ≠ 4095 := by
  cases x with
  | none => simp [tagSound]
  | some g => simp [tagSound]

theorem RawRecord.codesKnown_clamp {x : RawRecord} : CodesKnown x.clamp ↔ x.port < 8 ∧ x.pathMode < 3 ∧
    x.portMap < 2 ∧ x.pclass < 3 ∧ x.delayMode < 2 ∧ x.eqApply < 2 ∧ x.substitution < 2 ∧ x.authority < 2 :=
  ⟨fun h => ⟨h.port, h.pathMode, h.portMap, h.pclass, h.delayMode, h.eqApply, h.substitution, h.authority⟩,
    fun ⟨port, mode, map, cls, delay, apply, subst, auth⟩ =>
      ⟨port, mode, map, cls, delay, apply, subst, auth, clampNat_mem (by decide) _⟩⟩

/-- The checks of R20 step 5 as the model makes them. -/
theorem structuralFault_iff {x : RawRecord} :
    StructuralFault x ↔ ¬ (x.slots.sound = true ∧ tagSound x.tag = true ∧ CodesKnown x.clamp) := by
  rw [SlotSet.sound_iff, tagSound_iff, RawRecord.codesKnown_clamp]
  have list : (∃ ns, x.slots = .list ns ∧ (¬ ns.Nodup ∨ ∃ n ∈ ns, n < 1 ∨ 31 < n)) ↔
      ¬ ∀ ns, x.slots = .list ns → ns.Nodup ∧ ∀ n ∈ ns, 1 ≤ n ∧ n ≤ 31 := by
    push Not
    simp only [imp_iff_not_or, Nat.lt_one_iff, Nat.one_le_iff_ne_zero, not_not]
  have tag : (∃ g, x.tag = some g ∧ (g.id = 0 ∨ g.id = 4095)) ↔
      ¬ ∀ g, x.tag = some g → g.id ≠ 0 ∧ g.id ≠ 4095 := by
    push Not
    simp only [imp_iff_not_or, not_not, ne_eq]
  unfold StructuralFault
  rw [list, tag]
  simp only [← not_lt, ne_eq]
  tauto

theorem clampedRecord_eq (x : RawRecord) : clampedRecord x = { x.clamp with slots := x.slots.sorted } := by
  simp [clampedRecord, RawRecord.clamp, clampNat_eq]

theorem RawRecord.stored_of_fault {x : RawRecord} (h : StructuralFault x) : x.stored = none := by
  rw [structuralFault_iff] at h
  unfold RawRecord.stored
  split
  · next sound =>
    rw [Bool.and_eq_true] at sound
    rw [Option.map_eq_none_iff, Option.eq_none_iff_forall_ne_some]
    exact fun r e => h ⟨sound.1, sound.2, RawRecord.coded_isSome_iff.1 ⟨r, e⟩⟩
  · rfl

theorem RawRecord.stored_of_sound {x : RawRecord} (h : ¬ StructuralFault x) :
    ∃ r, x.stored = some (r, decide (x.clamp ≠ x)) ∧ r.raw = clampedRecord x := by
  rw [structuralFault_iff, not_not] at h
  obtain ⟨slots, tag, known⟩ := h
  obtain ⟨r, coded⟩ := RawRecord.coded_isSome_iff.2 known
  refine ⟨r, ?_, (RawRecord.coded_raw coded).trans (clampedRecord_eq x).symm⟩
  unfold RawRecord.stored
  rw [if_pos (by rw [slots, tag]; rfl), coded]
  rfl

/-- A record is clamped exactly where one of its fields moves; sorting its slots is none (R21). -/
theorem clampedRecord_eq_iff {x : RawRecord} :
    clampedRecord x = { x with slots := x.slots.sorted } ↔ x.clamp = x := by
  rw [clampedRecord_eq]
  refine ⟨fun h => ?_, fun h => by rw [h]⟩
  exact congrArg (fun y : RawRecord => { y with slots := x.slots }) h

/-! ## WRITE_PENDING -/

theorem bundleOf_eq_none {n : Nat} (h : 64 ≤ n) : bundleOf n = none := dif_neg (Nat.not_lt.2 h)

theorem writePending_eq {s : State} (loaded : s.load ≠ .loading) (cp : CtrlPort) (b : BundleId) (raw : RawRecord) :
    writePending cp b.val raw s =
      if s.holder (.bundle b) ≠ some cp then s.refuse cp 7 .notHeld
      else if (s.bun b).armed.isSome then s.refuse cp 7 .badState
      else match raw.stored with
        | none => s.refuse cp 7 .badValue
        | some (r, clamped) => (s.modBun b fun x => { x with pending := r }).decide cp 7
            (if clamped then .clamped else .ok) r.raw.bytes := by
  unfold writePending
  rw [if_neg (loading_eq_false loaded), bundleOf_val]
  refine if_congr bne_iff_ne rfl (if_congr Iff.rfl rfl ?_)
  cases raw.stored <;> rfl

theorem writePending_stored {s : State} {cp : CtrlPort} {b : BundleId} {raw : RawRecord} {r : Record} {clamped : Bool}
    (loaded : s.load ≠ .loading) (held : s.holder (.bundle b) = some cp) (idle : (s.bun b).armed = none)
    (stored : raw.stored = some (r, clamped)) : writePending cp b.val raw s =
      (s.modBun b fun x => { x with pending := r }).decide cp 7 (if clamped then .clamped else .ok) r.raw.bytes := by
  rw [writePending_eq loaded, if_neg (not_not.2 held), idle, stored]
  rfl

/-- Settles O41. -/
theorem writePendingStoresTheClampedRecord : Obligations.WritePendingStoresTheClampedRecord := by
  intro s cp n raw carried
  refine ⟨fun loading => ?_, fun loaded high => ?_, fun loaded b e => ?_⟩
  · exact handed_over_refused carried (if_pos (by simp [State.loading, loading]))
  · refine handed_over_refused carried ?_
    unfold writePending
    rw [if_neg (loading_eq_false loaded), bundleOf_eq_none high]
    rfl
  · subst e
    have acts := writePending_eq loaded cp b raw
    refine ⟨fun other => ?_, fun held armed => ?_, fun held idle fault => ?_, fun held idle sound => ?_⟩
    · exact handed_over_refused carried (acts.trans (if_pos other))
    · refine handed_over_refused carried (acts.trans ?_)
      rw [if_neg (not_not.2 held), if_pos (Option.isSome_iff_ne_none.2 armed)]
    · rw [if_neg (not_not.2 held), idle, RawRecord.stored_of_fault fault] at acts
      exact handed_over_refused carried acts
    · obtain ⟨r, stored, whole⟩ := RawRecord.stored_of_sound sound
      refine ⟨_, r, _, handed_over carried (writePending_stored loaded held idle stored), rfl, fun c ne => ?_, ?_, whole,
        Posts.answers (.of_ctrls rfl) .., ?_⟩
      · exact (State.bun_decide ..).trans (State.bun_modBun_ne _ _ ne)
      · exact (State.bun_decide ..).trans (State.bun_modBun_self ..)
      · refine (if_congr decide_eq_true_iff rfl rfl).trans ((ite_not ..).trans ?_)
        exact if_congr clampedRecord_eq_iff.symm rfl rfl

/-! ## ACTIVATE -/

theorem payloadClamp_eq (r : Record) : payloadClamp r =
    { r with fpp := if 512 < r.slots.count * r.fpp then 512 / r.slots.count else r.fpp } := by
  unfold payloadClamp; split <;> rfl

theorem slotConflict_iff {r o : Record} : slotConflict r (some o) = true ↔
    o.port = r.port ∧ ∃ m ∈ r.slots.toList, m ∈ o.slots.toList := by
  simp [slotConflict, slotsMeet]

/-- R25, in terms of the records in force. -/
theorem State.conflicts_iff {s : State} {b : BundleId} {r : Record} : s.conflicts b r = true ↔
    ∃ c o, c ≠ b ∧ InForce s c o ∧ o.port = r.port ∧ ∃ m ∈ r.slots.toList, m ∈ o.slots.toList := by
  have shares : ∀ x : Option Record, slotConflict r x = true ↔
      ∃ o, x = some o ∧ o.port = r.port ∧ ∃ m ∈ r.slots.toList, m ∈ o.slots.toList := fun x => by
    cases x with
    | none => simp [slotConflict]
    | some o => simp [slotConflict_iff]
  simp only [State.conflicts, List.any_eq_true, Bool.and_eq_true, Bool.or_eq_true, shares, bne_iff_ne, InForce]
  constructor
  · rintro ⟨c, -, ne, ⟨o, active, meets⟩ | ⟨o, armed, meets⟩⟩
    · exact ⟨c, o, ne, .inl active, meets⟩
    · exact ⟨c, o, ne, .inr armed, meets⟩
  · rintro ⟨c, o, ne, active | armed, meets⟩
    · exact ⟨c, by simp [allBundles], ne, .inl ⟨o, active, meets⟩⟩
    · exact ⟨c, by simp [allBundles], ne, .inr ⟨o, armed, meets⟩⟩

/-- The ring size of R26 is the one size of the five with these bounds. -/
theorem sizeRing_eq {r : Record} {depth need R : Nat} (hdepth : depth = max r.maxDepth r.fpp)
    (hneed : need = (depth + r.fpp - 1) / r.fpp + 2) (sizes : R = 16 ∨ R = 32 ∨ R = 64 ∨ R = 128 ∨ R = 256)
    (least : R = 16 ∨ R / 2 < need) (holds : R = 256 ∨ need ≤ R) :
    sizeRing r = ({ r with maxDepth := if need ≤ 256 then depth else 254 * r.fpp }, R) := by
  have needs : slotsNeeded (raiseDepth r) = need := by rw [hneed, hdepth]; rfl
  unfold sizeRing
  simp only [needs]
  by_cases large : 256 < need
  · obtain rfl : R = 256 := by omega
    rw [if_pos large, if_neg (by omega)]
    rfl
  · have size : ringSizeFor need = R := by unfold ringSizeFor; split_ifs <;> omega
    rw [if_neg large, if_pos (by omega), size, hdepth]
    rfl

theorem activate_eq {s : State} (loaded : s.load ≠ .loading) (cp : CtrlPort) (b : BundleId) :
    activate cp b.val s =
      if s.holder (.bundle b) ≠ some cp then s.refuse cp 8 .notHeld
      else if (s.bun b).armed.isSome then s.refuse cp 8 .badState
      else match s.validate b (s.bun b).pending with
        | .error status => s.refuse cp 8 status
        | .ok (r, size) => (s.modBun b fun x => { x with pending := r, armed := some size }).decide cp 8
            (if r != (s.bun b).pending then .clamped else .ok) r.raw.bytes := by
  unfold activate
  rw [if_neg (loading_eq_false loaded), bundleOf_val]
  refine if_congr bne_iff_ne rfl (if_congr Iff.rfl rfl ?_)
  cases s.validate b (s.bun b).pending <;> rfl

theorem State.validate_eq {s : State} {b : BundleId} {p : Record} (kind : kindMatches (s.trib p.port).cfg.kind p.slots = true) :
    s.validate b p = if s.conflicts b (payloadClamp p) then .error .conflict
      else if 4096 < s.poolSumWith b (sizeRing (payloadClamp p)).2 then .error .noSpace
      else .ok (sizeRing (payloadClamp p)) := by
  unfold State.validate
  rw [kind]
  rfl

theorem activate_validated {s : State} {cp : CtrlPort} {b : BundleId} (loaded : s.load ≠ .loading)
    (held : s.holder (.bundle b) = some cp) (idle : (s.bun b).armed = none) :
    activate cp b.val s = match s.validate b (s.bun b).pending with
      | .error status => s.refuse cp 8 status
      | .ok (r, size) => (s.modBun b fun x => { x with pending := r, armed := some size }).decide cp 8
          (if r != (s.bun b).pending then .clamped else .ok) r.raw.bytes := by
  rw [activate_eq loaded, if_neg (not_not.2 held), idle]
  rfl

theorem activate_refused {s : State} {cp : CtrlPort} {b : BundleId} {status : Status} (loaded : s.load ≠ .loading)
    (held : s.holder (.bundle b) = some cp) (idle : (s.bun b).armed = none)
    (refused : s.validate b (s.bun b).pending = .error status) : activate cp b.val s = s.refuse cp 8 status := by
  rw [activate_validated loaded held idle, refused]

theorem activate_armed {s : State} {cp : CtrlPort} {b : BundleId} {r : Record} {size : Nat} (loaded : s.load ≠ .loading)
    (held : s.holder (.bundle b) = some cp) (idle : (s.bun b).armed = none)
    (valid : s.validate b (s.bun b).pending = .ok (r, size)) : activate cp b.val s =
      (s.modBun b fun x => { x with pending := r, armed := some size }).decide cp 8
        (if r != (s.bun b).pending then .clamped else .ok) r.raw.bytes := by
  rw [activate_validated loaded held idle, valid]

/-- Settles O42. -/
theorem activateValidatesAndArms : Obligations.ActivateValidatesAndArms := by
  intro s cp n loaded carried
  refine ⟨fun high => ?_, fun b p e hp _ => ?_⟩
  · refine handed_over_refused carried ?_
    unfold activate
    rw [if_neg (loading_eq_false loaded), bundleOf_eq_none high]
    rfl
  · subst e
    have clash : s.conflicts b (payloadClamp p) = true ↔ ∃ c o, c ≠ b ∧ InForce s c o ∧ o.port = p.port ∧
        ∃ m ∈ p.slots.toList, m ∈ o.slots.toList := by
      rw [State.conflicts_iff, payloadClamp_eq]
    refine ⟨fun other => ?_, fun held armed => ?_, fun held idle kind => ?_, fun held idle kind meets => ?_,
      fun held idle kind clear fpp depth need R sum hfpp _ hdepth hneed sizes least holds hsum => ?_⟩
    · exact handed_over_refused carried ((activate_eq loaded cp b).trans (if_pos other))
    · refine handed_over_refused carried ((activate_eq loaded cp b).trans ?_)
      rw [if_neg (not_not.2 held), if_pos (Option.isSome_iff_ne_none.2 armed)]
    · refine handed_over_refused carried (activate_refused loaded held idle ?_)
      rw [← hp]
      unfold State.validate
      rw [kind]
      rfl
    · refine handed_over_refused carried (activate_refused loaded held idle ?_)
      rw [← hp, State.validate_eq kind, if_pos (clash.2 meets)]
    · have clamped : payloadClamp p = { p with fpp := fpp } := by rw [payloadClamp_eq, hfpp]
      have sized := sizeRing_eq (r := { p with fpp := fpp }) hdepth hneed sizes least holds
      have valid := State.validate_eq (b := b) kind
      have pool : s.poolSumWith b R = sum := hsum.symm
      rw [if_neg fun k => clear (clash.1 k), clamped, sized] at valid
      simp only [pool, hp] at valid
      refine ⟨fun full => ?_, fun fits => ?_⟩
      · rw [if_pos full] at valid
        exact handed_over_refused carried (activate_refused loaded held idle valid)
      · rw [if_neg (Nat.not_lt.2 fits)] at valid
        refine ⟨_, _, _, handed_over carried (activate_armed loaded held idle valid), rfl, fun c ne => ?_, ?_, ?_,
          Posts.answers (.of_ctrls rfl) .., ?_⟩
        · exact (State.bun_decide ..).trans (State.bun_modBun_ne _ _ ne)
        · rw [hp]
        · exact (State.bun_decide ..).trans (State.bun_modBun_self ..)
        · rw [hp]; exact (if_congr bne_iff_ne rfl rfl).trans (ite_not ..)

end Sys2Proof.Machine
end

section
/-! A bundle's steps outside PLAYING, the stop of its blocks (R37), START, STOP and FREE (R36 to R38): O44. -/

namespace Sys2Proof.Machine

open Safety

/-! ## A step within one bundle and the queues -/

/-- Nothing changes but bundle `b`, the transmit queues and the control ports. -/
structure Confined (b : BundleId) (s t : State) : Prop where
  rest : t = { s with bundles := t.bundles, nets := t.nets, ctrls := t.ctrls }
  others : OtherBundles s t b

theorem Confined.refl (b : BundleId) (s : State) : Confined b s s := ⟨rfl, fun _ _ => rfl⟩

theorem Confined.trans {b : BundleId} {s t u : State} (h : Confined b s t) (k : Confined b t u) : Confined b s u where
  rest := by rw [k.rest, h.rest]
  others c ne := (k.others c ne).trans (h.others c ne)

theorem Confined.now {b : BundleId} {s t : State} (h : Confined b s t) : t.now = s.now := by rw [h.rest]

theorem Confined.tribs {b : BundleId} {s t : State} (h : Confined b s t) : t.tribs = s.tribs := by rw [h.rest]

theorem Confined.ite {b : BundleId} {s t u : State} {c : Prop} [Decidable c] (h : Confined b s t) (k : Confined b s u) :
    Confined b s (if c then t else u) := by split <;> assumption

theorem Confined.modBun (s : State) (b : BundleId) (f : Bundle → Bundle) : Confined b s (s.modBun b f) :=
  ⟨rfl, fun _ ne => State.bun_modBun_ne s f ne⟩

theorem Confined.modPlayout (s : State) (b : BundleId) (f : Playout → Playout) : Confined b s (s.modPlayout b f) :=
  .modBun s b fun x => { x with playout := f x.playout }

theorem Confined.modDelay (s : State) (b : BundleId) (f : Delay → Delay) : Confined b s (s.modDelay b f) :=
  .modBun s b fun x => { x with delay := f x.delay }

theorem Confined.modSupervisor (s : State) (b : BundleId) (f : Supervisor → Supervisor) :
    Confined b s (s.modSupervisor b f) := .modBun s b fun x => { x with supervisor := f x.supervisor }

theorem Confined.modAssembly (s : State) (b : BundleId) (f : Assembly → Assembly) : Confined b s (s.modAssembly b f) :=
  .modBun s b fun x => { x with assembly := f x.assembly }

theorem Confined.post (s : State) (b : BundleId) (k : EventKind) (j : Subject) (d : Nat) : Confined b s (s.post k j d) :=
  ⟨rfl, fun _ _ => rfl⟩

theorem Confined.postIf (s : State) (b : BundleId) (c : Bool) (k : EventKind) (j : Subject) (d : Nat) :
    Confined b s (s.postIf c k j d) := .ite (.post ..) (.refl ..)

theorem Confined.withdraw (s : State) (b : BundleId) : Confined b s (s.withdraw b) := by
  have gone : Confined b s { s with nets := s.nets.map (Net.withdraw (b := b)) } := ⟨rfl, fun _ _ => rfl⟩
  exact gone.trans (.modAssembly _ b fun a => { a with held := [] })

theorem Confined.setMismatch (s : State) (b : BundleId) (flag : Bool) : Confined b s (s.setMismatch b flag) := by
  have set : ∀ f : Selector → Selector, Confined b s (s.modSelector b f) := fun f =>
    .modSupervisor s b fun x => { x with selector := f x.selector }
  exact .ite (.refl ..) ((set _).trans (.post ..))

theorem Confined.startPaths (s : State) (b : BundleId) (r : Record) : Confined b s (s.startPaths b r) :=
  .modSupervisor ..

theorem Confined.decide (s : State) (b : BundleId) (cp : CtrlPort) (kind : Nat) (status : Status) (content : List Byte) :
    Confined b s (s.decide cp kind status content) := ⟨rfl, fun _ _ => rfl⟩

/-- Nothing changes but bundle `b`, the transmit queues, the tributary ports and the control ports. -/
structure Stirred (b : BundleId) (s t : State) : Prop where
  rest : t = { s with bundles := t.bundles, nets := t.nets, tribs := t.tribs, ctrls := t.ctrls }
  others : OtherBundles s t b

theorem Stirred.trans {b : BundleId} {s t u : State} (h : Stirred b s t) (k : Stirred b t u) : Stirred b s u where
  rest := by rw [k.rest, h.rest]
  others c ne := (k.others c ne).trans (h.others c ne)

theorem Confined.stirred {b : BundleId} {s t : State} (h : Confined b s t) : Stirred b s t :=
  ⟨by rw [h.rest], h.others⟩

theorem Local.stirred {b : BundleId} {s t : State} (h : Local b s t) : Stirred b s t :=
  ⟨by rw [h.rest], h.others⟩

theorem Tunes.confined {b : BundleId} {s t : State} (h : Tunes b s t) (state : (s.bun b).state ≠ .playing) :
    Confined b s t where
  rest := by
    refine h.within.rest.trans ?_
    rw [h.tribs state, ← h.within.nets]
  others := h.within.others

/-- A change of state abandons steering where it leaves PLAYING (R162). -/
theorem Confined.changeState {s : State} {b : BundleId} (state : (s.bun b).state ≠ .playing) (new : BState)
    (cause : StateCause) : Confined b s (s.changeState b new cause) := by
  unfold State.changeState
  simp only
  rw [if_neg (by simp [state])]
  exact (Confined.modBun s b fun x => { x with state := new }).trans (.post ..)

theorem State.steering_changeState {s : State} {b : BundleId} (state : (s.bun b).state = .playing) {new : BState}
    (leaves : new ≠ .playing) (cause : StateCause) : SteeringAbandoned s (s.changeState b new cause) b := fun p => by
  unfold State.changeState
  simp only
  rw [if_pos (by simp [state, leaves])]
  exact State.trib_abandonSteering ..

theorem steeringAbandoned_of_tribs {s t u v : State} {b : BundleId} (h : SteeringAbandoned t u b)
    (before : t.tribs = s.tribs) (after : v.tribs = u.tribs) : SteeringAbandoned s v b := fun p => by
  have own : v.trib p = u.trib p := by simp only [State.trib, after]
  have old : t.trib p = s.trib p := by simp only [State.trib, before]
  rw [own, h p, old]

/-! ## A target computation outside PLAYING and WAIT_ESTIMATE (R124 to R126) -/

/-- Delay records and timers as they were: the target, the flags and the raw depth may differ. -/
structure DelayKept (d e : Delay) : Prop where
  echo : e.echo = d.echo
  record : e.record = d.record
  proposed : e.proposed = d.proposed
  alert : e.alertTimer = d.alertTimer

theorem DelayKept.cleared {d e : Delay} (h : DelayKept d e) (k : DelayCleared d) : DelayCleared e :=
  ⟨fun p => by rw [h.echo]; exact k.echo p, fun p => by rw [h.record]; exact k.tracking p,
    h.proposed.trans k.proposed, h.alert.trans k.alert⟩

theorem DelayKept.trans {d e f : Delay} (h : DelayKept d e) (k : DelayKept e f) : DelayKept d f :=
  ⟨k.echo.trans h.echo, k.record.trans h.record, k.proposed.trans h.proposed, k.alert.trans h.alert⟩

/-- A bundle whose target and equalisation flags alone may differ. -/
def Retimed (x y : Bundle) : Prop := ∃ d, DelayKept x.delay d ∧ y = { x with delay := d }

theorem Retimed.modDelay {s t : State} {b : BundleId} (h : Retimed (s.bun b) (t.bun b)) {f : Delay → Delay}
    (k : ∀ d, DelayKept d (f d)) : Retimed (s.bun b) ((t.modDelay b f).bun b) := by
  obtain ⟨d, kept, own⟩ := h
  exact ⟨f d, kept.trans (k d), by rw [State.bun_modDelay_self, own]⟩

theorem State.bun_computeTarget_idle {s : State} {b : BundleId} (state : (s.bun b).state ≠ .playing)
    (phase : (s.bun b).playout.phase ≠ .waitEstimate) : Retimed (s.bun b) ((s.computeTarget b).bun b) := by
  cases active : (s.bun b).active with
  | none => exact ⟨_, ⟨rfl, rfl, rfl, rfl⟩, by rw [State.computeTarget_of_none active]⟩
  | some r =>
    have flags := (s.setEqualiseFlags_spec b ((s.bun b).computation r)).2.1 b
    rw [if_pos rfl] at flags
    have waits : (s.setEqualiseFlags b ((s.bun b).computation r)).endEstimateWait b ((s.bun b).computation r).found =
        s.setEqualiseFlags b ((s.bun b).computation r) := if_neg (by rw [flags]; simp [phase])
    have own : Retimed (s.bun b) ((s.setEqualiseFlags b ((s.bun b).computation r)).bun b) := by
      rw [flags]
      exact ⟨{ (s.bun b).delay with
        short := ((s.bun b).computation r).short
        long := ((s.bun b).computation r).long
        rawDepth := ((s.bun b).computation r).raw }, ⟨rfl, rfl, rfl, rfl⟩, rfl⟩
    have set : ∀ target, Retimed (s.bun b)
        (((s.setEqualiseFlags b ((s.bun b).computation r)).setTarget b target).bun b) := fun _ =>
      own.modDelay fun _ => ⟨rfl, rfl, rfl, rfl⟩
    unfold State.computeTarget
    simp only [active, waits]
    split
    · next playing => exact absurd playing state
    · exact set _
    · exact set _
    · exact set _
    · exact own

/-! ## Entry to STOPPED (R37) -/

/-- A bundle whose blocks have stopped. -/
def Bundle.halted (x : Bundle) : Bundle :=
  { x with
    assembly := x.assembly.stopped
    playout := x.playout.emptied
    delay := x.delay.clear false
    supervisor := { x.supervisor.stopTimers with
      selector := { x.supervisor.stopTimers.selector with mismatch := false } } }

/-- What the blocks post as they stop: an adjustment abandoned, then a mismatch flag cleared. -/
def haltEvents (s : State) (b : BundleId) : List Event :=
  (if (s.bun b).playout.adjust.isSome then [eventNow s .depthAdjust (.bundle b) (3 * 67108864)] else []) ++
    (if (s.bun b).supervisor.selector.mismatch then
      [eventNow s .pathMismatch (.bundle b) ((s.bun b).supervisor.selector.active.code * 256 +
        announcementCode (s.bun b).supervisor.selector.announcement)] else [])

theorem State.bun_withdraw (s : State) (b : BundleId) :
    (s.withdraw b).bun b = { s.bun b with assembly := { (s.bun b).assembly with held := [] } } := by
  unfold State.withdraw
  exact State.bun_modAssembly_self ..

/-- The blocks but the supervisor stopped. -/
def State.stopStore (s : State) (b : BundleId) : State :=
  ((s.emptyRing b).stopAssembly b).modDelay b fun d => d.clear false

theorem State.stopStore_spec (s : State) (b : BundleId) :
    Confined b s (s.stopStore b) ∧ (s.stopStore b).nets = (s.withdraw b).nets ∧
    (s.stopStore b).bun b = { s.bun b with
      assembly := (s.bun b).assembly.stopped
      playout := (s.bun b).playout.emptied
      delay := (s.bun b).delay.clear false } ∧
    Posts s (s.stopStore b)
      (if (s.bun b).playout.adjust.isSome then [eventNow s .depthAdjust (.bundle b) (3 * 67108864)] else []) := by
  have abandoned : Confined b s (s.postAbandoned b) := .postIf ..
  have emptied : Confined b s (s.emptyRing b) := abandoned.trans (.modPlayout ..)
  have stopped : Confined b (s.emptyRing b) ((s.emptyRing b).stopAssembly b) :=
    (Confined.withdraw ..).trans (.modAssembly ..)
  have same : (s.postAbandoned b).nets = s.nets := by
    unfold State.postAbandoned State.postIf; split <;> rfl
  refine ⟨(emptied.trans stopped).trans (.modDelay ..), ?_, ?_, ?_⟩
  · change (s.postAbandoned b).nets.map (Net.withdraw (b := b)) = s.nets.map (Net.withdraw (b := b))
    rw [same]
  · unfold State.stopStore State.stopAssembly State.emptyRing
    rw [State.bun_modDelay_self, State.bun_modAssembly_self, State.bun_withdraw, State.bun_modPlayout_self]
    unfold State.postAbandoned
    rw [State.bun_postIf]
    rfl
  · exact Posts.trans (Posts.postIf s (s.bun b).playout.adjust.isSome .depthAdjust (.bundle b) (adjustDetail 3 0 0))
      (.of_ctrls (t := s.stopStore b) rfl) |> fun h => by rwa [List.append_nil] at h

/-- Entry to STOPPED: the ring, the assembly, the queued entries and the delay records are given up, the timers of
the supervisor stop and its mismatch flag is cleared (R37). -/
theorem State.stopBlocks_spec (s : State) (b : BundleId) :
    Confined b s (s.stopBlocks b) ∧ (s.stopBlocks b).nets = (s.withdraw b).nets ∧
    (s.stopBlocks b).bun b = (s.bun b).halted ∧ Posts s (s.stopBlocks b) (haltEvents s b) := by
  obtain ⟨confined, nets, own, posts⟩ := s.stopStore_spec b
  have parts : s.stopBlocks b = ((s.stopStore b).modSupervisor b Supervisor.stopTimers).setMismatch b false := rfl
  obtain ⟨cleared, told⟩ := ((s.stopStore b).modSupervisor b Supervisor.stopTimers).setMismatch_spec b false
  have before : ((s.stopStore b).modSupervisor b Supervisor.stopTimers).bun b = { s.bun b with
      assembly := (s.bun b).assembly.stopped
      playout := (s.bun b).playout.emptied
      delay := (s.bun b).delay.clear false
      supervisor := (s.bun b).supervisor.stopTimers } := by rw [State.bun_modSupervisor_self, own]
  have settled : Confined b (s.stopStore b) (s.stopBlocks b) :=
    (Confined.modSupervisor (s.stopStore b) b Supervisor.stopTimers).trans (.setMismatch ..)
  refine ⟨confined.trans settled, ?_, ?_, ?_⟩
  · rw [← nets, parts]
    exact (Local.setMismatch ..).nets
  · rw [parts, cleared, before]
    rfl
  · have now : ((s.stopStore b).modSupervisor b Supervisor.stopTimers).now = s.now := confined.now
    rw [before, eventNow_of_now now] at told
    have timed : Posts (s.stopStore b) ((s.stopStore b).modSupervisor b Supervisor.stopTimers) [] := .of_ctrls rfl
    have flagged : (if false = (s.bun b).supervisor.selector.mismatch then ([] : List Event) else
        [eventNow s .pathMismatch (.bundle b) (false.toNat * 2147483648 +
          (s.bun b).supervisor.selector.active.code * 256 +
            announcementCode (s.bun b).supervisor.selector.announcement)]) =
        if (s.bun b).supervisor.selector.mismatch then
          [eventNow s .pathMismatch (.bundle b) ((s.bun b).supervisor.selector.active.code * 256 +
            announcementCode (s.bun b).supervisor.selector.announcement)] else [] := by
      cases (s.bun b).supervisor.selector.mismatch with
      | false => rfl
      | true => exact congrArg (fun n => [eventNow s .pathMismatch (.bundle b) n]) (by simp)
    rw [parts]
    unfold haltEvents
    rw [← flagged]
    exact Posts.trans posts (Posts.trans timed told)

theorem Bundle.halted_spec (x : Bundle) :
    RingEmpty x.halted.playout x.playout.ring.length ∧ x.halted.assembly.buffer = [] ∧ x.halted.assembly.held = [] ∧
    DelayCleared x.halted.delay ∧ x.halted.supervisor.startWait = none ∧
    (∀ p, (x.halted.supervisor.path.atPath p).lossTimer = none ∧
      (x.halted.supervisor.path.atPath p).state = (x.supervisor.path.atPath p).state) ∧
    x.halted.supervisor.selector.mismatch = false :=
  ⟨⟨rfl, rfl, rfl, rfl⟩, rfl, rfl, delayCleared_clear .., rfl, fun p => by cases p <;> exact ⟨rfl, rfl⟩, rfl⟩

/-! ## START (R36) -/

/-- A STOPPED bundle that has taken START: every block at its start, in FILLING. -/
def Bundle.opened (x : Bundle) (r : Record) (timer : Timer) : Bundle :=
  { x with
    state := .filling
    assembly := .start
    playout := .fresh x.playout.ring.length
    delay := x.delay.clear true
    supervisor := .started r timer }

/-- START's blocks, before its change of state. -/
def State.startBlocks (s : State) (b : BundleId) (r : Record) : State :=
  (((s.restartAssembly b).modPlayout b fun p => .fresh p.ring.length).modDelay b fun d => d.clear true).startPaths b r

theorem State.startBlocks_spec (s : State) (b : BundleId) (r : Record) :
    Confined b s (s.startBlocks b r) ∧ (s.startBlocks b r).nets = (s.withdraw b).nets ∧
    (s.startBlocks b r).bun b = { (s.bun b).opened r (s.afterMs r.lossTime) with state := (s.bun b).state } ∧
    Posts s (s.startBlocks b r) [] := by
  refine ⟨?_, rfl, ?_, .of_ctrls rfl⟩
  · have assembled : Confined b s (s.restartAssembly b) := (Confined.withdraw ..).trans (.modAssembly ..)
    exact ((assembled.trans (.modPlayout ..)).trans (.modDelay ..)).trans (.startPaths ..)
  · unfold State.startBlocks State.startPaths
    rw [State.bun_modSupervisor_self, State.bun_modDelay_self, State.bun_modPlayout_self, State.bun_restartAssembly]
    rfl

/-- START takes a STOPPED bundle to FILLING, its blocks at their start values (R36). -/
theorem State.startBundle_spec {s : State} {b : BundleId} (stopped : (s.bun b).state = .stopped) (r : Record) :
    Confined b s (s.startBundle b r) ∧ NothingQueued (s.startBundle b r) b ∧
    Retimed ((s.bun b).opened r (s.afterMs r.lossTime)) ((s.startBundle b r).bun b) ∧
    ∃ es, Posts s (s.startBundle b r) (bundleStateEvent s b .stopped .filling .start :: es) := by
  obtain ⟨confined, nets, own, posts⟩ := s.startBlocks_spec b r
  have parts : s.startBundle b r = ((s.startBlocks b r).changeState b .filling .start).computeTarget b := rfl
  have state : ((s.startBlocks b r).bun b).state = .stopped := by rw [own]; exact stopped
  have changed := (s.startBlocks b r).bun_changeState b .filling .start
  rw [own] at changed
  have told := Posts.changeState (s.startBlocks b r) b .filling .start
  rw [state, bundleStateEvent, eventNow_of_now confined.now] at told
  have moved : Confined b (s.startBlocks b r) ((s.startBlocks b r).changeState b .filling .start) :=
    .changeState (by rw [state]; exact nofun) ..
  have idle : (((s.startBlocks b r).changeState b .filling .start).bun b).state ≠ .playing := by rw [changed]; exact nofun
  have target := Tunes.computeTarget ((s.startBlocks b r).changeState b .filling .start) b
  rw [parts]
  refine ⟨(confined.trans moved).trans (target.confined idle), nothingQueued_of_withdraw (s := s) ?_, ?_, ?_⟩
  · rw [target.within.nets, (Local.changeState ..).nets, nets]
  · have retimed := State.bun_computeTarget_idle idle (by rw [changed]; exact nofun)
    rw [changed] at retimed
    exact retimed
  · obtain ⟨es, more⟩ := target.posts
    exact ⟨es, Posts.trans posts (Posts.trans told more)⟩

theorem State.canStart_iff {s : State} {b : BundleId} {r : Record} : s.canStart b r = true ↔
    (s.bun b).state = .stopped ∧ (s.bun b).recordFault = false ∧ (s.trib r.port).cfg.kind ≠ .disabled := by
  simp [State.canStart, and_assoc]

theorem start_eq {s : State} (loaded : s.load ≠ .loading) (cp : CtrlPort) (b : BundleId) :
    start cp b.val s = match (s.bun b).active with
      | none => s.refuse cp 9 .badState
      | some r => if s.canStart b r then (s.startBundle b r).decide cp 9 .ok [] else s.refuse cp 9 .badState := by
  unfold start
  rw [if_neg (loading_eq_false loaded), bundleOf_val]
  rfl

theorem start_started {s : State} (loaded : s.load ≠ .loading) (cp : CtrlPort) {b : BundleId} {r : Record}
    (active : (s.bun b).active = some r) (can : s.canStart b r = true) :
    start cp b.val s = (s.startBundle b r).decide cp 9 .ok [] := by
  rw [start_eq loaded, active]
  exact if_pos can

theorem start_refused {s : State} (loaded : s.load ≠ .loading) (cp : CtrlPort) {b : BundleId}
    (h : (s.bun b).active = none ∨ (s.bun b).state ≠ .stopped ∨ (s.bun b).recordFault = true ∨
      ∃ r, (s.bun b).active = some r ∧ (s.trib r.port).cfg.kind = .disabled) :
    start cp b.val s = s.refuse cp 9 .badState := by
  rw [start_eq loaded]
  cases active : (s.bun b).active with
  | none => rfl
  | some r =>
    refine if_neg fun can => ?_
    obtain ⟨stopped, sound, enabled⟩ := State.canStart_iff.1 can
    rcases h with none | moved | faulted | ⟨q, own, disabled⟩
    · rw [active] at none; cases none
    · exact moved stopped
    · rw [sound] at faulted; cases faulted
    · obtain rfl : r = q := Option.some.inj (active.symm.trans own)
      exact enabled disabled

/-! ## STOP (R37) -/

/-- A running bundle stopped by a request. -/
def State.stopBundle (s : State) (b : BundleId) : State :=
  ((s.stopBlocks b).changeState b .stopped .stop).computeTarget b

theorem stop_running {s : State} (loaded : s.load ≠ .loading) (cp : CtrlPort) {b : BundleId}
    (running : (s.bun b).state.running = true) : stop cp b.val s = (s.stopBundle b).decide cp 10 .ok [] := by
  unfold stop
  rw [if_neg (loading_eq_false loaded), bundleOf_val]
  cases state : (s.bun b).state with
  | free => rw [state] at running; cases running
  | stopped => rw [state] at running; cases running
  | _ => simp only [state]; rfl

theorem stop_stopped {s : State} (loaded : s.load ≠ .loading) (cp : CtrlPort) {b : BundleId}
    (state : (s.bun b).state = .stopped) : stop cp b.val s = s.decide cp 10 .ok [] := by
  unfold stop
  rw [if_neg (loading_eq_false loaded), bundleOf_val]
  simp only [state]
  rfl

theorem stop_free {s : State} (loaded : s.load ≠ .loading) (cp : CtrlPort) {b : BundleId}
    (state : (s.bun b).state = .free) : stop cp b.val s = s.refuse cp 10 .badState := by
  unfold stop
  rw [if_neg (loading_eq_false loaded), bundleOf_val]
  simp only [state]
  rfl

/-- What STOP leaves of a running bundle and of the ports (R37, R162). -/
structure StoppedBy (b : BundleId) (s t : State) : Prop where
  stirred : Stirred b s t
  steer : ∀ p, t.trib p = { s.trib p with steer := (t.trib p).steer }
  abandoned : (s.bun b).state = .playing → SteeringAbandoned s t b
  kept : (s.bun b).state ≠ .playing → t.tribs = s.tribs
  bundle : Retimed { (s.bun b).halted with state := .stopped } (t.bun b)
  queued : NothingQueued t b
  posts : ∃ es, bundleStateEvent s b (s.bun b).state .stopped .stop ∈ es ∧ Posts s t es

theorem State.stopBundle_spec (s : State) (b : BundleId) : StoppedBy b s (s.stopBundle b) := by
  obtain ⟨confined, nets, own, posts⟩ := s.stopBlocks_spec b
  have changed := (s.stopBlocks b).bun_changeState b .stopped .stop
  have state : ((s.stopBlocks b).bun b).state = (s.bun b).state := by rw [own]; rfl
  have told := Posts.changeState (s.stopBlocks b) b .stopped .stop
  rw [state, bundleStateEvent, eventNow_of_now confined.now] at told
  have moved := Local.changeState (s.stopBlocks b) b .stopped .stop
  rw [own] at changed
  have idle : (((s.stopBlocks b).changeState b .stopped .stop).bun b).state ≠ .playing := by rw [changed]; exact nofun
  have target := Tunes.computeTarget ((s.stopBlocks b).changeState b .stopped .stop) b
  have last := target.confined idle
  have same : ∀ p, (s.stopBlocks b).trib p = s.trib p := fun p => by simp only [State.trib, confined.tribs]
  refine ⟨(confined.stirred.trans moved.stirred).trans last.stirred, fun p => ?_, fun playing => ?_, fun calm => ?_, ?_,
    ?_, ?_⟩
  · have end_ : (s.stopBundle b).trib p = ((s.stopBlocks b).changeState b .stopped .stop).trib p := by
      simp only [State.trib]; exact congrArg (·[p]) last.tribs
    rw [end_, moved.tribs p, same]
  · have left : SteeringAbandoned (s.stopBlocks b) ((s.stopBlocks b).changeState b .stopped .stop) b :=
      State.steering_changeState (new := .stopped) (state.trans playing) nofun .stop
    exact steeringAbandoned_of_tribs left confined.tribs last.tribs
  · exact last.tribs.trans ((Confined.changeState (by rw [state]; exact calm) ..).tribs.trans confined.tribs)
  · have retimed := State.bun_computeTarget_idle idle (by rw [changed]; exact nofun)
    rw [changed] at retimed
    exact retimed
  · refine nothingQueued_of_withdraw (s := s) ?_
    exact target.within.nets.trans (moved.nets.trans nets)
  · obtain ⟨es, more⟩ := target.posts
    refine ⟨_, ?_, Posts.trans posts (Posts.trans told more)⟩
    exact List.mem_append_right _ (List.mem_append_left _ (List.mem_singleton_self _))

/-! ## FREE (R38) -/

theorem free_eq {s : State} (loaded : s.load ≠ .loading) (cp : CtrlPort) (b : BundleId) :
    free cp b.val s =
      if s.holder (.bundle b) = some cp.other then s.refuse cp 11 .heldElsewhere
      else if (s.bun b).armed ≠ none ∨ (s.bun b).state ≠ .stopped then s.refuse cp 11 .badState
      else (s.freeBundle b).decide cp 11 .ok [] := by
  unfold free
  rw [if_neg (loading_eq_false loaded), bundleOf_val]
  refine if_congr Iff.rfl rfl ?_
  by_cases armed : (s.bun b).armed = none
  · by_cases stopped : (s.bun b).state = .stopped
    · simp [armed, stopped, kindFree]
    · simp [armed, stopped, kindFree]
  · simp [armed, Option.isSome_iff_ne_none, kindFree]

theorem State.freeBundle_frame (s : State) (b : BundleId) : s.freeBundle b = { s with
    bundles := (s.freeBundle b).bundles, claims := (s.freeBundle b).claims, ctrls := (s.freeBundle b).ctrls } := rfl

theorem State.holder_freeBundle (s : State) (b : BundleId) (c : Machine.Section) :
    (s.freeBundle b).holder c = if c = .bundle b then none else s.holder c := by
  change (s.setHolder (.bundle b) none).holder c = _
  split
  · next e => rw [e, State.holder_setHolder_self]
  · next e => rw [State.holder_setHolder_ne _ _ e]

theorem Posts.freeBundle (s : State) (b : BundleId) :
    Posts s (s.freeBundle b) [bundleStateEvent s b (s.bun b).state .free .freed] := by
  have freed : ∀ u : State, u.now = s.now → u.ctrls = s.ctrls →
      Posts s (u.postBundleState b (s.bun b).state .free .freed) [bundleStateEvent s b (s.bun b).state .free .freed] :=
    fun u now ctrls => by
      have h := Posts.post u .bundleState (.bundle b)
        (StateCause.freed.code * 65536 + (s.bun b).state.code * 256 + BState.free.code)
      rw [eventNow_of_now now] at h
      unfold State.postBundleState changeDetail bundleStateEvent
      rw [Nat.zero_mul, Nat.zero_add]
      exact Posts.trans (.of_ctrls ctrls) h
  exact freed ((s.modBun b fun x => .freed x.delivery).setHolder (.bundle b) none) rfl rfl

/-- Settles O44. -/
theorem startStopAndFreeMoveTheBundle : Obligations.StartStopAndFreeMoveTheBundle := by
  intro s cp n loaded carried
  have starts : Carried s cp (.start cp n) := carried _ (by simp)
  have stops : Carried s cp (.stop cp n) := carried _ (by simp)
  have frees : Carried s cp (.free cp n) := carried _ (by simp)
  refine ⟨fun high => ?_, fun b x e hx => ?_⟩
  · have none := bundleOf_eq_none high
    refine ⟨handed_over_refused starts ?_, handed_over_refused stops ?_, handed_over_refused frees ?_⟩
    · unfold start; rw [if_neg (loading_eq_false loaded), none]; rfl
    · unfold stop; rw [if_neg (loading_eq_false loaded), none]; rfl
    · unfold free; rw [if_neg (loading_eq_false loaded), none]; rfl
  · subst e hx
    refine ⟨fun bad => ?_, fun r active stopped sound enabled => ?_, fun freed => ?_, fun stopped => ?_,
      fun running => ?_, fun held => ?_, fun free bad => ?_, fun free idle stopped => ?_⟩
    · exact handed_over_refused starts (start_refused loaded cp bad)
    · obtain ⟨confined, queued, ⟨d, kept, own⟩, es, posts⟩ := State.startBundle_spec stopped r
      have done := start_started loaded cp active (State.canStart_iff.2 ⟨stopped, sound, enabled⟩)
      generalize s.startBundle b r = t at confined queued own posts done
      have decided := confined.trans (.decide t b cp 9 .ok [])
      refine ⟨_, es, handed_over starts done, decided.rest, decided.others, ?_⟩
      · rw [State.bun_decide, own]
        exact ⟨rfl, rfl, rfl, rfl, rfl, queued, rfl, kept.cleared (delayCleared_clear ..), pathsFresh_started ..,
          pathsTimed_started .., Posts.answers posts ..⟩
    · exact handed_over_refused stops (stop_free loaded cp freed)
    · exact handed_over stops (stop_stopped loaded cp stopped)
    · have done := s.stopBundle_spec b
      obtain ⟨es, told, posts⟩ := done.posts
      obtain ⟨d, kept, own⟩ := done.bundle
      obtain ⟨empty, buffer, heldBack, cleared, wait, paths, flag⟩ := (s.bun b).halted_spec
      have stopped := stop_running loaded cp running
      generalize s.stopBundle b = t at done posts own stopped
      have decided := done.stirred.trans (Confined.decide t b cp 10 .ok []).stirred
      refine ⟨_, es, handed_over stops stopped, decided.rest, decided.others, done.steer,
        done.abandoned, done.kept, ?_⟩
      · rw [State.bun_decide, own]
        exact ⟨rfl, rfl, rfl, rfl, empty, buffer, heldBack, done.queued, kept.cleared cleared, wait, paths, flag, told,
          Posts.answers posts ..⟩
    · exact handed_over_refused frees ((free_eq loaded cp b).trans (if_pos held))
    · exact handed_over_refused frees ((free_eq loaded cp b).trans ((if_neg free).trans (if_pos bad)))
    · have good : ¬ ((s.bun b).armed ≠ none ∨ (s.bun b).state ≠ .stopped) := by simp [idle, stopped]
      have posts := Posts.freeBundle s b
      rw [stopped] at posts
      have own := s.bun_freeBundle b b
      rw [if_pos rfl] at own
      have done := (free_eq loaded cp b).trans ((if_neg free).trans (if_neg good))
      have rest := s.freeBundle_frame b
      have others : OtherBundles s (s.freeBundle b) b := fun c ne => (s.bun_freeBundle b c).trans (if_neg ne)
      have holder := s.holder_freeBundle b
      generalize s.freeBundle b = t at posts own done rest others holder
      refine ⟨_, handed_over frees done, ?_, others, ?_⟩
      · conv_lhs => rw [rest]
        rfl
      · rw [State.bun_decide, own]
        exact ⟨rfl, rfl, rfl, rfl, rfl, rfl, rfl, rfl, holder, Posts.answers posts ..⟩

end Sys2Proof.Machine
end

section
/-! A path lost, and the down condition reported (R96, R135, R138, R145): O58. -/

namespace Sys2Proof.Machine

open Safety

/-! ## Falling back from PLAYING (R39, R95, R127) -/

/-- A fall back from emptied ring and counters: the new state, the proposal of a PLAYING bundle dropped. -/
theorem State.bun_fallBack {s : State} {b : BundleId} {new : BState} (leaves : new ≠ .playing)
    (phase : (s.bun b).playout.phase ≠ .waitEstimate) (cause : StateCause) :
    Retimed { s.bun b with
      state := new
      delay := { (s.bun b).delay with
        proposed := if (s.bun b).state = .playing then none else (s.bun b).delay.proposed } }
      ((s.fallBack b new cause).bun b) := by
  have changed := s.bun_changeState b new cause
  unfold State.fallBack
  simp only
  split
  · have dropped : ((s.changeState b new cause).dropProposal b).bun b = { s.bun b with
        state := new, delay := { (s.bun b).delay with proposed := none } } := by
      unfold State.dropProposal
      rw [State.bun_modDelay_self, changed]
    have retimed := State.bun_computeTarget_idle (s := (s.changeState b new cause).dropProposal b)
      (by rw [dropped]; exact leaves) (by rw [dropped]; exact phase)
    rw [dropped] at retimed
    exact retimed
  · rw [changed]
    exact ⟨_, ⟨rfl, rfl, rfl, rfl⟩, rfl⟩

theorem Posts.fallBack (s : State) (b : BundleId) (new : BState) (cause : StateCause) :
    ∃ es, Posts s (s.fallBack b new cause) (bundleStateEvent s b (s.bun b).state new cause :: es) := by
  have told := Posts.changeState s b new cause
  unfold State.fallBack
  simp only
  split
  · obtain ⟨es, more⟩ := (Tunes.computeTarget ((s.changeState b new cause).dropProposal b) b).posts
    have dropped : Posts (s.changeState b new cause) ((s.changeState b new cause).dropProposal b) [] := .of_ctrls rfl
    exact ⟨_, Posts.trans told (Posts.trans dropped more)⟩
  · exact ⟨[], told⟩

/-! ## Path down (R96, R138) -/

/-- A bundle that enters DOWN: its ring empty, the rest but its delay unit's target as it was. -/
def Downed (x y : Bundle) : Prop :=
  ∃ d, y = { x with state := .down, playout := x.playout.emptied, delay := d }

theorem State.reportDown_running {s : State} {b : BundleId} (h : (s.bun b).state = .filling ∨ (s.bun b).state = .playing) :
    Downed (s.bun b) ((s.reportDown b).bun b) ∧
    ∃ es, bundleStateEvent s b (s.bun b).state .down .pathDown ∈ es ∧ Posts s (s.reportDown b) es := by
  have parts : s.reportDown b = (s.emptyRing b).fallBack b .down .pathDown := if_pos (by simpa using h)
  have emptied := s.bun_emptyRing b
  have state : ((s.emptyRing b).bun b).state = (s.bun b).state := by rw [emptied]
  have now : (s.emptyRing b).now = s.now := by rw [(Local.emptyRing s b).rest]
  rw [parts]
  refine ⟨?_, ?_⟩
  · obtain ⟨d, -, own⟩ := State.bun_fallBack (s := s.emptyRing b) (b := b) (new := .down) nofun
      (by rw [emptied]; exact nofun) .pathDown
    exact ⟨d, by rw [own, emptied]⟩
  · obtain ⟨es, told⟩ := Posts.fallBack (s.emptyRing b) b .down .pathDown
    rw [state, bundleStateEvent, eventNow_of_now now] at told
    have before : Posts s (s.emptyRing b) _ := Posts.trans (Posts.postIf s _ _ _ _) (.of_ctrls rfl)
    exact ⟨_, List.mem_append_right _ List.mem_cons_self, Posts.trans before told⟩

theorem State.reportDown_idle {s : State} {b : BundleId}
    (h : ¬ ((s.bun b).state = .filling ∨ (s.bun b).state = .playing)) : s.reportDown b = s := if_neg (by simpa using h)

theorem Supervisor.downCondition_congr {x y : Supervisor} (h : y.path = x.path) (m : PathMode) :
    y.downCondition m = x.downCondition m := by
  cases m <;> simp only [Supervisor.downCondition, Supervisor.signalFail, h]

/-! ## A change of the path records (R137, R138, R140) -/

/-- The supervisor's record set, and a down condition that it makes true reported. -/
def State.superviseDown (s : State) (b : BundleId) (r : Record) (new : Supervisor) : State :=
  let u := s.modBun b fun x => { x with supervisor := new }
  if new.startWait.isNone && !(s.bun b).supervisor.downCondition r.pathMode && new.downCondition r.pathMode then
    u.reportDown b
  else u

/-- What follows is evaluations. -/
theorem Tunes.supervise (s : State) (b : BundleId) (r : Record) (new : Supervisor) :
    Tunes b (s.superviseDown b r new) (s.supervise b r new) := by
  have heard : ∀ c : Bool, Tunes b (s.superviseDown b r new)
      (if c then (s.superviseDown b r new).hearAnnouncement b else s.superviseDown b r new) := fun c =>
    .ite (.hearAnnouncement ..) (.refl ..)
  exact .ite ((heard _).trans (.evaluateSelector ..)) (heard _)

/-- The bundle's new record makes the down condition true, the start wait over. -/
def TurnsDown (x : Bundle) (r : Record) (new : Supervisor) : Prop :=
  new.startWait = none ∧ x.supervisor.downCondition r.pathMode = false ∧ new.downCondition r.pathMode = true ∧
    (x.state = .filling ∨ x.state = .playing)

theorem State.superviseDown_turns {s : State} {b : BundleId} {r : Record} {new : Supervisor}
    (h : TurnsDown (s.bun b) r new) :
    Downed { s.bun b with supervisor := new } ((s.superviseDown b r new).bun b) ∧
    ∃ es, bundleStateEvent s b (s.bun b).state .down .pathDown ∈ es ∧ Posts s (s.superviseDown b r new) es := by
  obtain ⟨wait, before, after, state⟩ := h
  have set := s.bun_modBun_self b fun x => { x with supervisor := new }
  have parts : s.superviseDown b r new = (s.modBun b fun x => { x with supervisor := new }).reportDown b :=
    if_pos (by simp [wait, before, after])
  obtain ⟨down, es, mem, posts⟩ := State.reportDown_running (s := s.modBun b fun x => { x with supervisor := new }) (b := b)
    (by rw [set]; exact state)
  rw [set] at down mem
  rw [parts]
  exact ⟨down, es, mem, Posts.trans (.of_ctrls rfl) posts⟩

theorem State.superviseDown_stays {s : State} {b : BundleId} {r : Record} {new : Supervisor}
    (h : ¬ TurnsDown (s.bun b) r new) :
    s.superviseDown b r new = s.modBun b fun x => { x with supervisor := new } := by
  have set := s.bun_modBun_self b fun x => { x with supervisor := new }
  unfold State.superviseDown
  simp only
  split
  · next cond =>
    simp only [Bool.and_eq_true, Bool.not_eq_true', Option.isNone_iff_eq_none] at cond
    obtain ⟨⟨wait, before⟩, after⟩ := cond
    refine State.reportDown_idle fun state => h ⟨wait, before, after, ?_⟩
    rw [set] at state
    exact state
  · rfl

/-- A change of the path records: the bundle enters DOWN where it makes the down condition true, and is tuned by the
evaluations that follow. -/
theorem State.supervise_spec (s : State) (b : BundleId) (r : Record) (new : Supervisor) :
    let x := s.bun b
    let y := (s.supervise b r new).bun b
    y.supervisor.path = new.path ∧ y.supervisor.startWait = new.startWait ∧
    y.supervisor.selector.announcement = new.selector.announcement ∧
    (TurnsDown x r new → y.state = .down ∧ RingEmpty y.playout x.playout.ring.length ∧
      Reported (s.supervise b r new) (bundleStateEvent s b x.state .down .pathDown)) ∧
    (¬ TurnsDown x r new → y.state = x.state) ∧ ∃ es, Posts s (s.supervise b r new) es := by
  intro x y
  have tunes := Tunes.supervise s b r new
  obtain ⟨es, more⟩ := tunes.posts
  by_cases turns : TurnsDown x r new
  · obtain ⟨⟨d, own⟩, fs, mem, posts⟩ := State.superviseDown_turns turns
    have tuned := tunes.bundle
    rw [own] at tuned
    refine ⟨tuned.path, tuned.startWait, tuned.announcement, fun _ => ⟨tuned.state, ?_, ?_⟩, fun k => absurd turns k, _,
      Posts.trans posts more⟩
    · have kept : y.playout = x.playout.emptied := (tuned.idle nofun nofun).1
      rw [kept]
      exact ⟨rfl, rfl, rfl, rfl⟩
    · exact (Posts.trans posts more).reported (List.mem_append_left _ mem)
  · have set := State.superviseDown_stays turns
    have tuned := tunes.bundle
    rw [set, State.bun_modBun_self] at tuned
    rw [set] at more
    exact ⟨tuned.path, tuned.startWait, tuned.announcement, fun k => absurd k turns, fun _ => tuned.state, _,
      Posts.trans (.of_ctrls rfl) more⟩

/-! ## The expiry of a loss timer (R135, R145) -/

theorem Supervisor.expirePath_self (x : Supervisor) (p : Path) :
    (x.expirePath p).path.atPath p = (x.path.atPath p).expire := Two.atPath_setPath_self ..

theorem Supervisor.expirePath_other (x : Supervisor) (p : Path) :
    (x.expirePath p).path.atPath p.other = x.path.atPath p.other := Two.atPath_setPath_other ..

/-- With neither path UP no announcement stays; the path that expired is none of them (R145). -/
theorem Supervisor.expirePath_announcement (x : Supervisor) (p : Path) :
    (x.expirePath p).selector.announcement =
      if (x.path.atPath p.other).state = .up then x.selector.announcement else none := by
  have none_up : ((x.path.setPath p (x.path.atPath p).expire).one.state != .up &&
      (x.path.setPath p (x.path.atPath p).expire).two.state != .up) = ((x.path.atPath p.other).state != .up) := by
    cases p
    · exact Bool.true_and _
    · exact Bool.and_true _
  unfold Supervisor.expirePath
  simp only [none_up]
  exact (if_congr bne_iff_ne rfl rfl).trans (ite_not ..)

theorem lossTimerExpiry_due {s : State} {b : BundleId} {p : Path} {r : Record} (active : (s.bun b).active = some r)
    (due : Due s ((s.bun b).supervisor.path.atPath p).lossTimer) : lossTimerExpiry b p s =
      (s.postIf (((s.bun b).supervisor.path.atPath p).state != .lost) .pathState (.bundlePath b p)
        (pathStateDetail ((s.bun b).supervisor.path.atPath p).state .lost)).supervise b r
          ((s.bun b).supervisor.expirePath p) := by
  unfold lossTimerExpiry
  simp only [active]
  exact if_pos ((State.due_iff ..).2 due)

theorem lossTimerExpiry_idle {s : State} {b : BundleId} {p : Path}
    (idle : ¬ Due s ((s.bun b).supervisor.path.atPath p).lossTimer) : lossTimerExpiry b p s = s := by
  unfold lossTimerExpiry
  simp only
  split
  · rfl
  · exact if_neg fun due => idle ((State.due_iff ..).1 due)

/-! ## The expiry of the start wait (R138) -/

theorem startWaitExpiry_due {s : State} {b : BundleId} {r : Record} (active : (s.bun b).active = some r)
    (due : Due s (s.bun b).supervisor.startWait) : startWaitExpiry b s =
      if (s.bun b).supervisor.downCondition r.pathMode then
        (s.modSupervisor b fun x => { x with startWait := none }).reportDown b
      else s.modSupervisor b fun x => { x with startWait := none } := by
  unfold startWaitExpiry
  simp only [active]
  exact if_pos ((State.due_iff ..).2 due)

theorem startWaitExpiry_idle {s : State} {b : BundleId} (idle : ¬ Due s (s.bun b).supervisor.startWait) :
    startWaitExpiry b s = s := by
  unfold startWaitExpiry
  simp only
  split
  · rfl
  · exact if_neg fun due => idle ((State.due_iff ..).1 due)

/-- Settles O58. -/
theorem lostPathsAndTheStartWaitReportDown : Obligations.LostPathsAndTheStartWaitReportDown := by
  intro s b p r x hx active
  subst hx
  refine ⟨fun idle => congrArg Host.Outcome.next (lossTimerExpiry_idle idle), fun due => ?_,
    fun idle => congrArg Host.Outcome.next (startWaitExpiry_idle idle), fun due => ?_⟩
  · have acts := lossTimerExpiry_due active due
    have posted := Local.postIf s b (((s.bun b).supervisor.path.atPath p).state != .lost) .pathState (.bundlePath b p)
      (pathStateDetail ((s.bun b).supervisor.path.atPath p).state .lost)
    have told := Posts.postIf s (((s.bun b).supervisor.path.atPath p).state != .lost) .pathState (.bundlePath b p)
      (pathStateDetail ((s.bun b).supervisor.path.atPath p).state .lost)
    have own := s.bun_postIf (((s.bun b).supervisor.path.atPath p).state != .lost) .pathState (.bundlePath b p)
      (pathStateDetail ((s.bun b).supervisor.path.atPath p).state .lost) b
    generalize s.postIf (((s.bun b).supervisor.path.atPath p).state != .lost) .pathState (.bundlePath b p)
      (pathStateDetail ((s.bun b).supervisor.path.atPath p).state .lost) = u at acts posted told own
    have whole := posted.trans (.supervise u b r ((s.bun b).supervisor.expirePath p))
    obtain ⟨path, -, announcement, down, stays, es, more⟩ := u.supervise_spec b r ((s.bun b).supervisor.expirePath p)
    rw [own] at down stays
    have now : u.now = s.now := by rw [posted.rest]
    rw [bundleStateEvent, eventNow_of_now now] at down
    have turned : TurnsDown (s.bun b) r ((s.bun b).supervisor.expirePath p) ↔
        (s.bun b).supervisor.startWait = none ∧ (s.bun b).supervisor.downCondition r.pathMode = false ∧
        (((u.supervise b r ((s.bun b).supervisor.expirePath p)).bun b).supervisor.downCondition r.pathMode = true) ∧
        ((s.bun b).state = .filling ∨ (s.bun b).state = .playing) := by
      rw [Supervisor.downCondition_congr path]; rfl
    refine ⟨_, _, congrArg Host.Outcome.next acts, rfl, whole.rest, whole.others, ?_, ?_, ?_, fun fell => ?_, ?_,
      fun ne => ?_⟩
    · rw [path]; exact Supervisor.expirePath_self ..
    · rw [path]; exact Supervisor.expirePath_other ..
    · rw [announcement]; exact Supervisor.expirePath_announcement ..
    · refine (Posts.trans told more).reported (List.mem_append_left _ ?_)
      have detail : pathStateDetail ((s.bun b).supervisor.path.atPath p).state .lost =
          ((s.bun b).supervisor.path.atPath p).state.code * 256 + 2 := by
        unfold pathStateDetail changeDetail; rw [Nat.zero_mul, Nat.zero_add]; rfl
      rw [if_pos (bne_iff_ne.2 fell), detail]
      exact List.mem_singleton_self _
    · by_cases turns : TurnsDown (s.bun b) r ((s.bun b).supervisor.expirePath p)
      · rw [if_pos (turned.1 turns)]; exact (down turns).1
      · rw [if_neg fun k => turns (turned.2 k)]; exact stays turns
    · by_cases turns : TurnsDown (s.bun b) r ((s.bun b).supervisor.expirePath p)
      · exact (down turns).2
      · exact absurd (stays turns) ne
  · have acts := startWaitExpiry_due active due
    have set := s.bun_modSupervisor_self b fun x => { x with startWait := none }
    have first := Local.modSupervisor s b fun x => { x with startWait := none }
    by_cases turns : (s.bun b).supervisor.downCondition r.pathMode = true ∧
        ((s.bun b).state = .filling ∨ (s.bun b).state = .playing)
    · obtain ⟨⟨d, own⟩, es, mem, posts⟩ := State.reportDown_running
        (s := s.modSupervisor b fun x => { x with startWait := none }) (b := b) (by rw [set]; exact turns.2)
      rw [set] at own mem
      rw [if_pos turns.1] at acts
      have whole := first.trans (.reportDown _ b)
      have moved : (s.bun b).state ≠ .down := by rcases turns.2 with e | e <;> rw [e] <;> exact nofun
      refine ⟨_, congrArg Host.Outcome.next acts, whole.rest, whole.others, by rw [own], by rw [own, if_pos turns], ?_, ?_⟩
      · intro same
        rw [own] at same
        exact absurd same.symm moved
      · intro _
        exact ⟨by rw [own]; exact ⟨rfl, rfl, rfl, rfl⟩, posts.reported mem⟩
    · have stays : startWaitExpiry b s = s.modSupervisor b fun x => { x with startWait := none } := by
        rw [acts]
        split
        · next down => exact State.reportDown_idle fun state => turns ⟨down, by rw [set] at state; exact state⟩
        · rfl
      refine ⟨_, congrArg Host.Outcome.next stays, first.rest, first.others, by rw [set], by rw [set, if_neg turns],
        fun _ => set, fun ne => absurd (by rw [set]) ne⟩

end Sys2Proof.Machine
end

section
/-! The selector: evaluations, its timers and the mismatch flag (R140 to R147): O59. -/

namespace Sys2Proof.Machine

open Safety

/-! ## A target computation leaves the supervisor (R124) -/

/-- The supervisor's record of bundle `b` stays. -/
def SameSupervisor (b : BundleId) (s t : State) : Prop := (t.bun b).supervisor = (s.bun b).supervisor

theorem SameSupervisor.trans {b : BundleId} {s t u : State} (h : SameSupervisor b s t) (k : SameSupervisor b t u) :
    SameSupervisor b s u := Eq.trans k h

theorem SameSupervisor.modDelay (s : State) (b : BundleId) (f : Delay → Delay) : SameSupervisor b s (s.modDelay b f) := by
  unfold SameSupervisor; rw [State.bun_modDelay_self]

theorem SameSupervisor.modPlayout (s : State) (b : BundleId) (f : Playout → Playout) :
    SameSupervisor b s (s.modPlayout b f) := by
  unfold SameSupervisor; rw [State.bun_modPlayout_self]

theorem SameSupervisor.refl (b : BundleId) (s : State) : SameSupervisor b s s := rfl

theorem SameSupervisor.startAdjust (s : State) (b : BundleId) (target : Nat) :
    SameSupervisor b s (s.startAdjust b target) := by
  have set : ∀ a, SameSupervisor b s (s.modPlayout b fun p => { p with adjust := a }) := fun _ => .modPlayout ..
  unfold State.startAdjust
  simp only
  split
  · exact set _
  · exact set _

theorem SameSupervisor.settlePlaying (s : State) (b : BundleId) (r : Record) (target : Nat) :
    SameSupervisor b s (s.settlePlaying b r target) := by
  have adopted : SameSupervisor b s (s.adoptPlaying b target) :=
    (SameSupervisor.modDelay s b fun d => { d with target := target }).trans (.startAdjust ..)
  have proposes : ∀ d n, SameSupervisor b s (s.propose b d n) := fun d _ =>
    .modDelay s b fun x => { x with proposed := d }
  unfold State.settlePlaying
  simp only
  split
  · split
    · exact adopted
    · split
      · exact .refl ..
      · exact proposes ..
  · split
    · exact proposes ..
    · exact .refl ..

theorem State.supervisor_computeTarget (s : State) (b : BundleId) :
    ((s.computeTarget b).bun b).supervisor = (s.bun b).supervisor := by
  change SameSupervisor b s (s.computeTarget b)
  unfold State.computeTarget
  simp only
  split
  · exact .refl ..
  · next r _ =>
    have flags : SameSupervisor b s (s.setEqualiseFlags b ((s.bun b).computation r)) := by
      have own := (s.setEqualiseFlags_spec b ((s.bun b).computation r)).2.1 b
      rw [if_pos rfl] at own
      unfold SameSupervisor
      rw [own]
    have waited : ∀ (u : State) found, SameSupervisor b u (u.endEstimateWait b found) := fun u found => by
      unfold State.endEstimateWait
      split
      · exact .modPlayout ..
      · exact .refl ..
    refine (flags.trans (waited _ ((s.bun b).computation r).found)).trans ?_
    split
    · exact .settlePlaying ..
    · exact .modDelay ..
    · exact .modDelay ..
    · exact .modDelay ..
    · exact .refl ..

/-! ## The mismatch flag brought up to date (R146) -/

theorem Selector.disagrees_iff (x : Selector) : x.disagrees = true ↔ Disagrees x := by
  unfold Selector.disagrees Disagrees
  cases announcedPath x.announcement <;> simp

theorem State.modBun_self {s : State} {b : BundleId} {f : Bundle → Bundle} (h : f (s.bun b) = s.bun b) :
    s.modBun b f = s := by
  unfold State.modBun
  rw [h]
  exact congrArg (fun v => { s with bundles := v }) (Vector.set_getElem_self b.isLt)

theorem State.bun_modSelector (s : State) (b : BundleId) (f : Selector → Selector) :
    (s.modSelector b f).bun b = { s.bun b with supervisor := { (s.bun b).supervisor with
      selector := f (s.bun b).supervisor.selector } } := State.bun_modSupervisor_self ..

theorem State.setMismatch_frame (s : State) (b : BundleId) (flag : Bool) : s.setMismatch b flag =
    { s with bundles := (s.setMismatch b flag).bundles, ctrls := (s.setMismatch b flag).ctrls } := by
  unfold State.setMismatch
  simp only
  split <;> rfl

/-- What R146 asks of the flag and of the timer. -/
theorem Selector.mismatchNext_spec (y : Selector) (r : Record) (now : Nat) :
    ((y.mismatchNext r now).1 = true ↔ Disagrees y ∧ (r.authority = .follower ∨ y.mismatch = true)) ∧
    (r.authority = .main ∧ Disagrees y ∧ y.mismatch = false →
      (y.mismatchNext r now).2 = some (y.mismatchTimer.getD (now + r.lossTime * 125000))) ∧
    (r.authority = .follower ∨ ¬ Disagrees y ∨ y.mismatch = true → (y.mismatchNext r now).2 = none) := by
  rw [← Selector.disagrees_iff]
  unfold Selector.mismatchNext
  cases r.authority with
  | follower => simp
  | main =>
    cases y.disagrees with
    | false => simp
    | true => cases y.mismatch <;> simp [Config.msTicks]

theorem State.updateMismatch_settles (u : State) (b : BundleId) (r : Record) :
    MismatchSettled u (u.updateMismatch b r) b r := by
  obtain ⟨flag, timer, next⟩ : ∃ flag timer, (u.bun b).supervisor.selector.mismatchNext r u.now = (flag, timer) := ⟨_, _, rfl⟩
  have law := (u.bun b).supervisor.selector.mismatchNext_spec r u.now
  have acts : u.updateMismatch b r = (u.modSelector b fun x => { x with mismatchTimer := timer }).setMismatch b flag := by
    unfold State.updateMismatch
    rw [next]
  rw [next] at law
  obtain ⟨own, posts⟩ := (u.modSelector b fun x => { x with mismatchTimer := timer }).setMismatch_spec b flag
  have timed := u.bun_modSelector b fun x => { x with mismatchTimer := timer }
  rw [timed] at own posts
  have local_ : Local b u (u.updateMismatch b r) := by
    rw [acts]; exact (Local.modSelector ..).trans (.setMismatch ..)
  refine ⟨flag, timer, ?_, local_.others, by rw [acts]; exact own, law.1, law.2.1, law.2.2, ?_⟩
  · rw [acts, State.setMismatch_frame]; rfl
  · rw [acts]
    exact Posts.trans (.of_ctrls rfl) posts

/-! ## One examination (Table 53) -/

/-- A selector that has switched to path `p` (R147). -/
def Selector.switchedTo (x : Selector) (p : Path) : Selector :=
  { x with
    active := p, holdOff := none, restore := none, switches := bump x.switches
    request := x.request.afterSwitch p }

/-- A switch up to its target computation. -/
def State.switched (s : State) (b : BundleId) (r : Record) (p : Path) (cause : SwitchCause) : State :=
  ((s.modSelector b fun x => x.switchedTo p).post .pathSwitch (.bundle b)
    (switchDetail (s.bun b).supervisor.selector.active p cause)).restartAlert b r

theorem State.pathSwitch_eq (s : State) (b : BundleId) (r : Record) (p : Path) (cause : SwitchCause) :
    s.pathSwitch b r p cause = (s.switched b r p cause).computeTarget b := rfl

theorem State.bun_switched (s : State) (b : BundleId) (r : Record) (p : Path) (cause : SwitchCause) :
    (s.switched b r p cause).bun b = { s.bun b with
      supervisor := { (s.bun b).supervisor with selector := (s.bun b).supervisor.selector.switchedTo p }
      delay := { (s.bun b).delay with alertTimer := some (s.now + r.alertHold * 125000000) } } := by
  unfold State.switched State.restartAlert
  rw [State.bun_modDelay_self, State.bun_post, State.bun_modSelector]
  rfl

theorem State.switched_spec (s : State) (b : BundleId) (r : Record) (p : Path) (cause : SwitchCause) :
    let u := s.switched b r p cause
    u = { s with bundles := u.bundles, ctrls := u.ctrls } ∧ OtherBundles s u b ∧
    Posts s u [eventNow s .pathSwitch (.bundle b)
      (cause.code * 65536 + (s.bun b).supervisor.selector.active.code * 256 + p.code)] := by
  intro u
  have within : Local b s u := ((Local.modSelector ..).trans (.post ..)).trans (.restartAlert ..)
  have posted := Posts.post (s.modSelector b fun x => x.switchedTo p) .pathSwitch (.bundle b)
    (switchDetail (s.bun b).supervisor.selector.active p cause)
  exact ⟨rfl, within.others, posted⟩

theorem LocalRequest.afterSwitch_eq (q : LocalRequest) (p : Path) :
    q.afterSwitch p = if q = .manual p.other then .none else q := by
  cases q with
  | manual q => cases p <;> cases q <;> rfl
  | _ => rfl

/-! ## Decisions (Table 53) -/

theorem Path.other_ne (p : Path) : p.other ≠ p := by cases p <;> exact nofun

theorem Path.eq_other_of_ne {p q : Path} (h : q ≠ p) : q = p.other := by
  revert h
  cases p <;> cases q <;> decide

theorem Supervisor.decision_lockout {x : Supervisor} (h : x.selector.request = .lockout) (r : Record) (e : Expired) :
    x.decision r e = stayOn x.selector.active r.primary .lockout := by
  unfold Supervisor.decision; rw [h]

theorem Supervisor.decision_forced {x : Supervisor} {q : Path} (h : x.selector.request = .forced q) (r : Record)
    (e : Expired) : x.decision r e = stayOn x.selector.active q .forced := by
  unfold Supervisor.decision; rw [h]

/-- A request that levels 1 and 2 leave to the lower ones. -/
def LocalRequest.Open (q : LocalRequest) : Prop := q ≠ .lockout ∧ ∀ p, q ≠ .forced p

theorem Supervisor.decision_open {x : Supervisor} (h : x.selector.request.Open) (r : Record) (e : Expired) :
    x.decision r e = x.decideOpen r e := by
  unfold Supervisor.decision
  split
  · next lockout => exact absurd lockout h.1
  · next q forced => exact absurd forced (h.2 q)
  · rfl

theorem Supervisor.decision_fail {x : Supervisor} (h : x.selector.request.Open)
    (fails : x.signalFail x.selector.active = true) (sound : x.signalFail x.selector.active.other = false) (r : Record)
    (e : Expired) : x.decision r e =
      if (r.holdOff = 0 ∧ x.selector.holdOff = none) ∨ e = .holdOff then .switch x.selector.active.other .signalFail
      else .holdOff := by
  rw [Supervisor.decision_open h]
  unfold Supervisor.decideOpen
  simp [fails, sound]

theorem Supervisor.not_failSwitch {x : Supervisor} (h : NoFailSwitch x) :
    (x.signalFail x.selector.active && !x.signalFail x.selector.active.other) = false := by
  rcases h with h | h <;> simp [h]

theorem Supervisor.decision_manual {x : Supervisor} {q : Path} (calm : NoFailSwitch x)
    (h : x.selector.request = .manual q) (r : Record) (e : Expired) : x.decision r e =
      if x.signalFail q then x.decideLow r e else stayOn x.selector.active q .manual := by
  rw [Supervisor.decision_open (by rw [h]; exact ⟨nofun, nofun⟩)]
  unfold Supervisor.decideOpen
  simp only [Supervisor.not_failSwitch calm, h]
  rfl

theorem Supervisor.decision_none {x : Supervisor} (calm : NoFailSwitch x) (h : x.selector.request = .none) (r : Record)
    (e : Expired) : x.decision r e = x.decideLow r e := by
  rw [Supervisor.decision_open (by rw [h]; exact ⟨nofun, nofun⟩)]
  unfold Supervisor.decideOpen
  simp only [Supervisor.not_failSwitch calm, h]
  rfl

theorem Supervisor.mayRestore_iff {x : Supervisor} {r : Record} : x.mayRestore r = true ↔
    r.revertive = true ∧ x.selector.active ≠ r.primary ∧ x.selector.request = .none ∧ x.signalFail r.primary = false ∧
      (r.authority = .main ∨ announcedPath x.selector.announcement = none) := by
  simp [Supervisor.mayRestore, and_assoc]

theorem Supervisor.follows_iff {x : Supervisor} {r : Record} {q : Path} : x.follows r = some q ↔
    announcedPath x.selector.announcement = some q ∧ r.authority = .follower ∧ q ≠ x.selector.active ∧
      x.signalFail q = false := by
  unfold Supervisor.follows
  cases announcedPath x.selector.announcement with
  | none => simp
  | some p =>
    simp only [Bool.and_eq_true, decide_eq_true_eq, bne_iff_ne, Bool.not_eq_true', Option.some.injEq]
    constructor
    · intro h
      split at h
      · next k => obtain rfl := Option.some.inj h; exact ⟨rfl, k.1.1, k.1.2, k.2⟩
      · cases h
    · rintro ⟨rfl, follower, ne, sound⟩
      exact if_pos ⟨⟨follower, ne⟩, sound⟩

theorem Supervisor.decideLow_restore {x : Supervisor} {r : Record} (h : x.mayRestore r = true) (e : Expired) :
    x.decideLow r e = if (r.waitRestore = 0 ∧ x.selector.restore = none) ∨ e = .restore then
      .switch r.primary .waitToRestore else .restore := by
  unfold Supervisor.decideLow
  simp [h]

theorem Supervisor.decideLow_follow {x : Supervisor} {r : Record} (h : x.mayRestore r = false) (e : Expired) :
    x.decideLow r e = match x.follows r with
      | some q => .switch q .follow
      | none => .stay := by
  unfold Supervisor.decideLow
  rw [h]
  rfl

theorem Supervisor.decideLow_stay {x : Supervisor} {r : Record} (restore : x.mayRestore r = false)
    (follow : x.follows r = none) (e : Expired) : x.decideLow r e = .stay := by
  rw [Supervisor.decideLow_follow restore, follow]

/-- No path off the active one is left to take where that is sound and the active one is not, or both fail. -/
theorem Supervisor.sound_of_calm {x : Supervisor} (calm : NoFailSwitch x) {q : Path} (ne : q ≠ x.selector.active)
    (sound : x.signalFail q = false) : x.signalFail x.selector.active = false := by
  obtain rfl := Path.eq_other_of_ne ne
  rcases calm with h | h
  · exact h
  · rw [sound] at h; cases h

/-! ## A switch decided, and what is decided after it (R140) -/

/-- The supervisor after a switch to path `p`. -/
def Supervisor.switchedTo (x : Supervisor) (p : Path) : Supervisor := { x with selector := x.selector.switchedTo p }

theorem Supervisor.signalFail_switchedTo (x : Supervisor) (p q : Path) : (x.switchedTo p).signalFail q = x.signalFail q :=
  rfl

/-- The levels that can call for a switch, each with its condition (Table 53). -/
inductive SwitchReason (x : Supervisor) (r : Record) : Path → Prop where
  | lockout (h : x.selector.request = .lockout) : SwitchReason x r r.primary
  | forced {q : Path} (h : x.selector.request = .forced q) : SwitchReason x r q
  | fail (h : x.selector.request.Open) (fails : x.signalFail x.selector.active = true)
      (sound : x.signalFail x.selector.active.other = false) : SwitchReason x r x.selector.active.other
  | manual {q : Path} (h : x.selector.request = .manual q) (sound : x.signalFail q = false) : SwitchReason x r q
  | restore (h : x.mayRestore r = true) : SwitchReason x r r.primary
  | follow {q : Path} (h : x.follows r = some q) (h' : x.selector.request.Open)
      (low : ∀ p, x.selector.request = .manual p → x.signalFail p = true) : SwitchReason x r q

theorem stayOn_switch {active q p : Path} {cause c : SwitchCause} (h : stayOn active q cause = .switch p c) :
    p = q ∧ p ≠ active := by
  unfold stayOn at h
  split at h
  · cases h
  · next ne => cases h; exact ⟨rfl, Ne.symm ne⟩

theorem stayOn_self (active : Path) (cause : SwitchCause) : stayOn active active cause = .stay := if_pos rfl

/-- A decision of the low levels to switch. -/
theorem Supervisor.reason_of_decideLow {x : Supervisor} {r : Record} {e : Expired} {p : Path} {c : SwitchCause}
    (h : x.decideLow r e = .switch p c) (open_ : x.selector.request.Open)
    (low : ∀ q, x.selector.request = .manual q → x.signalFail q = true) :
    SwitchReason x r p ∧ p ≠ x.selector.active := by
  cases may : x.mayRestore r with
  | true =>
    rw [Supervisor.decideLow_restore may] at h
    split at h
    · cases h; exact ⟨.restore may, Ne.symm (Supervisor.mayRestore_iff.1 may).2.1⟩
    · cases h
  | false =>
    rw [Supervisor.decideLow_follow may] at h
    split at h
    · next follow => cases h; exact ⟨.follow follow open_ low, (Supervisor.follows_iff.1 follow).2.2.1⟩
    · cases h

/-- Every switch is called for by a level of Table 53, and is to the other path. -/
theorem Supervisor.reason_of_decision {x : Supervisor} {r : Record} {e : Expired} {p : Path} {c : SwitchCause}
    (h : x.decision r e = .switch p c) : SwitchReason x r p ∧ p ≠ x.selector.active := by
  cases request : x.selector.request with
  | lockout =>
    rw [Supervisor.decision_lockout request] at h
    obtain ⟨rfl, ne⟩ := stayOn_switch h
    exact ⟨.lockout request, ne⟩
  | forced q =>
    rw [Supervisor.decision_forced request] at h
    obtain ⟨rfl, ne⟩ := stayOn_switch h
    exact ⟨.forced request, ne⟩
  | none =>
    have open_ : x.selector.request.Open := by rw [request]; exact ⟨nofun, nofun⟩
    by_cases fails : x.signalFail x.selector.active = true ∧ x.signalFail x.selector.active.other = false
    · rw [Supervisor.decision_fail open_ fails.1 fails.2] at h
      split at h
      · cases h; exact ⟨.fail open_ fails.1 fails.2, Path.other_ne _⟩
      · cases h
    · have calm : NoFailSwitch x := by
        unfold NoFailSwitch; simpa [imp_iff_not_or] using fails
      rw [Supervisor.decision_none calm request] at h
      exact Supervisor.reason_of_decideLow h open_ (by rw [request]; exact nofun)
  | manual q =>
    have open_ : x.selector.request.Open := by rw [request]; exact ⟨nofun, nofun⟩
    by_cases fails : x.signalFail x.selector.active = true ∧ x.signalFail x.selector.active.other = false
    · rw [Supervisor.decision_fail open_ fails.1 fails.2] at h
      split at h
      · cases h; exact ⟨.fail open_ fails.1 fails.2, Path.other_ne _⟩
      · cases h
    · have calm : NoFailSwitch x := by
        unfold NoFailSwitch; simpa [imp_iff_not_or] using fails
      rw [Supervisor.decision_manual calm request] at h
      split at h
      · next bad => exact Supervisor.reason_of_decideLow h open_ (by rw [request]; rintro _ ⟨⟩; exact bad)
      · next good =>
        obtain ⟨rfl, ne⟩ := stayOn_switch h
        exact ⟨.manual request (by simpa using good), ne⟩

/-- After a switch to a sound path with no request left for the other one, the levels stay. -/
theorem Supervisor.decision_settled {y : Supervisor} {r : Record} (sound : y.signalFail y.selector.active = false)
    (request : y.selector.request = .none ∨ y.selector.request = .manual y.selector.active)
    (low : y.selector.request = .none → y.mayRestore r = false ∧ y.follows r = none) : y.decision r .none = .stay := by
  rcases request with none | manual
  · rw [Supervisor.decision_none (.inl sound) none]
    exact Supervisor.decideLow_stay (low none).1 (low none).2 _
  · rw [Supervisor.decision_manual (.inl sound) manual, if_neg (by rw [sound]; exact nofun)]
    exact stayOn_self ..

theorem LocalRequest.afterSwitch_open {q : LocalRequest} (h : q.Open) (p : Path) :
    q.afterSwitch p = .none ∨ q.afterSwitch p = .manual p := by
  cases q with
  | none => exact .inl rfl
  | lockout => exact absurd rfl h.1
  | forced q => exact absurd rfl (h.2 q)
  | manual q =>
    by_cases same : q = p
    · subst same; exact .inr (if_pos rfl)
    · exact .inl (if_neg same)

/-- The examination that follows a switch stays on the path taken (R140). -/
theorem Supervisor.stays_after_switch {x : Supervisor} {r : Record} {p : Path} (h : SwitchReason x r p) :
    (x.switchedTo p).decision r .none = .stay := by
  have follows : ∀ {q}, (x.switchedTo q).follows r ≠ none → ∃ p, announcedPath x.selector.announcement = some p ∧
      r.authority = .follower ∧ p = q.other ∧ x.signalFail p = false := fun {q} some_ => by
    obtain ⟨p, some_⟩ := Option.ne_none_iff_exists'.1 some_
    obtain ⟨heard, follower, ne, sound⟩ := Supervisor.follows_iff.1 some_
    exact ⟨p, heard, follower, Path.eq_other_of_ne ne, sound⟩
  cases h with
  | lockout request =>
    have kept : (x.switchedTo r.primary).selector.request = .lockout := by
      change x.selector.request.afterSwitch _ = _; rw [request]; rfl
    rw [Supervisor.decision_lockout kept]
    exact stayOn_self ..
  | @forced q request =>
    have kept : (x.switchedTo p).selector.request = .forced p := by
      change x.selector.request.afterSwitch _ = _; rw [request]; rfl
    rw [Supervisor.decision_forced kept]
    exact stayOn_self ..
  | manual request sound =>
    have kept : (x.switchedTo p).selector.request = .manual p := by
      change x.selector.request.afterSwitch _ = _; rw [request]; exact if_pos rfl
    exact Supervisor.decision_settled sound (.inr kept) fun none => by rw [kept] at none; cases none
  | fail open_ fails sound =>
    refine Supervisor.decision_settled sound (LocalRequest.afterSwitch_open open_ _) fun _ => ⟨?_, ?_⟩
    · rw [Bool.eq_false_iff]
      intro may
      obtain ⟨-, ne, -, sound', -⟩ := Supervisor.mayRestore_iff.1 may
      have same : r.primary = x.selector.active := by
        have other := Path.eq_other_of_ne (Ne.symm ne)
        rw [other]; cases x.selector.active <;> rfl
      rw [same] at sound'
      exact absurd (fails.symm.trans sound') nofun
    · by_contra some_
      obtain ⟨q, -, -, rfl, sound'⟩ := follows some_
      have same : x.selector.active.other.other = x.selector.active := by cases x.selector.active <;> rfl
      rw [same] at sound'
      exact absurd (fails.symm.trans sound') nofun
  | restore may =>
    obtain ⟨-, ne, request, sound, quiet⟩ := Supervisor.mayRestore_iff.1 may
    have kept : (x.switchedTo r.primary).selector.request = .none := by
      change x.selector.request.afterSwitch _ = _; rw [request]; rfl
    refine Supervisor.decision_settled sound (.inl kept) fun _ => ⟨?_, ?_⟩
    · rw [Bool.eq_false_iff]
      intro again
      exact (Supervisor.mayRestore_iff.1 again).2.1 rfl
    · by_contra some_
      obtain ⟨q, heard, follower, -⟩ := follows some_
      rcases quiet with main | silent
      · rw [main] at follower; cases follower
      · rw [silent] at heard; cases heard
  | follow follow open_ low =>
    obtain ⟨heard, follower, -, sound⟩ := Supervisor.follows_iff.1 follow
    refine Supervisor.decision_settled sound (LocalRequest.afterSwitch_open open_ _) fun _ => ⟨?_, ?_⟩
    · rw [Bool.eq_false_iff]
      intro may
      obtain ⟨-, -, -, -, quiet⟩ := Supervisor.mayRestore_iff.1 may
      rcases quiet with main | silent
      · rw [main] at follower; cases follower
      · exact absurd (heard.symm.trans silent) nofun
    · by_contra some_
      obtain ⟨q, heard', -, rfl, -⟩ := follows some_
      have same := Option.some.inj (heard.symm.trans heard')
      exact Path.other_ne p same.symm

/-! ## An evaluation -/

theorem State.evaluateWith_of_same {s : State} {b : BundleId} {r : Record} {e : Expired} {u : State}
    (examined : s.examine b r e = u)
    (same : (u.bun b).supervisor.selector.active = (s.bun b).supervisor.selector.active) :
    s.evaluateWith b r e = u.updateMismatch b r := by
  unfold State.evaluateWith
  simp only [examined]
  rw [if_pos same]

/-- An evaluation whose decision leaves the active path sets the two timers and settles the flag. -/
theorem State.evaluateWith_waits {s : State} {b : BundleId} {r : Record} {e : Expired} {h w : Timer}
    (examined : s.examine b r e = s.modSelector b fun x => { x with holdOff := h, restore := w }) :
    Waits s (s.evaluateWith b r e) b r h w := by
  have own := s.bun_modSelector b fun x => { x with holdOff := h, restore := w }
  refine ⟨s.modSelector b fun x => { x with holdOff := h, restore := w }, rfl, (Local.modSelector ..).others, own, ?_⟩
  rw [State.evaluateWith_of_same examined (by rw [own])]
  exact State.updateMismatch_settles ..

theorem State.evaluateWith_stay {s : State} {b : BundleId} {r : Record} {e : Expired}
    (h : (s.bun b).supervisor.decision r e = .stay) : Waits s (s.evaluateWith b r e) b r none none :=
  State.evaluateWith_waits (by unfold State.examine; rw [h])

theorem State.modSelector_congr {s : State} {b : BundleId} {f g : Selector → Selector}
    (h : f (s.bun b).supervisor.selector = g (s.bun b).supervisor.selector) : s.modSelector b f = s.modSelector b g := by
  unfold State.modSelector State.modSupervisor State.modBun
  simp only [h]

theorem State.evaluateWith_holdOff {s : State} {b : BundleId} {r : Record} {e : Expired}
    (h : (s.bun b).supervisor.decision r e = .holdOff) : Waits s (s.evaluateWith b r e) b r
      (some ((s.bun b).supervisor.selector.holdOff.getD (s.now + r.holdOff * 12500000))) none := by
  have ticks : r.holdOff * 100 * Config.msTicks = r.holdOff * 12500000 := by rw [Nat.mul_assoc]; rfl
  refine State.evaluateWith_waits ?_
  unfold State.examine
  rw [h, ticks]
  exact State.modSelector_congr rfl

theorem State.evaluateWith_restore {s : State} {b : BundleId} {r : Record} {e : Expired}
    (h : (s.bun b).supervisor.decision r e = .restore) : Waits s (s.evaluateWith b r e) b r none
      (some ((s.bun b).supervisor.selector.restore.getD (s.now + r.waitRestore * 125000000))) := by
  refine State.evaluateWith_waits ?_
  unfold State.examine
  rw [h]
  exact State.modSelector_congr rfl

/-- An evaluation that decides a switch makes it, and its second examination stays. -/
theorem State.evaluateWith_switch {s : State} {b : BundleId} {r : Record} {e : Expired} {p : Path} {cause : SwitchCause}
    (h : (s.bun b).supervisor.decision r e = .switch p cause) : Switched s (s.evaluateWith b r e) b r p cause := by
  obtain ⟨reason, ne⟩ := Supervisor.reason_of_decision h
  obtain ⟨rest, others, posts⟩ := s.switched_spec b r p cause
  have own := s.bun_switched b r p cause
  have supervisor := (s.switched b r p cause).supervisor_computeTarget b
  rw [own] at supervisor
  change (((s.switched b r p cause).computeTarget b).bun b).supervisor = (s.bun b).supervisor.switchedTo p at supervisor
  refine ⟨s.switched b r p cause, rest, others, ?_, posts, ?_⟩
  · rw [own]
    unfold Selector.switchedTo
    rw [LocalRequest.afterSwitch_eq]
  · have examined : s.examine b r e = (s.switched b r p cause).computeTarget b := by
      unfold State.examine; rw [h]; rfl
    have stays : ((s.switched b r p cause).computeTarget b).examine b r .none =
        (s.switched b r p cause).computeTarget b := by
      have idle : ((s.switched b r p cause).computeTarget b).modSelector b
          (fun x => { x with holdOff := none, restore := none }) = (s.switched b r p cause).computeTarget b := by
        unfold State.modSelector State.modSupervisor
        refine State.modBun_self ?_
        generalize ((s.switched b r p cause).computeTarget b).bun b = y at supervisor
        cases y
        subst supervisor
        rfl
      unfold State.examine
      rw [supervisor, Supervisor.stays_after_switch reason]
      exact idle
    have acts : s.evaluateWith b r e = ((s.switched b r p cause).computeTarget b).updateMismatch b r := by
      unfold State.evaluateWith
      simp only [examined]
      rw [if_neg (by rw [supervisor]; exact ne), stays]
    rw [acts]
    exact State.updateMismatch_settles ..

theorem State.evaluateSelector_running {s : State} {b : BundleId} {r : Record} (active : (s.bun b).active = some r)
    (mode : r.pathMode = .selected) (running : (s.bun b).state.running = true) (e : Expired) :
    s.evaluateSelector b e = s.evaluateWith b r e := by
  unfold State.evaluateSelector
  simp only [active]
  exact if_pos (by simp [mode, running])

theorem State.evaluateSelector_idle {s : State} {b : BundleId}
    (h : ∀ r, (s.bun b).active = some r → r.pathMode ≠ .selected ∨ (s.bun b).state.running = false) (e : Expired) :
    s.evaluateSelector b e = s := by
  unfold State.evaluateSelector
  simp only
  split
  · rfl
  · next r active =>
    refine if_neg fun k => ?_
    simp only [Bool.and_eq_true, decide_eq_true_eq] at k
    rcases h r active with other | idle
    · exact other k.1
    · exact absurd (k.2.symm.trans idle) nofun

/-! ## The timers' expiries -/

/-- The supervisor with its hold-off and its wait to restore as given. -/
def Supervisor.timed (x : Supervisor) (h w : Timer) : Supervisor :=
  { x with selector := { x.selector with holdOff := h, restore := w } }

/-- A switch does not depend on what its timers were. -/
theorem switched_of_timer {s t : State} {b : BundleId} {r : Record} {q : Path} {cause : SwitchCause} {h w : Timer}
    (k : Switched (s.modSelector b fun x => { x with holdOff := h, restore := w }) t b r q cause) :
    Switched s t b r q cause := by
  have own := s.bun_modSelector b fun x => { x with holdOff := h, restore := w }
  obtain ⟨u, rest, others, bundle, posts, settled⟩ := k
  rw [own] at bundle posts
  refine ⟨u, ?_, fun c ne => (others c ne).trans ((Local.modSelector ..).others c ne), bundle, posts, settled⟩
  rw [rest]; rfl

/-- What every switch leaves and posts. -/
theorem Switched.visible {s t : State} {b : BundleId} {r : Record} {q : Path} {cause : SwitchCause}
    (h : Switched s t b r q cause) :
    (t.bun b).supervisor.selector.active = q ∧
    (t.bun b).supervisor.selector.switches = bump (s.bun b).supervisor.selector.switches ∧
    (t.bun b).supervisor.selector.holdOff = none ∧ (t.bun b).supervisor.selector.restore = none ∧
    Reported t (eventNow s .pathSwitch (.bundle b)
      (cause.code * 65536 + (s.bun b).supervisor.selector.active.code * 256 + q.code)) := by
  obtain ⟨u, -, -, bundle, posts, flag, timer, -, -, settled, -, -, -, told⟩ := h
  have supervisor := u.supervisor_computeTarget b
  rw [bundle] at supervisor
  obtain ⟨es, more⟩ := (Tunes.computeTarget u b).posts
  refine ⟨?_, ?_, ?_, ?_, ?_⟩
  · rw [settled, supervisor]
  · rw [settled, supervisor]
  · rw [settled, supervisor]
  · rw [settled, supervisor]
  · exact (Posts.trans posts (Posts.trans more told)).reported (List.mem_append_left _ (List.mem_singleton_self _))

/-- A timer of the selector has run out: it stops and, in a running SELECTED bundle, the levels are examined. -/
theorem timed_switch {s : State} {b : BundleId} {r : Record} {h w : Timer} {e : Expired} {q : Path} {cause : SwitchCause}
    (active : (s.bun b).active = some r) (mode : r.pathMode = .selected) (running : (s.bun b).state.running = true)
    (decides : ((s.bun b).supervisor.timed h w).decision r e = .switch q cause) {u : State}
    (timed : u = s.modSelector b fun x => { x with holdOff := h, restore := w }) :
    let t := u.evaluateSelector b e
    t = { s with bundles := t.bundles, tribs := t.tribs, ctrls := t.ctrls } ∧ OtherBundles s t b ∧
    (t.bun b).state = (s.bun b).state ∧ (t.bun b).supervisor.path = (s.bun b).supervisor.path ∧
    Switched s t b r q cause := by
  subst timed
  intro t
  have own := s.bun_modSelector b fun x => { x with holdOff := h, restore := w }
  have acts : t = _ := State.evaluateSelector_running (s := s.modSelector b fun x => { x with holdOff := h, restore := w })
    (by rw [own]; exact active) mode (by rw [own]; exact running) e
  have tunes : Tunes b s t := (Tunes.modSelector s b _).trans (.evaluateSelector ..)
  refine ⟨tunes.within.rest, tunes.within.others, tunes.bundle.state, tunes.bundle.path, ?_⟩
  rw [acts]
  exact switched_of_timer (State.evaluateWith_switch (by rw [own]; exact decides))

/-- The levels decide alike whether a timer has run out, where the level that it serves does not apply. -/
theorem evaluateSelector_expired {s : State} {b : BundleId} {e : Expired}
    (h : ∀ r, (s.bun b).active = some r → (s.bun b).supervisor.decision r e = (s.bun b).supervisor.decision r .none) :
    s.evaluateSelector b e = s.evaluateSelector b .none := by
  unfold State.evaluateSelector
  simp only
  split
  · rfl
  · next r active =>
    have same : s.examine b r e = s.examine b r .none := by unfold State.examine; rw [h r active]
    unfold State.evaluateWith
    rw [same]

theorem Supervisor.decideLow_holdOff (x : Supervisor) (r : Record) : x.decideLow r .holdOff = x.decideLow r .none := by
  unfold Supervisor.decideLow; simp

theorem Supervisor.decision_holdOff {x : Supervisor} (h : x.selector.request = .lockout ∨
    (∃ q, x.selector.request = .forced q) ∨ NoFailSwitch x) (r : Record) :
    x.decision r .holdOff = x.decision r .none := by
  rcases h with lockout | ⟨q, forced⟩ | calm
  · rw [Supervisor.decision_lockout lockout, Supervisor.decision_lockout lockout]
  · rw [Supervisor.decision_forced forced, Supervisor.decision_forced forced]
  · cases request : x.selector.request with
    | lockout => rw [Supervisor.decision_lockout request, Supervisor.decision_lockout request]
    | forced q => rw [Supervisor.decision_forced request, Supervisor.decision_forced request]
    | none =>
      rw [Supervisor.decision_none calm request, Supervisor.decision_none calm request, Supervisor.decideLow_holdOff]
    | manual q =>
      rw [Supervisor.decision_manual calm request, Supervisor.decision_manual calm request, Supervisor.decideLow_holdOff]

theorem Supervisor.calm_iff {x : Supervisor} : NoFailSwitch x ↔
    ¬ (x.signalFail x.selector.active = true ∧ x.signalFail x.selector.active.other = false) := by
  unfold NoFailSwitch; simp [imp_iff_not_or]

theorem Supervisor.decision_restore {x : Supervisor} {r : Record} (h : r.revertive = false ∨ x.selector.request ≠ .none ∨
    x.selector.active = r.primary ∨ (∃ q, x.signalFail q = true) ∨
    r.authority = .follower ∧ announcedPath x.selector.announcement ≠ none) :
    x.decision r .restore = x.decision r .none := by
  have low : NoFailSwitch x → x.decideLow r .restore = x.decideLow r .none := fun calm => by
    have may : x.mayRestore r = false := by
      rw [Bool.eq_false_iff]
      intro may
      obtain ⟨revertive, ne, request, sound, quiet⟩ := Supervisor.mayRestore_iff.1 may
      rcases h with h | h | h | ⟨q, fails⟩ | ⟨follower, heard⟩
      · rw [revertive] at h; cases h
      · exact h request
      · exact ne h
      · have active := Supervisor.sound_of_calm calm (Ne.symm ne) sound
        by_cases e : q = x.selector.active
        · rw [e, active] at fails; cases fails
        · have other := (Path.eq_other_of_ne e).trans (Path.eq_other_of_ne (Ne.symm ne)).symm
          rw [other, sound] at fails; cases fails
      · rcases quiet with main | silent
        · rw [main] at follower; cases follower
        · exact heard silent
    rw [Supervisor.decideLow_follow may, Supervisor.decideLow_follow may]
  cases request : x.selector.request with
  | lockout => rw [Supervisor.decision_lockout request, Supervisor.decision_lockout request]
  | forced q => rw [Supervisor.decision_forced request, Supervisor.decision_forced request]
  | none =>
    by_cases calm : NoFailSwitch x
    · rw [Supervisor.decision_none calm request, Supervisor.decision_none calm request, low calm]
    · obtain ⟨fails, sound⟩ := not_not.1 fun k => calm (Supervisor.calm_iff.2 k)
      have open_ : x.selector.request.Open := by rw [request]; exact ⟨nofun, nofun⟩
      rw [Supervisor.decision_fail open_ fails sound, Supervisor.decision_fail open_ fails sound]
      simp
  | manual q =>
    by_cases calm : NoFailSwitch x
    · rw [Supervisor.decision_manual calm request, Supervisor.decision_manual calm request, low calm]
    · obtain ⟨fails, sound⟩ := not_not.1 fun k => calm (Supervisor.calm_iff.2 k)
      have open_ : x.selector.request.Open := by rw [request]; exact ⟨nofun, nofun⟩
      rw [Supervisor.decision_fail open_ fails sound, Supervisor.decision_fail open_ fails sound]
      simp

theorem mismatchTimerExpiry_spec {s : State} {b : BundleId} (due : Due s (s.bun b).supervisor.selector.mismatchTimer) :
    let v := (s.bun b).supervisor.selector
    let t := mismatchTimerExpiry b s
    t = { s with bundles := t.bundles, ctrls := t.ctrls } ∧ OtherBundles s t b ∧
    t.bun b = { s.bun b with supervisor := { (s.bun b).supervisor with selector := { v with
      mismatchTimer := none
      mismatch := true
      mismatches := if v.mismatch then v.mismatches else bump v.mismatches } } } ∧
    Posts s t (if v.mismatch then [] else [eventNow s .pathMismatch (.bundle b)
      (2147483648 + v.active.code * 256 + announcementCode v.announcement)]) := by
  intro v t
  have acts : t = (s.modSelector b fun x => { x with mismatchTimer := none }).setMismatch b true :=
    if_pos ((State.due_iff ..).2 due)
  obtain ⟨own, posts⟩ := (s.modSelector b fun x => { x with mismatchTimer := none }).setMismatch_spec b true
  have timed := s.bun_modSelector b fun x => { x with mismatchTimer := none }
  rw [timed, eventNow_of_now (s := s) (t := s.modSelector b fun x => { x with mismatchTimer := none }) rfl] at posts
  rw [timed] at own
  have whole : Local b s t := by rw [acts]; exact (Local.modSelector ..).trans (.setMismatch ..)
  refine ⟨?_, whole.others, ?_, ?_⟩
  · rw [acts, State.setMismatch_frame]; rfl
  · rw [acts, own]
    cases k : v.mismatch <;> simp [v]
  · rw [acts]
    have told : Posts s (s.modSelector b fun x => { x with mismatchTimer := none }) [] := .of_ctrls rfl
    have whole := Posts.trans told posts
    cases k : v.mismatch with
    | true => simpa [v, k] using whole
    | false => simpa [v, k] using whole

/-! ## Every case of an evaluation -/

theorem evaluateWith_stayOn {s : State} {b : BundleId} {r : Record} {e : Expired} {q : Path} {cause : SwitchCause}
    (h : (s.bun b).supervisor.decision r e = stayOn (s.bun b).supervisor.selector.active q cause) :
    if (s.bun b).supervisor.selector.active = q then Waits s (s.evaluateWith b r e) b r none none
    else Switched s (s.evaluateWith b r e) b r q cause := by
  split
  · next same => exact State.evaluateWith_stay (h.trans (if_pos same))
  · next ne => exact State.evaluateWith_switch (h.trans (if_neg ne))

theorem Supervisor.calm_of_sound {x : Supervisor} (h : ∀ q, x.signalFail q = false) : NoFailSwitch x := .inl (h _)

/-- A MANUAL request for a failing path, with no fail of the active path alone: nothing lower acts either. -/
theorem Supervisor.decision_manual_failing {x : Supervisor} {q : Path} (calm : NoFailSwitch x)
    (request : x.selector.request = .manual q) (fails : x.signalFail q = true) (r : Record) (e : Expired) :
    x.decision r e = .stay := by
  rw [Supervisor.decision_manual calm request, if_pos fails]
  refine Supervisor.decideLow_stay ?_ ?_ e
  · rw [Bool.eq_false_iff]
    intro may
    have none := (Supervisor.mayRestore_iff.1 may).2.2.1
    rw [request] at none; cases none
  · by_contra some_
    obtain ⟨p, some_⟩ := Option.ne_none_iff_exists'.1 some_
    obtain ⟨-, -, ne, sound⟩ := Supervisor.follows_iff.1 some_
    have active := Supervisor.sound_of_calm calm ne sound
    by_cases same : q = x.selector.active
    · rw [same, active] at fails; cases fails
    · rw [(Path.eq_other_of_ne same).trans (Path.eq_other_of_ne ne).symm, sound] at fails; cases fails

/-- With no request and a failing path, not the active one alone, nothing acts. -/
theorem Supervisor.decision_failing {x : Supervisor} (calm : NoFailSwitch x) (request : x.selector.request = .none)
    (fails : ∃ q, x.signalFail q = true) (r : Record) (e : Expired) : x.decision r e = .stay := by
  obtain ⟨q, fails⟩ := fails
  have never : ∀ p, p ≠ x.selector.active → x.signalFail p = false → False := fun p ne sound => by
    have active := Supervisor.sound_of_calm calm ne sound
    by_cases same : q = x.selector.active
    · rw [same, active] at fails; cases fails
    · rw [(Path.eq_other_of_ne same).trans (Path.eq_other_of_ne ne).symm, sound] at fails; cases fails
  rw [Supervisor.decision_none calm request]
  refine Supervisor.decideLow_stay ?_ ?_ e
  · rw [Bool.eq_false_iff]
    intro may
    obtain ⟨-, ne, -, sound, -⟩ := Supervisor.mayRestore_iff.1 may
    exact never _ (Ne.symm ne) sound
  · by_contra some_
    obtain ⟨p, some_⟩ := Option.ne_none_iff_exists'.1 some_
    obtain ⟨-, -, ne, sound⟩ := Supervisor.follows_iff.1 some_
    exact never p ne sound

/-- With no request, both paths sound and no disagreement to follow, a bundle on the path it wants stays. -/
theorem Supervisor.decision_content {x : Supervisor} {r : Record} (request : x.selector.request = .none)
    (sound : ∀ q, x.signalFail q = false) (content : r.revertive = false ∨ x.selector.active = r.primary ∨
      r.authority = .follower ∧ announcedPath x.selector.announcement ≠ none)
    (agrees : r.authority = .main ∨ ¬ Disagrees x.selector) (e : Expired) : x.decision r e = .stay := by
  rw [Supervisor.decision_none (Supervisor.calm_of_sound sound) request]
  refine Supervisor.decideLow_stay ?_ ?_ e
  · rw [Bool.eq_false_iff]
    intro may
    obtain ⟨revertive, ne, -, -, quiet⟩ := Supervisor.mayRestore_iff.1 may
    rcases content with h | h | ⟨follower, heard⟩
    · rw [revertive] at h; cases h
    · exact ne h
    · rcases quiet with main | silent
      · rw [main] at follower; cases follower
      · exact heard silent
  · by_contra some_
    obtain ⟨p, some_⟩ := Option.ne_none_iff_exists'.1 some_
    obtain ⟨heard, follower, ne, -⟩ := Supervisor.follows_iff.1 some_
    rcases agrees with main | agrees
    · rw [main] at follower; cases follower
    · exact agrees ⟨p, heard, ne⟩

theorem Supervisor.decision_follow {x : Supervisor} {r : Record} {q : Path} (request : x.selector.request = .none)
    (sound : ∀ q, x.signalFail q = false) (follower : r.authority = .follower)
    (heard : announcedPath x.selector.announcement = some q) (ne : q ≠ x.selector.active) (e : Expired) :
    x.decision r e = .switch q .follow := by
  have may : x.mayRestore r = false := by
    rw [Bool.eq_false_iff]
    intro may
    rcases (Supervisor.mayRestore_iff.1 may).2.2.2.2 with main | silent
    · rw [main] at follower; cases follower
    · rw [silent] at heard; cases heard
  rw [Supervisor.decision_none (Supervisor.calm_of_sound sound) request, Supervisor.decideLow_follow may,
    Supervisor.follows_iff.2 ⟨heard, follower, ne, sound q⟩]

theorem Supervisor.decision_restoring {x : Supervisor} {r : Record} (request : x.selector.request = .none)
    (sound : ∀ q, x.signalFail q = false) (revertive : r.revertive = true) (ne : x.selector.active ≠ r.primary)
    (quiet : r.authority = .main ∨ announcedPath x.selector.announcement = none) (e : Expired) :
    x.decision r e = if (r.waitRestore = 0 ∧ x.selector.restore = none) ∨ e = .restore then
      .switch r.primary .waitToRestore else .restore := by
  rw [Supervisor.decision_none (Supervisor.calm_of_sound sound) request]
  exact Supervisor.decideLow_restore (Supervisor.mayRestore_iff.2 ⟨revertive, ne, request, sound _, quiet⟩) e

/-- Settles O59. -/
theorem selectorTimersSwitchOrFlag : Obligations.SelectorTimersSwitchOrFlag := by
  intro s b x v hx hv
  subst hx hv
  have halts := s.bun_modSelector b fun y => { y with holdOff := none }
  have quits := s.bun_modSelector b fun y => { y with restore := none }
  have held : Due s (s.bun b).supervisor.selector.holdOff → holdOffExpiry b s =
      (s.modSelector b fun y => { y with holdOff := none }).evaluateSelector b .holdOff := fun due =>
    if_pos ((State.due_iff ..).2 due)
  have waited : Due s (s.bun b).supervisor.selector.restore → waitToRestoreExpiry b s =
      (s.modSelector b fun y => { y with restore := none }).evaluateSelector b .restore := fun due =>
    if_pos ((State.due_iff ..).2 due)
  refine ⟨fun idle => congrArg Host.Outcome.next (if_neg fun k => idle ((State.due_iff ..).1 k)),
    fun idle => congrArg Host.Outcome.next (if_neg fun k => idle ((State.due_iff ..).1 k)),
    fun idle => congrArg Host.Outcome.next (if_neg fun k => idle ((State.due_iff ..).1 k)),
    fun due off => ?_, fun due off => ?_, fun r due active mode running lockout forced fails sound => ?_,
    fun r due active mode running revertive request ne sound quiet => ?_, fun due => ?_,
    fun r due active mode running calm => ?_, fun r due active mode running other => ?_,
    fun off => State.evaluateSelector_idle off _, fun r t ht active mode running => ?_⟩
  · refine ⟨_, congrArg Host.Outcome.next ((held due).trans (State.evaluateSelector_idle ?_ _)), rfl,
      (Local.modSelector ..).others, halts⟩
    rw [halts]; exact off
  · refine ⟨_, congrArg Host.Outcome.next ((waited due).trans (State.evaluateSelector_idle ?_ _)), rfl,
      (Local.modSelector ..).others, quits⟩
    rw [quits]; exact off
  · have decides := Supervisor.decision_fail
      (x := (s.bun b).supervisor.timed none (s.bun b).supervisor.selector.restore) ⟨lockout, forced⟩ fails sound r .holdOff
    obtain ⟨rest, others, state, path, done⟩ := timed_switch active mode running (decides.trans (if_pos (.inr rfl)))
      (u := s.modSelector b fun y => { y with holdOff := none }) (State.modSelector_congr rfl)
    obtain ⟨now, switches, hold, restore, told⟩ := Switched.visible done
    rw [show SwitchCause.code .signalFail = 2 from rfl] at told
    exact ⟨_, congrArg Host.Outcome.next (held due), rest, others, state, path, now, switches, hold, restore, told, done⟩
  · have decides := Supervisor.decision_restoring
      (x := (s.bun b).supervisor.timed (s.bun b).supervisor.selector.holdOff none) request sound revertive ne quiet .restore
    obtain ⟨rest, others, state, path, done⟩ := timed_switch active mode running (decides.trans (if_pos (.inr rfl)))
      (u := s.modSelector b fun y => { y with restore := none }) (State.modSelector_congr rfl)
    obtain ⟨now, switches, hold, restore, told⟩ := Switched.visible done
    rw [show SwitchCause.code .waitToRestore = 4 from rfl] at told
    exact ⟨_, congrArg Host.Outcome.next (waited due), rest, others, state, path, now, switches, hold, restore, told, done⟩
  · obtain ⟨rest, others, own, posts⟩ := mismatchTimerExpiry_spec due
    exact ⟨_, rfl, rest, others, own, posts⟩
  · refine ⟨s.modSelector b fun y => { y with holdOff := none }, congrArg Host.Outcome.next ((held due).trans ?_), rfl,
      (Local.modSelector ..).others, halts⟩
    refine evaluateSelector_expired fun q _ => ?_
    rw [halts]
    exact Supervisor.decision_holdOff (x := (s.bun b).supervisor.timed none (s.bun b).supervisor.selector.restore) calm q
  · refine ⟨s.modSelector b fun y => { y with restore := none }, congrArg Host.Outcome.next ((waited due).trans ?_), rfl,
      (Local.modSelector ..).others, quits⟩
    refine evaluateSelector_expired fun q own => ?_
    rw [quits] at own ⊢
    obtain rfl : r = q := Option.some.inj (active.symm.trans own)
    exact Supervisor.decision_restore (x := (s.bun b).supervisor.timed (s.bun b).supervisor.selector.holdOff none) other
  · subst ht
    rw [State.evaluateSelector_running active mode running]
    refine ⟨fun lockout => evaluateWith_stayOn (Supervisor.decision_lockout lockout ..),
      fun q forced => evaluateWith_stayOn (Supervisor.decision_forced forced ..), fun lockout forced fails sound => ?_,
      fun q calm manual => ?_, fun calm request fails => State.evaluateWith_stay (Supervisor.decision_failing calm request fails ..),
      fun request sound => ⟨fun revertive ne quiet => ?_, fun q follower heard ne => ?_, fun content agrees => ?_⟩⟩
    · have decides := Supervisor.decision_fail ⟨lockout, forced⟩ fails sound r .none
      refine ⟨fun e runs => ?_, fun stopped field => ?_, fun stopped field => ?_⟩
      · have waits := State.evaluateWith_holdOff (decides.trans (if_neg (by simp [runs])))
        rw [runs, Option.getD_some] at waits
        exact waits
      · have waits := State.evaluateWith_holdOff (decides.trans (if_neg (by simp [field])))
        rw [stopped, Option.getD_none] at waits
        exact waits
      · exact State.evaluateWith_switch (decides.trans (if_pos (.inl ⟨field, stopped⟩)))
    · by_cases fails : (s.bun b).supervisor.signalFail q = true
      · rw [if_pos (.inl fails)]
        exact State.evaluateWith_stay (Supervisor.decision_manual_failing calm manual fails ..)
      · have decides := Supervisor.decision_manual calm manual r .none
        rw [if_neg fails] at decides
        have whole := evaluateWith_stayOn decides
        simpa [fails] using whole
    · have decides := Supervisor.decision_restoring request sound revertive ne quiet .none
      refine ⟨fun e runs => ?_, fun stopped field => ?_, fun stopped field => ?_⟩
      · have waits := State.evaluateWith_restore (decides.trans (if_neg (by simp [runs])))
        rw [runs, Option.getD_some] at waits
        exact waits
      · have waits := State.evaluateWith_restore (decides.trans (if_neg (by simp [field])))
        rw [stopped, Option.getD_none] at waits
        exact waits
      · exact State.evaluateWith_switch (decides.trans (if_pos (.inl ⟨field, stopped⟩)))
    · exact State.evaluateWith_switch (Supervisor.decision_follow request sound follower heard ne _)
    · exact State.evaluateWith_stay (Supervisor.decision_content request sound content agrees _)

end Sys2Proof.Machine
end

section
/-! Packets placed in the ring, the slip forward and the resync (R84 to R93): O52. -/

namespace Sys2Proof.Machine

open Safety

/-! ## Advancing the head (R91 step 1) -/

/-- `m` advances of the head, with the packets they discard. -/
def Playout.slips : Nat → Playout → Playout × Nat
  | 0, p => (p, 0)
  | m + 1, p =>
    match p.head with
    | none => (p, 0)
    | some h => (((p.advance h).1.slips m).1, (p.advance h).2 + ((p.advance h).1.slips m).2)

/-- The head advances until it may stop, or has done so `fuel` times. -/
theorem Playout.slipUntil_eq (stop : Playout → Bool) (fuel : Nat) {p : Playout} {h : Seq} (head : p.head = some h) :
    ∃ m ≤ fuel, p.slipUntil stop fuel = p.slips m ∧ (∀ j < m, stop (p.slips j).1 = false) ∧
      (m < fuel → stop (p.slips m).1 = true) := by
  induction fuel generalizing p h with
  | zero => exact ⟨0, Nat.le_refl 0, rfl, nofun, nofun⟩
  | succ fuel ih =>
    cases now : stop p with
    | true => exact ⟨0, Nat.zero_le _, by simp [Playout.slipUntil, now, Playout.slips], nofun, fun _ => now⟩
    | false =>
      obtain ⟨m, le, acts, before, ends⟩ := ih (p := (p.advance h).1) (h := h + 1) rfl
      refine ⟨m + 1, Nat.succ_le_succ le, ?_, fun j lt => ?_, fun lt => ?_⟩
      · simp only [Playout.slipUntil, now, head, Playout.slips, acts]
        rfl
      · cases j with
        | zero => exact now
        | succ j =>
          simp only [Playout.slips, head]
          exact before j (Nat.lt_of_succ_lt_succ lt)
      · simp only [Playout.slips, head]
        exact ends (Nat.lt_of_succ_lt_succ lt)

/-- Two playout states that differ in their ring, their head and the period in progress alone. -/
def SameCourse (p q : Playout) : Prop :=
  q = { p with ring := q.ring, head := q.head, period := q.period, played := q.played }

theorem SameCourse.trans {p q r : Playout} (h : SameCourse p q) (k : SameCourse q r) : SameCourse p r := by
  unfold SameCourse at *; rw [k, h]

theorem Playout.advance_course (p : Playout) (h : Seq) : SameCourse p (p.advance h).1 := by
  unfold SameCourse Playout.advance
  simp only
  split <;> rfl

theorem Playout.slips_course (m : Nat) (p : Playout) : SameCourse p (p.slips m).1 := by
  induction m generalizing p with
  | zero => rfl
  | succ m ih =>
    unfold Playout.slips
    split
    · rfl
    · exact (p.advance_course _).trans (ih _)

theorem Playout.slotFor_setSlot (p : Playout) (h q : Seq) :
    (p.setSlot h none).slotFor q = if q.toNat % p.ring.length = h.toNat % p.ring.length then none else p.slotFor q := by
  by_cases same : q.toNat % p.ring.length = h.toNat % p.ring.length
  · rw [if_pos same]
    cases held : (p.setSlot h none).slotFor q with
    | none => rfl
    | some x =>
      obtain ⟨-, place⟩ := Playout.slotFor_eq_some held
      rw [Playout.length_setSlot, Playout.getElem?_setSlot] at place
      split at place
      · cases place
      · next out =>
        obtain ⟨lt, -⟩ := List.getElem?_eq_some_iff.1 place
        exact absurd ⟨same.symm, lt⟩ out
  · rw [if_neg same]
    unfold Playout.slotFor
    rw [Playout.length_setSlot, Playout.getElem?_setSlot, if_neg fun k => same k.1.symm]

/-- An advance empties the slot of the old head, and no other. -/
theorem Playout.slotFor_advance (p : Playout) (h q : Seq) :
    (p.advance h).1.slotFor q = if q = h then none else p.slotFor q := by
  have whole : (p.advance h).1.slotFor q = (if (p.slotFor h).isSome then p.setSlot h none else p).slotFor q := by
    unfold Playout.advance Playout.slotFor; rfl
  rw [whole]
  split
  · next held =>
    obtain ⟨x, held⟩ := Option.isSome_iff_exists.1 held
    obtain ⟨own, place⟩ := Playout.slotFor_eq_some held
    rw [Playout.slotFor_setSlot]
    by_cases same : q = h
    · rw [if_pos (by rw [same]), if_pos same]
    · rw [if_neg same]
      split
      · next slot =>
        unfold Playout.slotFor
        rw [slot, place]
        exact (if_neg fun e => same (e.symm.trans own)).symm
      · rfl
  · next free =>
    by_cases same : q = h
    · rw [if_pos same, same]; exact Option.not_isSome_iff_eq_none.1 free
    · rw [if_neg same]

/-- The held packets counted slot by slot. -/
theorem Playout.heldSlots_length (p : Playout) : p.heldSlots.length = p.ring.countP Option.isSome := by
  unfold Playout.heldSlots
  rw [List.length_filterMap_eq_countP]
  rfl

theorem Playout.heldSlots_advance (p : Playout) (h : Seq) :
    (p.advance h).2 + (p.advance h).1.heldSlots.length = p.heldSlots.length := by
  have ring : (p.advance h).1.ring = if (p.slotFor h).isSome then (p.setSlot h none).ring else p.ring := by
    unfold Playout.advance; simp only; split <;> rfl
  have gone : (p.advance h).2 = if (p.slotFor h).isSome then 1 else 0 := rfl
  rw [Playout.heldSlots_length, Playout.heldSlots_length, ring, gone]
  split
  · next held =>
    obtain ⟨x, held⟩ := Option.isSome_iff_exists.1 held
    obtain ⟨-, place⟩ := Playout.slotFor_eq_some held
    obtain ⟨lt, at_⟩ := List.getElem?_eq_some_iff.1 place
    have positive : 0 < p.ring.countP Option.isSome :=
      List.countP_pos_iff.2 ⟨some x, List.mem_of_getElem? place, rfl⟩
    change 1 + (p.ring.set (h.toNat % p.ring.length) none).countP Option.isSome = _
    rw [List.countP_set lt, at_]
    simp
    omega
  · exact Nat.zero_add _

/-! ## The ring after so many advances -/

/-- After `m` advances from head `h`: the head lies `m` on, what lay before it is gone, counted (R91). -/
structure Passed (p q : Playout) (h : Seq) (m n : Nat) : Prop where
  course : SameCourse p q
  head : q.head = some (h + BitVec.ofNat 16 m)
  idle : m ≠ 0 → q.period = .none ∧ q.played = 0
  stays : m = 0 → q = p
  kept : ∀ a : Seq, q.slotFor a = if (a - h).toNat < m then none else p.slotFor a
  counted : n + q.heldSlots.length = p.heldSlots.length
  sound : RingSound p → RingSound q

theorem Playout.slips_passed (m : Nat) {p : Playout} {h : Seq} (head : p.head = some h) :
    Passed p (p.slips m).1 h m (p.slips m).2 := by
  induction m generalizing p h with
  | zero =>
    exact ⟨rfl, by rw [BitVec.add_zero]; exact head, fun k => absurd rfl k, fun _ => rfl,
      fun _ => (if_neg (Nat.not_lt_zero _)).symm, Nat.zero_add _, id⟩
  | succ m ih =>
    have next := ih (p := (p.advance h).1) (h := h + 1) rfl
    have unfolded : p.slips (m + 1) = (((p.advance h).1.slips m).1, (p.advance h).2 + ((p.advance h).1.slips m).2) := by
      simp only [Playout.slips, head]
    rw [unfolded]
    refine ⟨(p.advance_course h).trans next.course, ?_, fun _ => ?_, nofun, fun a => ?_, ?_,
      fun sound => next.sound (sound.advance head)⟩
    · rw [next.head]
      exact congrArg some (by bv_omega)
    · by_cases more : m = 0
      · rw [next.stays more]; exact ⟨rfl, rfl⟩
      · exact next.idle more
    · rw [next.kept, Playout.slotFor_advance]
      by_cases own : a = h
      · subst own; simp
      · have step : (a - h).toNat = (a - (h + 1)).toNat + 1 := by bv_omega
        rw [if_neg own, step]
        simp
    · have first := p.heldSlots_advance h
      have rest := next.counted
      simp only at rest ⊢
      omega

/-! ## The fill of a sound ring (R90) -/

theorem Playout.mem_heldSlots_iff {p : Playout} (sound : RingSound p) {x : RingSlot} :
    x ∈ p.heldSlots ↔ p.slotFor x.seq = some x := by
  constructor
  · intro mem
    obtain ⟨y, mem, same⟩ := List.mem_filterMap.1 mem
    obtain rfl : y = some x := same
    obtain ⟨i, at_⟩ := List.getElem?_of_mem mem
    exact sound.slotFor at_
  · intro held
    exact List.mem_filterMap.2 ⟨some x, List.mem_of_getElem? (Playout.slotFor_eq_some held).2, rfl⟩

theorem Playout.newest_eq_some {p : Playout} (sound : RingSound p) {h : Seq} {d : Nat} : p.newest h = some d ↔
    (∃ x, p.slotFor x.seq = some x ∧ (x.seq - h).toNat = d) ∧ ∀ x, p.slotFor x.seq = some x → (x.seq - h).toNat ≤ d := by
  unfold Playout.newest
  rw [List.max?_eq_some_iff]
  simp only [List.mem_map, Playout.mem_heldSlots_iff sound, seqDistance, forall_exists_index, and_imp, forall_apply_eq_imp_iff₂]

theorem Playout.newest_isSome {p : Playout} (sound : RingSound p) (h : Seq) {x : RingSlot}
    (held : p.slotFor x.seq = some x) : ∃ d, p.newest h = some d := by
  refine Option.ne_none_iff_exists'.1 fun none => ?_
  have mem := (Playout.mem_heldSlots_iff sound).2 held
  rw [Playout.newest, List.max?_eq_none_iff, List.map_eq_nil_iff] at none
  rw [none] at mem
  cases mem

theorem Playout.fill_eq {p : Playout} {h : Seq} {d : Nat} (head : p.head = some h) (newest : p.newest h = some d)
    (fpp : Nat) : p.fill fpp = (d + 1) * fpp - p.played := by simp only [Playout.fill, head, newest]

/-- The step before the last of a slip left no more than FPP over what the last leaves. -/
theorem fill_before_le {p q₁ q₂ : Playout} {h : Seq} {m n₁ n₂ : Nat} (sound : RingSound p)
    (before : Passed p q₁ h m n₁) (after : Passed p q₂ h (m + 1) n₂) (moved : m ≠ 0) (fpp : Nat) {x : RingSlot}
    (held : p.slotFor x.seq = some x) (ahead : m + 1 ≤ (x.seq - h).toNat) : q₁.fill fpp ≤ q₂.fill fpp + fpp := by
  have bound : m + 1 < 65536 := by have := (x.seq - h).isLt; omega
  have in₂ : ∀ {y : RingSlot}, p.slotFor y.seq = some y → m + 1 ≤ (y.seq - h).toNat → q₂.slotFor y.seq = some y :=
    fun held ahead => by rw [after.kept, if_neg (Nat.not_lt.2 ahead)]; exact held
  have in₁ : q₁.slotFor x.seq = some x := by rw [before.kept, if_neg (by omega)]; exact held
  obtain ⟨d₁, newest₁⟩ := Playout.newest_isSome (before.sound sound) (h + BitVec.ofNat 16 m) in₁
  obtain ⟨d₂, newest₂⟩ := Playout.newest_isSome (after.sound sound) (h + BitVec.ofNat 16 (m + 1)) (in₂ held ahead)
  have dist : ∀ (a : Seq) (j : Nat), j < 65536 → j ≤ (a - h).toNat →
      (a - (h + BitVec.ofNat 16 j)).toNat = (a - h).toNat - j := fun a j lt le => by bv_omega
  have farthest : d₁ ≤ d₂ + 1 := by
    obtain ⟨⟨y, held₁, own⟩, most⟩ := (Playout.newest_eq_some (before.sound sound)).1 newest₁
    have least := most x in₁
    rw [dist _ _ (by omega) (by omega)] at least
    have old : ¬ (y.seq - h).toNat < m := fun lt => by rw [before.kept, if_pos lt] at held₁; cases held₁
    rw [dist _ _ (by omega) (by omega)] at own
    rw [before.kept, if_neg old] at held₁
    have reach := ((Playout.newest_eq_some (after.sound sound)).1 newest₂).2 y (in₂ held₁ (by omega))
    rw [dist _ _ bound (by omega)] at reach
    omega
  rw [Playout.fill_eq before.head newest₁, Playout.fill_eq after.head newest₂, (before.idle moved).2,
    (after.idle (Nat.succ_ne_zero m)).2]
  calc (d₁ + 1) * fpp - 0 ≤ (d₂ + 1 + 1) * fpp := Nat.mul_le_mul_right fpp (by omega)
    _ = (d₂ + 1) * fpp - 0 + fpp := by rw [Nat.succ_mul (d₂ + 1)]; rfl

/-- A slip forward after a packet is stored (R91): the head goes no further than the fill or that packet asks. -/
theorem slipForward_spec {p : Playout} {h : Seq} {x : RingSlot} (sound : RingSound p) (head : p.head = some h)
    (held : p.slotFor x.seq = some x) (near : (x.seq - h).toNat < p.ring.length) {fpp top : Nat} :
    ∃ m, Slipped p (p.slipForward fpp top x.seq).1 fpp top x.seq h (h + BitVec.ofNat 16 m) ∧
      SameCourse p (p.slipForward fpp top x.seq).1 ∧
      (p.slipForward fpp top x.seq).2 + (p.slipForward fpp top x.seq).1.heldSlots.length = p.heldSlots.length ∧
      (p.slipForward fpp top x.seq).1.slotFor x.seq = some x := by
  obtain ⟨m, le, acts, before, ends⟩ := Playout.slipUntil_eq
    (fun q => decide (q.fill fpp ≤ top) || q.head == some x.seq) p.ring.length head
  have passed := Playout.slips_passed m head
  have within : m ≤ (x.seq - h).toNat := by
    refine Nat.not_lt.1 fun over_ => ?_
    have there := before _ over_
    have at_ := (Playout.slips_passed (x.seq - h).toNat head).head
    rw [BitVec.ofNat_toNat, BitVec.setWidth_eq, show h + (x.seq - h) = x.seq by bv_omega] at at_
    rw [at_] at there
    simp at there
  have small : m < 65536 := by have := (x.seq - h).isLt; omega
  have moved : (h + BitVec.ofNat 16 m - h).toNat = m := by bv_omega
  have stop := ends (by omega)
  have own : p.slipForward fpp top x.seq = p.slips m := acts
  rw [own]
  refine ⟨m, ⟨passed.head, ?_, ?_, fun ne => passed.idle fun zero => ne ?_, fun a => ?_⟩, passed.course, passed.counted, ?_⟩
  · simp only [Bool.or_eq_true, decide_eq_true_eq, beq_iff_eq, passed.head, Option.some.injEq] at stop
    exact stop
  · rcases Nat.lt_trichotomy m 1 with zero | one | more
    · obtain rfl : m = 0 := by omega
      exact .inl (BitVec.add_zero h)
    · exact .inr (.inl (by rw [one]; rfl))
    · obtain ⟨j, rfl⟩ : ∃ j, m = j + 1 := ⟨m - 1, by omega⟩
      have full := before j (Nat.lt_succ_self j)
      simp only [Bool.or_eq_false_iff, decide_eq_false_iff_not, Nat.not_le] at full
      exact .inr (.inr (Nat.lt_of_lt_of_le full.1
        (fill_before_le sound (Playout.slips_passed j head) passed (by omega) fpp held within)))
  · rw [zero, BitVec.add_zero]
  · rw [passed.kept, moved]
  · rw [passed.kept, if_neg (Nat.not_lt.2 within)]
    exact held

/-! ## A packet stored (R85, R91 to R93) -/

/-- A filling state after WAIT_PACKET: the ring and its head as they were. -/
def Playout.phased (p : Playout) (count : Nat) (phase : Phase) (wait : Timer) : Playout :=
  { p with startCount := count, phase := phase, estimateWait := wait }

/-- A store up to the overflow test. -/
def State.storePut (s : State) (b : BundleId) (r : Record) (k : Packet) : State :=
  let u := s.modPlayout b fun p => p.put k
  let x := u.bun b
  if (x.state = .filling || x.state = .down) && x.playout.phase = .waitPacket then u.endPacketWait b r else u

theorem State.store_eq (s : State) (b : BundleId) (r : Record) (k : Packet) :
    s.store b r k = (s.storePut b r k).overflowTest b r k.header.seq := rfl

theorem State.storePut_spec (s : State) (b : BundleId) (r : Record) (k : Packet) :
    s.storePut b r k = { s with bundles := (s.storePut b r k).bundles } ∧
    ∃ count phase wait, (s.storePut b r k).bun b = { s.bun b with
        playout := ((s.bun b).playout.put k).phased count phase wait } ∧
      PhaseAfterStore s (s.bun b) r (((s.bun b).playout.put k).phased count phase wait) := by
  have put := s.bun_modPlayout_self b fun p => p.put k
  have waits_iff : (((s.bun b).state = .filling || (s.bun b).state = .down) &&
      ((s.bun b).playout.put k).phase = .waitPacket) = true ↔
      ((s.bun b).state = .filling ∨ (s.bun b).state = .down) ∧ (s.bun b).playout.phase = .waitPacket := by
    rw [Bool.and_eq_true, Bool.or_eq_true, decide_eq_true_iff, decide_eq_true_iff, decide_eq_true_iff]
    exact Iff.rfl
  unfold State.storePut
  simp only [put]
  split
  · next waiting =>
    have waits := waits_iff.1 waiting
    unfold State.endPacketWait
    simp only [put]
    split
    · next known =>
      refine ⟨rfl, 0, .countdown, (s.bun b).playout.estimateWait, ?_, ?_⟩
      · rw [State.bun_modPlayout_self, put]; rfl
      · unfold PhaseAfterStore
        simp only
        rw [if_pos waits, if_pos (by simpa [Option.isSome_iff_ne_none] using known)]
        exact ⟨rfl, rfl, rfl⟩
    · next unknown =>
      refine ⟨rfl, 0, .waitEstimate, s.afterSec 1, ?_, ?_⟩
      · rw [State.bun_modPlayout_self, put]; rfl
      · unfold PhaseAfterStore
        simp only
        rw [if_pos waits, if_neg (by simpa [Option.isSome_iff_ne_none] using unknown)]
        exact ⟨rfl, rfl, rfl⟩
  · next other =>
    refine ⟨rfl, (s.bun b).playout.startCount, (s.bun b).playout.phase, (s.bun b).playout.estimateWait, put, ?_⟩
    have stays := fun waits => other (waits_iff.2 waits)
    unfold PhaseAfterStore
    simp only
    rw [if_neg stays]
    exact ⟨rfl, rfl, rfl⟩

theorem slotFor_inRing {p : Playout} (k : Packet) (size : 0 < p.ring.length) :
    (inRing p k).slotFor k.header.seq = some k.slot := by
  have length : (inRing p k).ring.length = p.ring.length := List.length_set
  have lt : k.header.seq.toNat % p.ring.length < p.ring.length := Nat.mod_lt _ size
  have place : (inRing p k).ring[k.header.seq.toNat % p.ring.length]? = some (some k.slot) := by
    change (p.ring.set _ _)[_]? = _
    rw [List.getElem?_set_self lt]
  unfold Playout.slotFor
  rw [length, place]
  exact if_pos rfl

/-- The overflow test passes: the packet is in its slot and nothing else differs. -/
theorem storedBy_of_fits {s : State} {b : BundleId} {r : Record} {k : Packet} {p : Playout} (own : (s.bun b).playout = p)
    (fits : (inRing p k).fill r.fpp ≤ effectiveMax r (s.bun b).ringSize) : StoredBy s (s.store b r k) b r k p := by
  obtain ⟨rest, count, phase, wait, bundle, after⟩ := s.storePut_spec b r k
  rw [own] at bundle after
  have stays : s.store b r k = s.storePut b r k := by
    rw [State.store_eq]
    unfold State.overflowTest
    simp only [bundle]
    exact if_pos fits
  have ctrls : (s.storePut b r k).ctrls = s.ctrls := by rw [rest]
  rw [stays]
  refine ⟨by rw [bundle], by rw [bundle]; rfl, by rw [bundle]; rfl, by rw [bundle]; exact after, by rw [bundle]; rfl,
    fun _ size => by rw [bundle]; exact slotFor_inRing k size, fun _ => ?_, fun _ _ top e over_ => ?_⟩
  · rw [bundle]
    exact ⟨rfl, rfl, rfl, rfl, rfl, ctrls⟩
  · subst e
    exact absurd fits (Nat.not_le.2 over_)

theorem ringSound_inRing {p : Playout} {k : Packet} (sound : RingSound p)
    (stored : p.placement k.header.path k.header.seq = .stored) : RingSound (inRing p k) :=
  (sound.put stored).of_ring rfl rfl

/-- The overflow test fails: the head slips forward (R91). -/
theorem storedBy_of_slips {s : State} {b : BundleId} {r : Record} {k : Packet} {p : Playout} (own : (s.bun b).playout = p)
    (stored : p.placement k.header.path k.header.seq = .stored)
    (near : ∀ h, p.head = some h → (k.header.seq - h).toNat < p.ring.length)
    (full : effectiveMax r (s.bun b).ringSize < (inRing p k).fill r.fpp) : StoredBy s (s.store b r k) b r k p := by
  obtain ⟨rest, count, phase, wait, bundle, after⟩ := s.storePut_spec b r k
  rw [own] at bundle after
  obtain ⟨q, n, slips⟩ : ∃ q n, ((p.put k).phased count phase wait).slipForward r.fpp
    (effectiveMax r (s.bun b).ringSize) k.header.seq = (q, n) := ⟨_, _, rfl⟩
  have acts : s.store b r k = ((s.storePut b r k).modPlayout b fun _ => q.countSlipped n).post .depthSlip (.bundle b)
      (slipDetail n q.head) := by
    rw [State.store_eq]
    unfold State.overflowTest
    simp only [bundle, slips]
    exact if_neg (Nat.not_le.2 full)
  have final : (s.store b r k).bun b = { s.bun b with playout := q.countSlipped n } := by
    rw [acts, State.bun_post, State.bun_modPlayout_self, bundle]
  have course : SameCourse ((p.put k).phased count phase wait) q := by
    have whole := Playout.slips_course
    obtain ⟨m, -, e, -⟩ := Playout.slipUntil_eq (fun q => decide (q.fill r.fpp ≤ effectiveMax r (s.bun b).ringSize) ||
      q.head == some k.header.seq) ((p.put k).phased count phase wait).ring.length
      (p := (p.put k).phased count phase wait) (h := p.head.getD k.header.seq) rfl
    have same : q = (((p.put k).phased count phase wait).slips m).1 := by rw [← e]; exact (congrArg Prod.fst slips).symm
    rw [same]
    exact whole m _
  have slipped : RingSound p → 0 < p.ring.length → ∃ m, Slipped (inRing p k) (q.countSlipped n) r.fpp
      (effectiveMax r (s.bun b).ringSize) k.header.seq (p.head.getD k.header.seq)
        (p.head.getD k.header.seq + BitVec.ofNat 16 m) ∧
      n + (q.countSlipped n).heldSlots.length = (inRing p k).heldSlots.length ∧
      (q.countSlipped n).slotFor k.header.seq = some k.slot := fun sound size => by
    have reach : (k.header.seq - p.head.getD k.header.seq).toNat < (inRing p k).ring.length := by
      rw [show (inRing p k).ring.length = p.ring.length from List.length_set]
      cases head : p.head with
      | none => rw [Option.getD_none, BitVec.sub_self]; exact size
      | some h => exact near h head
    obtain ⟨m, slip, -, counted, held⟩ := slipForward_spec (p := (p.put k).phased count phase wait) (x := k.slot)
      (h := p.head.getD k.header.seq) ((sound.put stored).of_ring rfl rfl) rfl (slotFor_inRing k size) reach
      (fpp := r.fpp) (top := effectiveMax r (s.bun b).ringSize)
    rw [show k.slot.seq = k.header.seq from rfl, slips] at slip counted held
    exact ⟨m, ⟨slip.head, slip.enough, slip.first, slip.abandoned, slip.kept⟩, counted, held⟩
  have phased : PhaseAfterStore s (s.bun b) r (q.countSlipped n) := by
    rw [course]; exact after
  refine ⟨by rw [final], ?_, ?_, by rw [final]; exact phased, ?_, fun sound size => ?_, fun fits => ?_,
    fun sound size top e over_ => ?_⟩
  · rw [final, course]; rfl
  · rw [final, course]; rfl
  · rw [final, course]; rfl
  · obtain ⟨m, -, -, held⟩ := slipped sound size
    rw [final]; exact held
  · exact absurd fits (Nat.not_le.2 full)
  · subst e
    obtain ⟨m, slip, counted, -⟩ := slipped sound size
    have told := Posts.post ((s.storePut b r k).modPlayout b fun _ => q.countSlipped n) .depthSlip (.bundle b)
      (slipDetail n q.head)
    have now : ((s.storePut b r k).modPlayout b fun _ => q.countSlipped n).now = s.now := by
      change (s.storePut b r k).now = s.now; rw [rest]
    have quiet : ((s.storePut b r k).modPlayout b fun _ => q.countSlipped n).ctrls = s.ctrls := by
      change (s.storePut b r k).ctrls = s.ctrls; rw [rest]
    have head : q.head = some (p.head.getD k.header.seq + BitVec.ofNat 16 m) := slip.head
    rw [eventNow_of_now now, head] at told
    refine ⟨_, n, by rw [final]; exact slip, by rw [final]; exact counted, ?_, ?_⟩
    · rw [final, course]; rfl
    · rw [acts, head]
      exact Posts.trans (.of_ctrls quiet) told

theorem storedBy_store {s : State} {b : BundleId} {r : Record} {k : Packet} {p : Playout} (own : (s.bun b).playout = p)
    (stored : p.placement k.header.path k.header.seq = .stored)
    (near : ∀ h, p.head = some h → (k.header.seq - h).toNat < p.ring.length) : StoredBy s (s.store b r k) b r k p := by
  by_cases fits : (inRing p k).fill r.fpp ≤ effectiveMax r (s.bun b).ringSize
  · exact storedBy_of_fits own fits
  · exact storedBy_of_slips own stored near (Nat.not_le.1 fits)

/-! ## EARLY packets and the resync (R88) -/

/-- A resync up to its fall back: the ring emptied, the resync counted and posted. -/
def State.resyncPart (s : State) (b : BundleId) (q : Seq) : State :=
  ((s.emptyRing b).modPlay b fun c => { c with resyncs := bump c.resyncs }).post .playoutResync (.bundle b)
    (((s.bun b).playout.head.getD 0).toNat * 65536 + q.toNat)

theorem State.bun_modPlay (s : State) (b : BundleId) (f : PlayCounters → PlayCounters) :
    (s.modPlay b f).bun b = { s.bun b with
      playout := { (s.bun b).playout with counters := f (s.bun b).playout.counters } } := State.bun_modPlayout_self ..

/-- An EARLY packet counted. -/
def State.countEarly (s : State) (b : BundleId) : State := s.modPlay b fun c => { c with early := bump c.early }

theorem State.early_of_few {s : State} {b : BundleId} (few : (s.bun b).playout.earlyRun + 1 < 8) (q : Seq) :
    s.early b q = (s.countEarly b).modPlayout b fun p => { p with earlyRun := (s.bun b).playout.earlyRun + 1 } := by
  have own := s.bun_modPlay b fun c => { c with early := bump c.early }
  unfold State.early
  simp only [own]
  exact if_neg (Nat.not_le.2 few)

theorem State.early_of_eight {s : State} {b : BundleId} (eight : 8 ≤ (s.bun b).playout.earlyRun + 1) (q : Seq) :
    s.early b q = (s.countEarly b).resync b q := by
  have own := s.bun_modPlay b fun c => { c with early := bump c.early }
  unfold State.early
  simp only [own]
  exact if_pos eight

theorem State.resyncPart_spec (s : State) (b : BundleId) (q h : Seq) (head : (s.bun b).playout.head = some h) :
    let u := (s.countEarly b).resyncPart b q
    Local b s u ∧ u.tribs = s.tribs ∧ u.bun b = { s.bun b with playout := resynced (s.bun b).playout } ∧
    Posts s u (resyncEvents s b q h) := by
  intro u
  have counted := s.bun_modPlay b fun c => { c with early := bump c.early }
  change (s.countEarly b).bun b = _ at counted
  have emptied := (s.countEarly b).bun_emptyRing b
  have first : Local b s (s.countEarly b) :=
    .modPlayout s b (fun p => { p with counters := { p.counters with early := bump p.counters.early } }) rfl
  have empties : Local b (s.countEarly b) ((s.countEarly b).emptyRing b) := .emptyRing ..
  have resyncs : Local b ((s.countEarly b).emptyRing b) u :=
    (Local.modPlayout ((s.countEarly b).emptyRing b) b _ rfl).trans (.post ..)
  have now₁ : (s.countEarly b).now = s.now := rfl
  have abandons : ∀ v : State, (v.emptyRing b).tribs = v.tribs ∧ (v.emptyRing b).now = v.now := fun v => by
    unfold State.emptyRing State.postAbandoned State.postIf
    split <;> exact ⟨rfl, rfl⟩
  refine ⟨(first.trans empties).trans resyncs, (abandons (s.countEarly b)).1, ?_, ?_⟩
  · change (((s.countEarly b).emptyRing b).modPlay b fun c => { c with resyncs := bump c.resyncs }).bun b = _
    rw [State.bun_modPlay, emptied, counted]
    rfl
  · have same : ((s.countEarly b).bun b).playout.adjust = (s.bun b).playout.adjust := by rw [counted]
    have told := Posts.postIf (s.countEarly b) ((s.countEarly b).bun b).playout.adjust.isSome .depthAdjust (.bundle b)
      (adjustDetail 3 0 0)
    have now : (((s.countEarly b).emptyRing b).modPlay b fun c => { c with resyncs := bump c.resyncs }).now = s.now :=
      (abandons (s.countEarly b)).2
    have more := Posts.post (((s.countEarly b).emptyRing b).modPlay b fun c => { c with resyncs := bump c.resyncs })
      .playoutResync (.bundle b) (h.toNat * 65536 + q.toNat)
    rw [same, eventNow_of_now now₁] at told
    rw [eventNow_of_now now] at more
    have parts : u = (((s.countEarly b).emptyRing b).modPlay b fun c => { c with resyncs := bump c.resyncs }).post
        .playoutResync (.bundle b) (h.toNat * 65536 + q.toNat) := by
      change State.post _ _ _ ((((s.countEarly b).bun b).playout.head.getD 0).toNat * 65536 + q.toNat) = _
      rw [counted]
      change State.post _ _ _ (((s.bun b).playout.head.getD 0).toNat * 65536 + q.toNat) = _
      rw [head]
      rfl
    have abandoned : (if (s.bun b).playout.adjust.isSome = true then
        [eventNow s .depthAdjust (.bundle b) (adjustDetail 3 0 0)] else []) =
        (if (s.bun b).playout.adjust = none then [] else [eventNow s .depthAdjust (.bundle b) (3 * 67108864)]) := by
      cases (s.bun b).playout.adjust <;> rfl
    have given : (s.countEarly b).postAbandoned b = (s.countEarly b).postIf (s.bun b).playout.adjust.isSome .depthAdjust
        (.bundle b) (adjustDetail 3 0 0) := by unfold State.postAbandoned; rw [same]
    rw [abandoned, ← given] at told
    have silent : Posts ((s.countEarly b).postAbandoned b)
        (((s.countEarly b).emptyRing b).modPlay b fun c => { c with resyncs := bump c.resyncs }) [] := .of_ctrls rfl
    rw [parts]
    have start : Posts s (s.countEarly b) [] := .of_ctrls rfl
    exact Posts.trans start (Posts.trans (Posts.trans told silent) more) |> fun h => by
      rwa [List.append_nil, List.nil_append] at h

/-- The eighth EARLY packet in a row (R88). -/
theorem resynced_early {s : State} {b : BundleId} {q h : Seq} (head : (s.bun b).playout.head = some h)
    (eight : 8 ≤ (s.bun b).playout.earlyRun + 1) : Resynced s (s.early b q) b q h := by
  obtain ⟨within, tribs, own, posts⟩ := s.resyncPart_spec b q h head
  have acts : s.early b q = if (((s.countEarly b).resyncPart b q).bun b).state = .playing then
      ((s.countEarly b).resyncPart b q).fallBack b .filling .resync else (s.countEarly b).resyncPart b q :=
    State.early_of_eight eight q
  generalize (s.countEarly b).resyncPart b q = u at within tribs own posts acts
  have state : (u.bun b).state = (s.bun b).state := by rw [own]
  rw [state] at acts
  by_cases playing : (s.bun b).state = .playing
  · rw [if_pos playing] at acts
    have falls : s.early b q = ((u.changeState b .filling .resync).dropProposal b).computeTarget b := by
      rw [acts]
      unfold State.fallBack
      simp only
      exact if_pos (state.trans playing)
    obtain ⟨d, -, final⟩ := State.bun_fallBack (s := u) (b := b) (new := .filling) nofun (by rw [own]; exact nofun) .resync
    rw [← acts, own] at final
    have now : u.now = s.now := by rw [within.rest]
    have changed := u.bun_changeState b .filling .resync
    have moved := Local.changeState u b .filling .resync
    have told := Posts.changeState u b .filling .resync
    rw [state, playing, bundleStateEvent, eventNow_of_now now] at told
    have dropped : ((u.changeState b .filling .resync).dropProposal b).bun b = { s.bun b with
        state := .filling
        playout := resynced (s.bun b).playout
        delay := { (s.bun b).delay with proposed := none } } := by
      unfold State.dropProposal
      rw [State.bun_modDelay_self, changed, own]
    have left := State.steering_changeState (s := u) (b := b) (new := .filling) (state.trans playing) nofun .resync
    have last : Local b (u.changeState b .filling .resync) ((u.changeState b .filling .resync).dropProposal b) :=
      .modDelay ..
    have reached := (within.trans moved).trans last
    refine ⟨by rw [final], by rw [final]; exact (if_pos playing).symm, fun k => absurd playing k, fun _ =>
      ⟨(u.changeState b .filling .resync).dropProposal b, falls, reached.rest, reached.others, dropped,
        steeringAbandoned_of_tribs left tribs rfl, ?_⟩⟩
    · have silent : Posts (u.changeState b .filling .resync) ((u.changeState b .filling .resync).dropProposal b) [] :=
        .of_ctrls rfl
      exact Posts.trans posts (Posts.trans told silent)
  · rw [if_neg playing] at acts
    rw [acts]
    exact ⟨by rw [own], by rw [own, if_neg playing], fun _ => ⟨own, tribs, posts⟩, fun k => absurd k playing⟩

/-! ## Table 37 -/

/-- The placement of a packet by the distance of its sequence from the head (Table 37). -/
theorem Playout.placement_eq {p : Playout} {h q : Seq} {d : Nat} (head : p.head = some h) (dist : d = (q - h).toNat)
    (path : Path) : p.placement path q =
      if 32768 ≤ d ∨ d = 0 ∧ 1 ≤ p.played then .late
      else if p.ring.length ≤ d then .early
      else match p.slotFor q with
        | none => .stored
        | some x => if x.path = path then .duplicate else .mergeCopy := by
  have small : d < 65536 := by rw [dist]; exact (q - h).isLt
  have signed := BitVec.toInt_eq_toNat_cond (q - h)
  rw [← dist] at signed
  unfold Playout.placement
  rw [head]
  simp only
  by_cases late : 32768 ≤ d ∨ d = 0 ∧ 1 ≤ p.played
  · rw [if_pos late, if_pos (by split at signed <;> omega)]
  · rw [if_neg late, if_neg (by split at signed <;> omega)]
    refine if_congr (by split at signed <;> omega) rfl ?_
    cases p.slotFor q <;> rfl

theorem Playout.placement_of_none {p : Playout} (head : p.head = none) (path : Path) (q : Seq) :
    p.placement path q = .stored := by unfold Playout.placement; rw [head]

/-- A packet on the active path, or of a bundle with no active path. -/
theorem State.place_active {s : State} {b : BundleId} {r : Record} {k : Packet}
    (h : r.pathMode ≠ .selected ∨ k.header.path = (s.bun b).supervisor.selector.active) :
    s.place b r k = match (s.bun b).playout.placement k.header.path k.header.seq with
      | .late => s.modPlay b fun c => { c with late := bump c.late }
      | .mergeCopy => s.modPlay b fun c => { c with mergeCopy := bump c.mergeCopy }
      | .duplicate => s.modPlay b fun c => { c with duplicate := bump c.duplicate }
      | .early => s.early b k.header.seq
      | .stored => s.store b r k := by
  unfold State.place
  simp only
  exact if_neg (by rcases h with h | h <;> simp [h])

theorem State.place_standby {s : State} {b : BundleId} {r : Record} {k : Packet} (mode : r.pathMode = .selected)
    (other : k.header.path ≠ (s.bun b).supervisor.selector.active) :
    s.place b r k = s.modPlay b fun c => { c with standby := bump c.standby } :=
  if_pos (by simp [mode, other])

theorem State.tribs_store (s : State) (b : BundleId) (r : Record) (k : Packet) : (s.store b r k).tribs = s.tribs := by
  have put := (s.storePut_spec b r k).1
  have same : (s.storePut b r k).tribs = s.tribs := by rw [put]
  rw [State.store_eq]
  unfold State.overflowTest
  simp only
  split
  · exact same
  · exact same

theorem State.tribs_early {s : State} {b : BundleId} (h : (s.bun b).state ≠ .playing ∨ (s.bun b).playout.earlyRun + 1 < 8)
    {d : Seq} (head : (s.bun b).playout.head = some d) (q : Seq) : (s.early b q).tribs = s.tribs := by
  by_cases few : (s.bun b).playout.earlyRun + 1 < 8
  · rw [State.early_of_few few]; rfl
  · exact ((resynced_early head (Nat.not_lt.1 few)).kept (h.resolve_right few)).2.1

/-- No packet abandons an interval but the eighth EARLY one of a PLAYING bundle (R88, R162). -/
theorem State.tribs_place {s : State} {b : BundleId} {r : Record} {k : Packet} {p : Playout}
    (own : (s.bun b).playout = p) (h : (s.bun b).state ≠ .playing ∨ p.earlyRun + 1 < 8 ∨
      r.pathMode = .selected ∧ k.header.path ≠ (s.bun b).supervisor.selector.active ∨ p.head = none ∨
      ∃ h, p.head = some h ∧ (k.header.seq - h).toNat < p.ring.length) : (s.place b r k).tribs = s.tribs := by
  subst own
  by_cases standby : r.pathMode = .selected ∧ k.header.path ≠ (s.bun b).supervisor.selector.active
  · rw [State.place_standby standby.1 standby.2]; rfl
  · rw [State.place_active (by rwa [← not_ne_iff (a := k.header.path), ← not_and_or])]
    cases placed : (s.bun b).playout.placement k.header.path k.header.seq with
    | late => rfl
    | mergeCopy => rfl
    | duplicate => rfl
    | stored => exact s.tribs_store b r k
    | early =>
      cases head : (s.bun b).playout.head with
      | none => rw [Playout.placement_of_none head] at placed; cases placed
      | some d =>
        refine State.tribs_early ?_ head _
        rcases h with h | h | h | h | ⟨d', own, near⟩
        · exact .inl h
        · exact .inr h
        · exact absurd h standby
        · rw [head] at h; cases h
        · rw [Playout.placement_eq own rfl] at placed
          split at placed
          · cases placed
          · rw [if_neg (Nat.not_le.2 near)] at placed
            split at placed
            · cases placed
            · split at placed <;> cases placed

/-- Settles O52. -/
theorem placementFollowsTable37 : Obligations.PlacementFollowsTable37 := by
  intro s b r k x p hx hp _ t ht
  subst hx hp ht
  have within := Local.place s b r k
  have counts : ∀ f, (s.modPlay b f).tribs = s.tribs ∧ (s.modPlay b f).ctrls = s.ctrls ∧ (s.modPlay b f).bun b =
      { s.bun b with playout := { (s.bun b).playout with counters := f (s.bun b).playout.counters } } := fun f =>
    ⟨rfl, rfl, s.bun_modPlay b f⟩
  refine ⟨within.others, within.rest, State.tribs_place rfl, fun mode other => ?_, fun taken => ⟨fun h d head dist => ?_,
    fun none => ?_⟩⟩
  · rw [State.place_standby mode other]; exact counts _
  · have acts := State.place_active (s := s) (b := b) taken
    rw [Playout.placement_eq head dist] at acts
    refine ⟨fun late => ?_, fun ahead live far few => ?_, fun ahead live far eight => ?_, fun y ahead live near held => ?_,
      fun ahead live near free => ?_⟩
    · rw [if_pos late] at acts
      rw [acts]; exact counts _
    all_goals rw [if_neg (by omega)] at acts
    · rw [if_pos far] at acts
      rw [acts, State.early_of_few few]
      refine ⟨rfl, rfl, ?_⟩
      rw [State.bun_modPlayout_self]
      unfold State.countEarly
      rw [State.bun_modPlay]
    · rw [if_pos far] at acts
      rw [acts]
      exact resynced_early head eight
    · rw [if_neg (Nat.not_le.2 near), held] at acts
      by_cases same : y.path = k.header.path
      · simp only [same, if_true] at acts
        rw [acts, if_pos same]; exact counts _
      · simp only [same, if_false] at acts
        rw [acts, if_neg same]; exact counts _
    · rw [if_neg (Nat.not_le.2 near), free] at acts
      rw [acts]
      refine storedBy_store rfl ?_ fun h' own => ?_
      · rw [Playout.placement_eq head dist, if_neg (by omega), if_neg (Nat.not_le.2 near), free]
      · obtain rfl : h = h' := Option.some.inj (head.symm.trans own)
        rw [← dist]; exact near
  · have stored := Playout.placement_of_none none k.header.path k.header.seq
    have acts := State.place_active (s := s) (b := b) taken
    rw [stored] at acts
    rw [acts]
    exact storedBy_store rfl stored fun h own => by rw [none] at own; cases own

end Sys2Proof.Machine
end

section
/-! The record patrol (R40): O45. -/

namespace Sys2Proof.Machine

open Safety

/-! ## The records as they read (R40) -/

theorem State.readRecord_frame (s : State) (read : BundleId × Record) :
    s.readRecord read = { s with bundles := (s.readRecord read).bundles } := rfl

theorem State.readRecords_frame (reads : List (BundleId × Record)) (s : State) :
    reads.foldl State.readRecord s = { s with bundles := (reads.foldl State.readRecord s).bundles } := by
  induction reads generalizing s with
  | nil => rfl
  | cons read reads ih => exact (ih (s.readRecord read)).trans rfl

/-- Whether a read changes a bundle's record: there is one, and it is not known to be faulty. -/
def Bundle.Readable (x : Bundle) : Prop := x.active ≠ none ∧ x.recordFault = false

theorem State.bun_readRecord_ne (s : State) {read : BundleId × Record} {b : BundleId} (h : read.1 ≠ b) :
    (s.readRecord read).bun b = s.bun b := State.bun_modBun_ne _ _ (Ne.symm h)

theorem State.bun_readRecord_unreadable {s : State} {b : BundleId} (h : ¬ (s.bun b).Readable) (r : Record) :
    (s.readRecord (b, r)).bun b = s.bun b := by
  refine (State.bun_modBun_self ..).trans (if_neg fun k => h ?_)
  simpa [Bundle.Readable, Option.isSome_iff_ne_none] using k

theorem State.bun_readRecord_readable {s : State} {b : BundleId} (h : (s.bun b).Readable) (r : Record) :
    (s.readRecord (b, r)).bun b = { s.bun b with active := some r } := by
  refine (State.bun_modBun_self ..).trans (if_pos ?_)
  simpa [Bundle.Readable, Option.isSome_iff_ne_none] using h

theorem State.bun_readRecords_untouched {reads : List (BundleId × Record)} {s : State} {b : BundleId}
    (h : (s.bun b).active = none ∨ (s.bun b).recordFault = true ∨ ∀ r, (b, r) ∉ reads) :
    (reads.foldl State.readRecord s).bun b = s.bun b := by
  induction reads generalizing s with
  | nil => rfl
  | cons read reads ih =>
    have same : (s.readRecord read).bun b = s.bun b := by
      by_cases own : read.1 = b
      · obtain ⟨c, r⟩ := read
        obtain rfl : c = b := own
        refine State.bun_readRecord_unreadable (fun k => ?_) r
        rcases h with none | faulted | absent
        · exact k.1 none
        · exact absurd (k.2.symm.trans faulted) nofun
        · exact absent r List.mem_cons_self
      · exact s.bun_readRecord_ne own
    rw [List.foldl_cons, ih, same]
    rw [same]
    exact h.imp_right (Or.imp_right fun absent r mem => absent r (List.mem_cons_of_mem _ mem))

/-- A readable record is known by its last read. -/
theorem State.bun_readRecords_readable (reads : List (BundleId × Record)) {s : State} {b : BundleId}
    (h : (s.bun b).Readable) : ∃ active, (reads.foldl State.readRecord s).bun b = { s.bun b with active := some active } := by
  induction reads generalizing s with
  | nil =>
    obtain ⟨r, active⟩ := Option.ne_none_iff_exists'.1 h.1
    exact ⟨r, by rw [← active]; rfl⟩
  | cons read reads ih =>
    by_cases own : read.1 = b
    · obtain ⟨c, r⟩ := read
      obtain rfl : c = b := own
      have read := State.bun_readRecord_readable h r
      obtain ⟨active, rest⟩ := ih (s := s.readRecord (c, r)) (by rw [read]; exact ⟨nofun, h.2⟩)
      exact ⟨active, by rw [List.foldl_cons, rest, read]⟩
    · have same := s.bun_readRecord_ne own
      obtain ⟨active, rest⟩ := ih (s := s.readRecord read) (by rw [same]; exact h)
      exact ⟨active, by rw [List.foldl_cons, rest, same]⟩

theorem State.bun_readRecords_last {pre post : List (BundleId × Record)} {s : State} {b : BundleId} {r : Record}
    (h : (s.bun b).Readable) (last : ∀ r', (b, r') ∉ post) :
    ((pre ++ (b, r) :: post).foldl State.readRecord s).bun b = { s.bun b with active := some r } := by
  obtain ⟨active, before⟩ := State.bun_readRecords_readable pre h
  have read := State.bun_readRecord_readable (s := pre.foldl State.readRecord s) (b := b)
    (by rw [before]; exact ⟨nofun, h.2⟩) r
  rw [List.foldl_append, List.foldl_cons, State.bun_readRecords_untouched (.inr (.inr last)), read, before]

/-! ## One record found corrupt (R40) -/

/-- Nothing changes but bundle `b`, the ports, the transmit queues and the faults. -/
structure Disturbed (b : BundleId) (s t : State) : Prop where
  rest : t = { s with bundles := t.bundles, tribs := t.tribs, nets := t.nets, ctrls := t.ctrls, faults := t.faults }
  others : OtherBundles s t b

theorem Disturbed.trans {b : BundleId} {s t u : State} (h : Disturbed b s t) (k : Disturbed b t u) : Disturbed b s u where
  rest := by rw [k.rest, h.rest]
  others c ne := (k.others c ne).trans (h.others c ne)

theorem Disturbed.refl (b : BundleId) (s : State) : Disturbed b s s := ⟨rfl, fun _ _ => rfl⟩

theorem Stirred.disturbed {b : BundleId} {s t : State} (h : Stirred b s t) : Disturbed b s t :=
  ⟨by rw [h.rest], h.others⟩

/-- The ports steered from bundle `b` abandon their intervals where `leaves` holds, and no port differs else. -/
def SteeringLeft (b : BundleId) (leaves : Prop) [Decidable leaves] (s t : State) : Prop :=
  ∀ p, t.trib p = if (s.trib p).cfg.clock = .steered b ∧ leaves then
    { s.trib p with steer := (s.trib p).steer.abandon } else s.trib p

/-- The fault recorded and the bundle STOPPED, its blocks as they were. -/
def State.markFaulted (s : State) (b : BundleId) : State :=
  (s.recordFault .recordCheck (some b) 0).changeState b .stopped .recordFault

theorem steeringLeft_changeState {s v : State} {b : BundleId} (tribs : v.tribs = s.tribs)
    (state : (v.bun b).state = (s.bun b).state) :
    SteeringLeft b ((s.bun b).state = .playing) s (v.changeState b .stopped .recordFault) := fun p => by
  have same : v.trib p = s.trib p := by simp only [State.trib, tribs]
  by_cases playing : (s.bun b).state = .playing
  · rw [State.steering_changeState (s := v) (new := .stopped) (state.trans playing) nofun .recordFault p, same]
    exact if_congr (and_iff_left playing).symm rfl rfl
  · have kept := (Confined.changeState (s := v) (b := b) (by rwa [state]) .stopped .recordFault).tribs
    rw [if_neg fun k => playing k.2, ← same]
    simp only [State.trib, kept]

theorem State.markFaulted_spec (s : State) (b : BundleId) :
    let t := s.markFaulted b
    Disturbed b s t ∧ t.bun b = { s.bun b with state := .stopped } ∧
    t.faults = s.faults.add ⟨.recordCheck, some b, s.eventTime, 0⟩ ∧ t.nets = s.nets ∧
    SteeringLeft b ((s.bun b).state = .playing) s t ∧
    Posts s t [faultEvent s .recordCheck (some b) 1, bundleStateEvent s b (s.bun b).state .stopped .recordFault] := by
  intro t
  have fault := Posts.recordFault s .recordCheck (some b) 0
  have told := Posts.changeState (s.recordFault .recordCheck (some b) 0) b .stopped .recordFault
  have noted : Disturbed b s (s.recordFault .recordCheck (some b) 0) := ⟨rfl, fun _ _ => rfl⟩
  have moved := Local.changeState (s.recordFault .recordCheck (some b) 0) b .stopped .recordFault
  have faults : t.faults = (s.recordFault .recordCheck (some b) 0).faults := by
    change ((s.recordFault .recordCheck (some b) 0).changeState b .stopped .recordFault).faults = _
    rw [moved.rest]
  refine ⟨noted.trans moved.stirred.disturbed, State.bun_changeState .., faults, moved.nets, ?_, Posts.trans fault told⟩
  exact steeringLeft_changeState (v := s.recordFault .recordCheck (some b) 0) rfl rfl

/-- What the patrol leaves of a bundle whose record fails its check (R37, R40). -/
structure Faulted (b : BundleId) (s t : State) : Prop where
  disturbed : Disturbed b s t
  idle : (s.bun b).state.running = false → t.bun b = { s.bun b with recordFault := true, state := .stopped }
  running : (s.bun b).state.running = true →
    Retimed { (s.bun b).halted with recordFault := true, state := .stopped } (t.bun b)
  faults : t.faults = s.faults.add ⟨.recordCheck, some b, s.eventTime, 0⟩
  nets : t.nets = if (s.bun b).state.running then (s.withdraw b).nets else s.nets
  steering : SteeringLeft b ((s.bun b).state = .playing) s t
  posts : ∃ es, Posts s t es ∧ faultEvent s .recordCheck (some b) 1 ∈ es ∧
    bundleStateEvent s b (s.bun b).state .stopped .recordFault ∈ es ∧
    ((s.bun b).state.running = true → ∀ e ∈ haltEvents s b, e ∈ es)

/-- The fault flag set. -/
def State.flagRecord (s : State) (b : BundleId) : State := s.modBun b fun x => { x with recordFault := true }

theorem State.flagRecord_confined (s : State) (b : BundleId) : Confined b s (s.flagRecord b) := .modBun ..

theorem State.bun_flagRecord (s : State) (b : BundleId) :
    (s.flagRecord b).bun b = { s.bun b with recordFault := true } := State.bun_modBun_self ..

theorem faulted_idle {s : State} {b : BundleId} (idle : (s.bun b).state.running = false) : Faulted b s (s.faultRecord b) := by
  have acts : s.faultRecord b = (s.flagRecord b).markFaulted b := by
    unfold State.faultRecord
    simp only [idle]
    rfl
  have own := s.bun_flagRecord b
  have first : Posts s (s.flagRecord b) [] := .of_ctrls rfl
  obtain ⟨disturbed, bundle, faults, nets, steering, posts⟩ := (s.flagRecord b).markFaulted_spec b
  have stopped : (s.bun b).state ≠ .playing := fun k => by rw [k] at idle; cases idle
  have calm : ((s.flagRecord b).bun b).state ≠ .playing := by rw [own]; exact stopped
  rw [own] at bundle posts
  rw [acts]
  refine ⟨(s.flagRecord_confined b).stirred.disturbed.trans disturbed, fun _ => bundle,
    fun k => absurd (idle.symm.trans k) nofun, faults, ?_, fun p => ?_, _, Posts.trans first posts, ?_, ?_,
    fun k => absurd (idle.symm.trans k) nofun⟩
  · rw [nets, idle]; rfl
  · rw [steering p, if_neg fun k => calm k.2, if_neg fun k => stopped k.2]; rfl
  · exact List.mem_cons_self
  · exact List.mem_cons_of_mem _ List.mem_cons_self

theorem faulted_running {s : State} {b : BundleId} (running : (s.bun b).state.running = true) :
    Faulted b s (s.faultRecord b) := by
  have acts : s.faultRecord b = (((s.flagRecord b).stopBlocks b).markFaulted b).computeTarget b := by
    unfold State.faultRecord
    simp only [running, if_true]
    rfl
  have own := s.bun_flagRecord b
  have first : Posts s (s.flagRecord b) [] := .of_ctrls rfl
  obtain ⟨confined, queues, halted, events⟩ := (s.flagRecord b).stopBlocks_spec b
  rw [own] at halted
  have same : haltEvents (s.flagRecord b) b = haltEvents s b := by unfold haltEvents; rw [own]; rfl
  rw [same] at events
  have stopped := (s.flagRecord_confined b).trans confined
  generalize (s.flagRecord b).stopBlocks b = u at confined queues halted events acts stopped
  obtain ⟨disturbed, bundle, faults, nets, steering, posts⟩ := u.markFaulted_spec b
  have state : (u.bun b).state = (s.bun b).state := by rw [halted]; rfl
  have fault : faultEvent u .recordCheck (some b) 1 = faultEvent s .recordCheck (some b) 1 := by
    unfold faultEvent
    rw [eventNow_of_now stopped.now, stopped.rest]
  rw [state, fault, bundleStateEvent, eventNow_of_now stopped.now] at posts
  have idle : ((u.markFaulted b).bun b).state ≠ .playing := by rw [bundle]; exact nofun
  have target := Tunes.computeTarget (u.markFaulted b) b
  have last := target.confined idle
  have retimed := State.bun_computeTarget_idle idle (by rw [bundle, halted]; exact nofun)
  obtain ⟨es, more⟩ := target.posts
  rw [bundle, halted] at retimed
  have time : u.eventTime = s.eventTime := by unfold State.eventTime; rw [stopped.now]
  have old : u.faults = s.faults := by rw [stopped.rest]
  rw [acts]
  refine ⟨(stopped.stirred.disturbed.trans disturbed).trans last.stirred.disturbed,
    fun k => absurd (running.symm.trans k) nofun, fun _ => retimed, ?_, ?_, fun p => ?_, _,
    Posts.trans first (Posts.trans events (Posts.trans posts more)), ?_, ?_, fun _ e mem => ?_⟩
  · have kept : ((u.markFaulted b).computeTarget b).faults = (u.markFaulted b).faults := by rw [last.rest]
    rw [kept, faults, time, old]
  · rw [running, target.within.nets, nets, queues]; rfl
  · have ends : ((u.markFaulted b).computeTarget b).trib p = (u.markFaulted b).trib p := by
      simp only [State.trib, last.tribs]
    have begins : u.trib p = s.trib p := by simp only [State.trib, stopped.tribs]
    rw [ends, steering p, begins]
    exact if_congr (by rw [state]) rfl rfl
  · exact List.mem_append_right _ (List.mem_append_right _ (List.mem_append_left _ List.mem_cons_self))
  · exact List.mem_append_right _ (List.mem_append_right _ (List.mem_append_left _
      (List.mem_cons_of_mem _ List.mem_cons_self)))
  · exact List.mem_append_right _ (List.mem_append_left _ mem)

theorem faulted_faultRecord (s : State) (b : BundleId) : Faulted b s (s.faultRecord b) := by
  cases running : (s.bun b).state.running with
  | false => exact faulted_idle running
  | true => exact faulted_running running

/-! ## The patrol over several bundles -/

theorem State.patrol_mismatched {s : State} {b : BundleId} (h : (s.bun b).mismatched = true) : Faulted b s (s.patrol b) := by
  unfold State.patrol
  rw [if_pos h]
  exact faulted_faultRecord s b

theorem State.patrol_sound {s : State} {b : BundleId} (h : (s.bun b).mismatched = false) : s.patrol b = s := by
  unfold State.patrol
  rw [if_neg (by rw [h]; exact nofun)]

theorem Disturbed.patrol (s : State) (b : BundleId) : Disturbed b s (s.patrol b) := by
  cases h : (s.bun b).mismatched with
  | true => exact (State.patrol_mismatched h).disturbed
  | false => rw [State.patrol_sound h]; exact .refl b s

/-- Nothing changes but bundles, ports, transmit queues, control ports and faults. -/
def PatrolFrame (s t : State) : Prop :=
  t = { s with bundles := t.bundles, tribs := t.tribs, nets := t.nets, ctrls := t.ctrls, faults := t.faults }

theorem PatrolFrame.trans {s t u : State} (h : PatrolFrame s t) (k : PatrolFrame t u) : PatrolFrame s u := by
  unfold PatrolFrame at *
  rw [k, h]

theorem State.patrols_frame (bs : List BundleId) (s : State) : PatrolFrame s (bs.foldl State.patrol s) := by
  induction bs generalizing s with
  | nil => rfl
  | cons b bs ih => exact PatrolFrame.trans (Disturbed.patrol s b).rest (ih (s.patrol b))

theorem State.now_patrols (bs : List BundleId) (s : State) : (bs.foldl State.patrol s).now = s.now := by
  rw [State.patrols_frame bs s]

theorem State.bun_patrols_ne {bs : List BundleId} {b : BundleId} (h : b ∉ bs) (s : State) :
    (bs.foldl State.patrol s).bun b = s.bun b := by
  induction bs generalizing s with
  | nil => rfl
  | cons c bs ih =>
    obtain ⟨ne, later⟩ := not_or.1 (mt List.mem_cons.2 h)
    rw [List.foldl_cons, ih later, (Disturbed.patrol s c).others b ne]

/-- The bundles after `b` in a list are those before its patrol. -/
theorem State.bun_patrol_rest {b : BundleId} {bs : List BundleId} (nodup : (b :: bs).Nodup) (s : State) {c : BundleId}
    (mem : c ∈ bs) : (s.patrol b).bun c = s.bun c :=
  (Disturbed.patrol s b).others c fun e => (List.nodup_cons.1 nodup).1 (e ▸ mem)

theorem State.faults_patrols {bs : List BundleId} (nodup : bs.Nodup) (s : State) :
    (bs.foldl State.patrol s).faults = (bs.filter fun b => (s.bun b).mismatched).foldl
      (fun f b => f.add ⟨.recordCheck, some b, s.eventTime, 0⟩) s.faults := by
  induction bs generalizing s with
  | nil => rfl
  | cons b bs ih =>
    have rest : (bs.filter fun c => ((s.patrol b).bun c).mismatched) = bs.filter fun c => (s.bun c).mismatched :=
      List.filter_congr fun c mem => by rw [s.bun_patrol_rest nodup mem]
    have time : (s.patrol b).eventTime = s.eventTime := by unfold State.eventTime; rw [(Disturbed.patrol s b).rest]
    rw [List.foldl_cons, ih (List.nodup_cons.1 nodup).2, rest, time]
    cases h : (s.bun b).mismatched with
    | true => rw [List.filter_cons_of_pos (p := fun b => (s.bun b).mismatched) h, (State.patrol_mismatched h).faults]; rfl
    | false => rw [List.filter_cons_of_neg (p := fun b => (s.bun b).mismatched) (by rw [h]; exact nofun), State.patrol_sound h]

/-- Faults added one after another (R174). -/
theorem count_adds (bs : List BundleId) (f : Faults) (r : BundleId → FaultRecord) :
    (bs.foldl (fun f b => f.add (r b)) f).count = min (f.count + bs.length) (max f.count 255) := by
  induction bs generalizing f with
  | nil => simp
  | cons b bs ih =>
    rw [List.foldl_cons, ih, count_add, List.length_cons]
    omega

/-- A bundle whose queued packets the patrol withdraws. -/
def patrolWithdraws (s : State) (bs : List BundleId) (b : BundleId) : Bool :=
  decide (b ∈ bs) && (s.bun b).mismatched && (s.bun b).state.running

/-- Two ports with queues that differ by the entries filtered out and their count. -/
def Withdrawn (keep : QueueEntry → Bool) (x y : Net) : Prop :=
  y = { x with
    protection := x.protection.filter keep
    priority := x.priority.filter keep
    routine := x.routine.filter keep
    tx := { x.tx with withdrawn := y.tx.withdrawn } }

theorem Withdrawn.trans {f g : QueueEntry → Bool} {x y z : Net} (h : Withdrawn f x y) (k : Withdrawn g y z) :
    Withdrawn (fun e => g e && f e) x z := by
  unfold Withdrawn at *
  rw [k, h]
  simp only [List.filter_filter]

theorem Withdrawn.congr {f g : QueueEntry → Bool} {x y : Net} (h : Withdrawn f x y) (e : f = g) : Withdrawn g x y := e ▸ h

theorem Withdrawn.refl (x : Net) : Withdrawn (fun _ => true) x x := by
  unfold Withdrawn
  simp only [List.filter_true]

theorem withdrawn_patrol (s : State) (b : BundleId) (n : NetPort) :
    Withdrawn (fun e => !patrolWithdraws s [b] e.bundle) (s.net n) ((s.patrol b).net n) := by
  have own : ∀ c, patrolWithdraws s [b] c = (decide (c = b) && (s.bun b).mismatched && (s.bun b).state.running) := fun c => by
    unfold patrolWithdraws
    by_cases e : c = b
    · subst e; simp
    · simp [e]
  cases h : (s.bun b).mismatched with
  | false =>
    rw [State.patrol_sound h]
    exact (Withdrawn.refl _).congr (by funext e; rw [own, h]; simp)
  | true =>
    have nets := (State.patrol_mismatched h).nets
    cases running : (s.bun b).state.running with
    | false =>
      rw [running] at nets
      have same : (s.patrol b).net n = s.net n := by simp only [State.net, nets]; rfl
      rw [same]
      exact (Withdrawn.refl _).congr (by funext e; rw [own, running]; simp)
    | true =>
      rw [running] at nets
      have gone : (s.patrol b).net n = (s.net n).withdraw b := by
        rw [← State.net_withdraw]; simp only [State.net, nets]; rfl
      rw [gone]
      refine Withdrawn.congr (f := fun e => !(e.bundle == b)) rfl ?_
      funext e
      rw [own, h, running]
      simp [Bool.beq_eq_decide_eq]

theorem withdrawn_patrols {bs : List BundleId} (nodup : bs.Nodup) (s : State) (n : NetPort) :
    Withdrawn (fun e => !patrolWithdraws s bs e.bundle) (s.net n) ((bs.foldl State.patrol s).net n) := by
  induction bs generalizing s with
  | nil => exact (Withdrawn.refl _).congr (by funext e; simp [patrolWithdraws])
  | cons b bs ih =>
    refine ((withdrawn_patrol s b n).trans (ih (List.nodup_cons.1 nodup).2 (s.patrol b))).congr ?_
    funext e
    unfold patrolWithdraws
    by_cases mem : e.bundle ∈ bs
    · have ne : e.bundle ≠ b := fun same => (List.nodup_cons.1 nodup).1 (same ▸ mem)
      rw [s.bun_patrol_rest nodup mem]
      simp [mem, ne]
    · simp [mem]

/-- No port abandons its interval but those steered from a stopped bundle that was PLAYING (R162). -/
theorem State.trib_patrols {bs : List BundleId} (nodup : bs.Nodup) {s : State} {p : TribId}
    (h : ∀ b ∈ bs, (s.trib p).cfg.clock = .steered b → (s.bun b).mismatched = false ∨ (s.bun b).state ≠ .playing) :
    (bs.foldl State.patrol s).trib p = s.trib p := by
  induction bs generalizing s with
  | nil => rfl
  | cons b bs ih =>
    have first : (s.patrol b).trib p = s.trib p := by
      cases mismatched : (s.bun b).mismatched with
      | false => rw [State.patrol_sound mismatched]
      | true =>
        rw [(State.patrol_mismatched mismatched).steering p]
        refine if_neg fun k => ?_
        rcases h b List.mem_cons_self k.1 with sound | calm
        · exact absurd (mismatched.symm.trans sound) nofun
        · exact calm k.2
    rw [List.foldl_cons, ih (List.nodup_cons.1 nodup).2, first]
    intro c mem
    rw [first, s.bun_patrol_rest nodup mem]
    exact h c (List.mem_cons_of_mem _ mem)

theorem Posts.patrols (bs : List BundleId) (s : State) : ∃ es, Posts s (bs.foldl State.patrol s) es := by
  induction bs generalizing s with
  | nil => exact ⟨[], .refl s⟩
  | cons b bs ih =>
    have first : ∃ es, Posts s (s.patrol b) es := by
      cases h : (s.bun b).mismatched with
      | true => exact (State.patrol_mismatched h).posts.imp fun _ => And.left
      | false => rw [State.patrol_sound h]; exact ⟨[], .refl s⟩
    obtain ⟨es, told⟩ := first
    obtain ⟨fs, more⟩ := ih (s.patrol b)
    exact ⟨_, Posts.trans told more⟩

/-! ## One bundle's place in the patrol -/

/-- The patrol up to bundle `b`, its examination, and the rest. -/
structure PatrolSplit (u t : State) (b : BundleId) (pre post : List BundleId) : Prop where
  order : allBundles = pre ++ b :: post
  before : ∀ c ∈ pre, c < b
  after : ∀ c ∈ post, b < c
  ends : t = post.foldl State.patrol ((pre.foldl State.patrol u).patrol b)
  own : (pre.foldl State.patrol u).bun b = u.bun b
  last : t.bun b = ((pre.foldl State.patrol u).patrol b).bun b

theorem patrolSplit (u : State) (b : BundleId) :
    ∃ pre post, PatrolSplit u (allBundles.foldl State.patrol u) b pre post := by
  obtain ⟨pre, post, order⟩ := List.append_of_mem (List.mem_finRange b)
  have sorted : (pre ++ b :: post).Pairwise (· < ·) := by rw [← order]; exact List.pairwise_lt_finRange 64
  obtain ⟨-, tail, ahead⟩ := List.pairwise_append.1 sorted
  have before : ∀ c ∈ pre, c < b := fun c mem => ahead c mem b List.mem_cons_self
  have after : ∀ c ∈ post, b < c := (List.pairwise_cons.1 tail).1
  have ends : allBundles.foldl State.patrol u = post.foldl State.patrol ((pre.foldl State.patrol u).patrol b) := by
    rw [show allBundles = pre ++ b :: post from order, List.foldl_append, List.foldl_cons]
  refine ⟨pre, post, order, before, after, ends, State.bun_patrols_ne (fun mem => lt_irrefl b (before b mem)) u, ?_⟩
  rw [ends]
  exact State.bun_patrols_ne (fun mem => lt_irrefl b (after b mem)) _

theorem PatrolSplit.mismatched {u t : State} {b : BundleId} {pre post : List BundleId} (h : PatrolSplit u t b pre post)
    (found : (u.bun b).mismatched = true) :
    Faulted b (pre.foldl State.patrol u) ((pre.foldl State.patrol u).patrol b) :=
  State.patrol_mismatched (by rw [h.own]; exact found)

/-- A fault of the patrol is counted after those of the lower bundles. -/
theorem PatrolSplit.rank {u t : State} {b : BundleId} {pre post : List BundleId} (h : PatrolSplit u t b pre post)
    (found : (u.bun b).mismatched = true) :
    (allBundles.filter fun c => decide (c ≤ b) && (u.bun c).mismatched).length =
      (pre.filter fun c => (u.bun c).mismatched).length + 1 := by
  have lower : (pre.filter fun c => decide (c ≤ b) && (u.bun c).mismatched) = pre.filter fun c => (u.bun c).mismatched :=
    List.filter_congr fun c mem => by simp [(h.before c mem).le]
  have higher : (post.filter fun c => decide (c ≤ b) && (u.bun c).mismatched) = [] :=
    List.filter_eq_nil_iff.2 fun c mem => by simp [h.after c mem]
  rw [h.order, List.filter_append, List.filter_cons_of_pos (by simp [found]), lower, higher, List.length_append]
  rfl

theorem PatrolSplit.reported {u t : State} {b : BundleId} {pre post : List BundleId} (h : PatrolSplit u t b pre post)
    {es : List Event} {e : Event} (posts : Posts (pre.foldl State.patrol u) ((pre.foldl State.patrol u).patrol b) es)
    (mem : e ∈ es) : Reported t e := by
  obtain ⟨fs, more⟩ := Posts.patrols post ((pre.foldl State.patrol u).patrol b)
  rw [h.ends]
  exact (Posts.trans posts more).reported (List.mem_append_left _ mem)

/-! ## The whole patrol -/

/-- All bundles patrolled. -/
def State.patrolAll (u : State) : State := allBundles.foldl State.patrol u

theorem nodup_allBundles : allBundles.Nodup := List.nodup_finRange 64

theorem State.bun_patrolAll_sound {u : State} {b : BundleId} (sound : (u.bun b).mismatched = false) :
    u.patrolAll.bun b = u.bun b := by
  obtain ⟨pre, post, split⟩ := patrolSplit u b
  rw [State.patrolAll, split.last, State.patrol_sound (by rw [split.own]; exact sound), split.own]

theorem State.bun_patrolAll_idle {u : State} {b : BundleId} (found : (u.bun b).mismatched = true)
    (idle : (u.bun b).state.running = false) :
    u.patrolAll.bun b = { u.bun b with recordFault := true, state := .stopped } := by
  obtain ⟨pre, post, split⟩ := patrolSplit u b
  have own := (split.mismatched found).idle
  rw [split.own] at own
  exact split.last.trans (own idle)

theorem State.bun_patrolAll_running {u : State} {b : BundleId} (found : (u.bun b).mismatched = true)
    (running : (u.bun b).state.running = true) :
    Retimed { (u.bun b).halted with recordFault := true, state := .stopped } (u.patrolAll.bun b) := by
  obtain ⟨pre, post, split⟩ := patrolSplit u b
  have own := (split.mismatched found).running
  rw [split.own] at own
  rw [State.patrolAll, split.last]
  exact own running

/-- A mismatched record is kept, its bundle STOPPED (R40). -/
theorem State.bun_patrolAll_mismatched {u : State} {b : BundleId} (found : (u.bun b).mismatched = true) :
    (u.patrolAll.bun b).recordFault = true ∧ (u.patrolAll.bun b).state = .stopped ∧
    (u.patrolAll.bun b).active = (u.bun b).active ∧ (u.patrolAll.bun b).poolCharge = (u.bun b).poolCharge := by
  cases running : (u.bun b).state.running with
  | false => rw [State.bun_patrolAll_idle found running]; exact ⟨rfl, rfl, rfl, rfl⟩
  | true =>
    obtain ⟨d, -, own⟩ := State.bun_patrolAll_running found running
    rw [own]
    exact ⟨rfl, rfl, rfl, rfl⟩

theorem reported_patrolAll {u : State} {b : BundleId} (found : (u.bun b).mismatched = true) :
    Reported u.patrolAll (bundleStateEvent u b (u.bun b).state .stopped .recordFault) ∧
    ((u.bun b).state.running = true → ∀ e ∈ haltEvents u b, Reported u.patrolAll e) := by
  obtain ⟨pre, post, split⟩ := patrolSplit u b
  obtain ⟨es, posts, -, change, halt⟩ := (split.mismatched found).posts
  have now := eventNow_of_now (State.now_patrols pre u)
  have events : haltEvents (pre.foldl State.patrol u) b = haltEvents u b := by unfold haltEvents; rw [split.own, now]
  rw [split.own, bundleStateEvent, now] at change
  rw [split.own, events] at halt
  exact ⟨split.reported posts change, fun running e mem => split.reported posts (halt running e mem)⟩

theorem reported_patrolAll_fault {u : State} {b : BundleId} (found : (u.bun b).mismatched = true) :
    Reported u.patrolAll (faultEvent u .recordCheck (some b)
      (allBundles.filter fun c => decide (c ≤ b) && (u.bun c).mismatched).length) := by
  obtain ⟨pre, post, split⟩ := patrolSplit u b
  obtain ⟨es, posts, fault, -, -⟩ := (split.mismatched found).posts
  have distinct : pre.Nodup := by
    have all := nodup_allBundles
    rw [split.order] at all
    exact (List.nodup_append.1 all).1
  have count : (pre.foldl State.patrol u).faults.count = min (u.faults.count +
      (pre.filter fun c => (u.bun c).mismatched).length) (max u.faults.count 255) := by
    rw [State.faults_patrols distinct, count_adds]
  have same : faultEvent (pre.foldl State.patrol u) .recordCheck (some b) 1 = faultEvent u .recordCheck (some b)
      ((pre.filter fun c => (u.bun c).mismatched).length + 1) := by
    unfold faultEvent
    rw [eventNow_of_now (State.now_patrols pre u), count]
    congr 3
    omega
  rw [split.rank found, ← same]
  exact split.reported posts fault

/-- A port steered from a stopped bundle that was PLAYING abandons its interval (R162). -/
theorem State.trib_patrolAll_abandoned {u : State} {p : TribId} {b : BundleId} (clock : (u.trib p).cfg.clock = .steered b)
    (found : (u.bun b).mismatched = true) (playing : (u.bun b).state = .playing) :
    u.patrolAll.trib p = { u.trib p with steer := (u.trib p).steer.abandon } := by
  obtain ⟨pre, post, split⟩ := patrolSplit u b
  obtain ⟨first, tail, -⟩ := List.nodup_append.1 (split.order ▸ nodup_allBundles)
  obtain ⟨-, later⟩ := List.nodup_cons.1 tail
  have before : (pre.foldl State.patrol u).trib p = u.trib p := State.trib_patrols first fun c mem steered => by
    obtain rfl : b = c := TxClock.steered.inj (clock.symm.trans steered)
    exact absurd (split.before b mem) (lt_irrefl b)
  have own := (split.mismatched found).steering p
  rw [split.own, before, if_pos ⟨clock, playing⟩] at own
  rw [State.patrolAll, split.ends, ← own]
  refine State.trib_patrols later fun c mem steered => ?_
  rw [own] at steered
  obtain rfl : b = c := TxClock.steered.inj (clock.symm.trans steered)
  exact absurd (split.after b mem) (lt_irrefl b)

/-- The queues keep the entries of the bundles that the patrol does not stop. -/
theorem State.withdrawn_patrolAll (u : State) (n : NetPort) :
    Withdrawn (fun e => !((u.bun e.bundle).mismatched && (u.bun e.bundle).state.running)) (u.net n) (u.patrolAll.net n) := by
  refine (withdrawn_patrols nodup_allBundles u n).congr ?_
  funext e
  unfold patrolWithdraws
  rw [decide_eq_true (p := e.bundle ∈ allBundles) (List.mem_finRange e.bundle), Bool.true_and]

theorem State.nothingQueued_patrolAll {u : State} {b : BundleId} (found : (u.bun b).mismatched = true)
    (running : (u.bun b).state.running = true) : NothingQueued u.patrolAll b := fun n e mem own => by
  have queues := u.withdrawn_patrolAll n
  unfold Withdrawn at queues
  rw [queues] at mem
  simp only [← List.filter_append, List.mem_filter] at mem
  rw [own, found, running] at mem
  exact absurd mem.2 nofun

/-! ## The records read, then patrolled -/

/-- What the reads leave as it was. -/
theorem State.bun_readRecords (reads : List (BundleId × Record)) (s : State) (b : BundleId) :
    ∃ active, (reads.foldl State.readRecord s).bun b = { s.bun b with active := active } := by
  by_cases h : (s.bun b).Readable
  · obtain ⟨active, read⟩ := State.bun_readRecords_readable reads h
    exact ⟨some active, read⟩
  · exact ⟨(s.bun b).active, State.bun_readRecords_untouched (by
      by_contra k
      simp only [not_or] at k
      exact h ⟨k.1, Bool.eq_false_of_not_eq_true k.2.1⟩)⟩

theorem Bundle.mismatched_of_active {x : Bundle} {r : Record} (active : x.active = some r) (sound : x.recordFault = false)
    (ne : Config.checkWord r ≠ x.check) : x.mismatched = true := by
  unfold Bundle.mismatched
  rw [active, sound]
  exact bne_iff_ne.2 ne

/-- What a halted bundle keeps and what it gives up (R37, R40). -/
theorem Retimed.halted_fields {x y : Bundle} (h : Retimed { x.halted with recordFault := true, state := .stopped } y) :
    y = { x with
      recordFault := true
      state := .stopped
      assembly := { x.assembly with buffer := [], frames := 0, faultMark := false, held := [] }
      playout := y.playout
      delay := y.delay
      supervisor := y.supervisor } ∧
    RingEmpty y.playout x.playout.ring.length ∧ y.playout.period = .none ∧
    y.playout.phase = .waitPacket ∧ y.playout.estimateWait = none ∧
    y.playout.counters = x.playout.counters ∧ DelayCleared y.delay ∧
    (∀ p, y.supervisor.path.atPath p = { x.supervisor.path.atPath p with lossTimer := none }) ∧
    y.supervisor.startWait = none ∧
    y.supervisor.selector = { x.supervisor.selector with
      holdOff := none, restore := none, mismatchTimer := none, mismatch := false } := by
  obtain ⟨d, kept, rfl⟩ := h
  obtain ⟨empty, -, -, cleared, -⟩ := x.halted_spec
  exact ⟨rfl, empty, rfl, rfl, rfl, rfl, kept.cleared cleared, fun p => by cases p <;> rfl, rfl, rfl⟩

theorem mem_haltEvents_adjust {s : State} {b : BundleId} (adjusting : (s.bun b).playout.adjust ≠ none) :
    eventNow s .depthAdjust (.bundle b) (3 * 67108864) ∈ haltEvents s b := by
  unfold haltEvents
  rw [if_pos (Option.isSome_iff_ne_none.2 adjusting)]
  exact List.mem_append_left _ List.mem_cons_self

theorem mem_haltEvents_mismatch {s : State} {b : BundleId} (set : (s.bun b).supervisor.selector.mismatch = true) :
    eventNow s .pathMismatch (.bundle b) ((s.bun b).supervisor.selector.active.code * 256 +
      announcementCode (s.bun b).supervisor.selector.announcement) ∈ haltEvents s b := by
  unfold haltEvents
  rw [if_pos set]
  exact List.mem_append_right _ List.mem_cons_self

/-- Settles O45: the reads change records alone, so the patrol is that of the state with the records as they read,
bundle by bundle. -/
theorem recordPatrolStopsAFaultedBundle : Obligations.RecordPatrolStopsAFaultedBundle := by
  intro s u reads read
  have frame : u = { s with bundles := u.bundles } := by rw [← read]; exact State.readRecords_frame reads s
  have state : ∀ b, (u.bun b).state = (s.bun b).state := fun b => by
    obtain ⟨active, own⟩ := State.bun_readRecords reads s b
    rw [← read, own]
  have now : u.now = s.now := by rw [frame]
  have time : u.eventTime = s.eventTime := by unfold State.eventTime; rw [now]
  have faults : u.faults = s.faults := by rw [frame]
  have trib : ∀ p, u.trib p = s.trib p := fun p => by rw [frame]; rfl
  have net : ∀ n, u.net n = s.net n := fun n => by rw [frame]; rfl
  have event := eventNow_of_now now
  have counted := State.faults_patrols nodup_allBundles u
  rw [time, faults] at counted
  refine ⟨frame, fun b h => read ▸ State.bun_readRecords_untouched h, ?_, u.patrolAll, ?_, counted, ?_, ?_, ?_, ?_, ?_, ?_,
    fun b sound => State.bun_patrolAll_sound sound, ?_, ?_⟩
  · rintro b r pre post rfl last present sound
    rw [← read]
    exact State.bun_readRecords_last ⟨present, sound⟩ last
  · rw [← read]; rfl
  · rintro b k found rfl
    have fault := reported_patrolAll_fault found
    rw [faultEvent, event, faults] at fault
    exact fault
  · have before : PatrolFrame s u := by
      unfold PatrolFrame
      rw [frame]
    exact before.trans (State.patrols_frame allBundles u)
  · refine fun p => ⟨fun calm => ?_, fun b clock found playing => ?_⟩
    · rw [← trib p]
      exact State.trib_patrols nodup_allBundles fun b _ clock => by
        rw [state]
        exact calm b (by rw [← trib p]; exact clock)
    · rw [← trib p]
      exact State.trib_patrolAll_abandoned (by rw [trib p]; exact clock) found (by rw [state]; exact playing)
  · rintro n keep rfl
    have queues := u.withdrawn_patrolAll n
    simp only [state] at queues
    rw [← net n]
    exact queues
  · intro b found idle
    exact State.bun_patrolAll_idle found (by rw [state]; exact idle)
  · rintro b x y found running rfl rfl
    rw [← state] at running
    obtain ⟨frame, empty, period, phase, wait, counters, cleared, paths, start, selector⟩ :=
      (State.bun_patrolAll_running found running).halted_fields
    have told := (reported_patrolAll found).2 running
    rw [← event]
    exact ⟨frame, empty, period, phase, wait, counters, cleared, State.nothingQueued_patrolAll found running, paths, start,
      selector, fun adjusting => told _ (mem_haltEvents_adjust adjusting), fun set => told _ (mem_haltEvents_mismatch set)⟩
  · intro b r active sound ne
    have found := Bundle.mismatched_of_active active sound ne
    obtain ⟨fault, stopped, kept, charge⟩ := State.bun_patrolAll_mismatched found
    have told := (reported_patrolAll found).1
    rw [state, bundleStateEvent, event] at told
    exact ⟨fault, stopped, kept.trans active, charge, told⟩
  · intro few
    have count : u.patrolAll.faults.count = min (s.faults.count +
        (allBundles.filter fun b => (u.bun b).mismatched).length) (max s.faults.count 255) := by
      rw [State.patrolAll, counted, count_adds]
    rw [count, max_eq_right few, min_comm]

end Sys2Proof.Machine
end
